-- ==== Sys2Proof/Word.lean ====
section
/-!
DEFINITION. The block's plain quantities: octets, and the lay tick in which every time of the model is counted.
-/
namespace Sys2Proof

/-- One octet on a wire or in memory. -/
abbrev Byte := BitVec 8

/-- A time or a duration in ticks of 5 ns (R8: the tk value governs). -/
abbrev Tick := Nat

end Sys2Proof
end

