-- ==== Sys2Proof/Syntax.lean ====
section
/-!
DEFINITION. The commands of the block: one constructor per row of spec/opcode_table.json, in the table's families. Every
command carries the tick (5 ns) at which it takes place, then the row's operands: what its sender gives (a requester, an
object, a value) or what the world outside the block shows it (a detection, a measurement, a frame, a syndrome).
-/
namespace Sys2Proof

/-- The transports of the object dictionary (Table 2.3, TRANSPORT). -/
inductive Transport where
  | can | udp | csr
deriving DecidableEq, Repr

/-- TRANSPORT[15:8] of SHADOW_OWNER: 0 CAN FD, 1 UDP, 2 CSR window. -/
def Transport.code : Transport → Nat
  | .can => 0
  | .udp => 1
  | .csr => 2

/-- Who makes a dictionary request, and where it goes: the transport, the JOT node ID or hart number, on UDP the source IP address and
port as one number (R77; 0 elsewhere), and the TAG of the request (0 on the CSR window). -/
structure Req where
  tr : Transport
  src : Nat
  host : Nat
  tag : Nat
  /-- DEST of the identifier (R65); 0 on the CSR window. -/
  dest : Nat
  /-- The UDP port that the datagram goes to (R75); 0 elsewhere. -/
  port : Nat
  /-- The IP address that the datagram goes to, an IPv4 one below 2^32; on the CSR window 1 at the shadow alias (R82); else 0. -/
  addr : Nat
deriving DecidableEq, Repr

/-- What an ARP, neighbour discovery or echo frame on the management port asks for (R76). -/
inductive MgmtAsk where
  /-- ARP for an IPv4 address. -/
  | arp (target : Nat)
  /-- Neighbour solicitation for an IPv6 address. -/
  | nd (target : Nat)
  /-- ICMP echo request to an IPv4 address, with its octets as a number. -/
  | echo4 (target data : Nat)
  /-- ICMPv6 echo request to an IPv6 address, with its octets as a number. -/
  | echo6 (target data : Nat)
deriving DecidableEq, Repr

/-- What a management-port frame is that may have to be dropped (R76). -/
inductive MgmtFrame where
  /-- A frame that is not JOT addressed to Carand's UDP port, nor a request Carand answers. -/
  | foreign
  /-- A UDP datagram: the address and port it goes to, its length in octets, its 32-bit identifier word, and whether it carries an
  expedited READ of index 0x1000. -/
  | datagram (addr port length word : Nat) (readIdentity : Bool)
deriving DecidableEq, Repr

/-- What a lane reads in a header: the FSK PHR's mode-switch bit, the OFDM header's check and RATE (an MCS), each with the FCS
length and the PSDU length; or the 56 bits of the ply header (Tables 6.9 and 6.14). -/
inductive AirHeader where
  | fsk (ms fcs32 fec whitened : Bool) (length : Nat)
  | ofdm (hcsOk : Bool) (mcs : Nat) (fcs32 : Bool) (length : Nat)
  | ply (word : Nat)
deriving DecidableEq, Repr

/-- The best correlation of a stream with the preamble waveform of the profile it is searched with (R207): |Σ r·p*|², Σ|r|² and Σ|p|² over
the window, and the frequency step of 500 Hz at which it stands. -/
structure Correlation where
  power : Nat
  received : Nat
  reference : Nat
  step : Int
deriving DecidableEq, Repr

/-- The measured figures of a reception (R231): combined RSSI in 0.25 dBm, RSSI of each chain in dBm, SNR in 0.25 dB, EVM in 0.1 %. -/
structure Measured where
  rssi : Int
  rssi1 : Int
  rssi2 : Int
  snr : Int
  evm : Nat
deriving DecidableEq, Repr

/-- How the decoding of a ply burst ends (R241, R242, R245): a codeword fails its parity check; or what the PSDU is: a ply frame (header,
body and tag), a sounding with the SNR of each link tone in 0.25 dB, or a loading frame. -/
inductive PlyEnd where
  | ldpcFail
  | frame (psdu : List Byte)
  | sounding (snr : List Int)
  | loading (psdu : List Byte)
deriving DecidableEq, Repr

/-- How a key fetch ends (R303): record and wrap sound, a check of the record failed, or two lanyard transfers in a row failed. -/
inductive FetchEnd where
  | sound
  | checkFails
  | lanyardFails
deriving DecidableEq, Repr

/-- What the boot ROM finds of an image (R386, R387): the flash reads without error, the header is well formed, the length of header and body
in octets, the public key (X, then Y) and the signature (r, then s) that the header carries, 64 octets each, the octets of the header that the
signature covers, and the body. -/
structure BootImage where
  readable : Bool
  formed : Bool
  length : Nat
  key : Nat
  sig : Nat
  head : List Byte
  loadAddr : Nat
  entry : Nat
  bodyLen : Nat
  body : Nat
deriving DecidableEq, Repr

/-- The line of a core cache that was read (R378). -/
inductive CacheLine where
  | clean
  | dirtyL1
  | dirtyL2
deriving DecidableEq, Repr

/-- What a block's data belongs to (R409): a frame in a port's queue, a cipher job, a task item, a queued datagram, or something else. -/
inductive BlockData where
  | frame (num : Nat)
  | job (id : Nat)
  | item (seq : Nat)
  | datagram (id : Nat)
  | other
deriving DecidableEq, Repr

/-- What the data of a memory read belongs to (R409). -/
inductive ReadUse where
  /-- A load, store or instruction access of a hart. -/
  | hart (h : Fin 16)
  /-- A frame, job, entry or item of a block. -/
  | block (d : BlockData)
  /-- The sensor entry of an index. -/
  | sensor (index : Fin 262144)
  /-- A line of a cache of a hart or its cluster (R378). -/
  | cache (h : Fin 16) (line : CacheLine)
  /-- The entry of a slot in the key cache (R304). -/
  | keyCache (slot : Fin 1048576)
  /-- A lane's, engine's or core's own storage, by resource ID (Table 4.1, order 1). -/
  | own (id : Nat)
deriving DecidableEq, Repr

/-- One trained step restored by a TRAIN_TABLE write (R433): rate, rank, step and its values. -/
structure TrainEntry where
  rate : Nat
  rank : Nat
  step : Nat
  values : List Nat
deriving DecidableEq, Repr

/-- The commands (spec/opcode_table.json). -/
inductive Instr where
  /-- JOT_READ: REQ READ; `count` is the header's COUNT, `present` the octets in the frame after the header. DEST 0 is a broadcast. -/
  | jotRead (t : Tick) (r : Req) (shadow : Bool) (index sub count present : Nat)
  /-- JOT_WRITE: REQ WRITE with `count` octets, `val` their little-endian number. -/
  | jotWrite (t : Tick) (r : Req) (index sub count present val : Nat)
  /-- JOT_READ_SEG: REQ READ_SEG. -/
  | jotReadSeg (t : Tick) (r : Req) (shadow : Bool) (index sub count present : Nat)
  /-- JOT_WRITE_SEG: REQ WRITE_SEG with the total length. -/
  | jotWriteSeg (t : Tick) (r : Req) (index sub count present total : Nat)
  /-- JOT_SEG: a segment from the client: CMD, INDEX and SUBINDEX of its header, number, LAST, data length and data. -/
  | jotSeg (t : Tick) (r : Req) (cmd index sub num : Nat) (last : Bool) (len val : Nat)
  /-- JOT_BLKACK: the client's BLKACK: CMD, INDEX and SUBINDEX of its header, and the next segment number it expects. -/
  | jotBlkack (t : Tick) (r : Req) (cmd index sub num : Nat)
  /-- JOT_ABORT_RX: an ABORT from the client for the transfer of its SOURCE and TAG. -/
  | jotAbortRx (t : Tick) (r : Req)
  /-- JOT_UNKNOWN_COMMAND: a REQ with the command code `cmd`. -/
  | jotUnknownCommand (t : Tick) (r : Req) (cmd index sub : Nat)
  /-- JOT_TRANSFER_TIMEOUT of the open transfer of a requester and tag. -/
  | jotTransferTimeout (t : Tick) (r : Req)
  /-- SVC_OPEN request. -/
  | svcOpen (t : Tick) (r : Req) (count present : Nat)
  /-- SVC_PROVE request with its proof. -/
  | svcProve (t : Tick) (r : Req) (count present proof : Nat)
  /-- SVC_CLOSE request. -/
  | svcClose (t : Tick) (r : Req) (count present : Nat)
  /-- SVC_IDLE_TIMEOUT. -/
  | svcIdleTimeout (t : Tick)
  /-- SVC_LOCKOUT_EXPIRE. -/
  | svcLockoutExpire (t : Tick)
  /-- CSR_SVC_CHALLENGE: a hart reads `1103.06`. -/
  | csrSvcChallenge (t : Tick) (hart : Fin 16)
  /-- CSR_SVC_PROOF: a hart writes `1103.07`. -/
  | csrSvcProof (t : Tick) (hart : Fin 16) (proof : Nat)
  /-- CSR_SVC_CLOSE: a hart writes `1103.08`. -/
  | csrSvcClose (t : Tick) (hart : Fin 16) (val : Nat)
  /-- HEARTBEAT_TIMER. -/
  | heartbeatTimer (t : Tick)
  /-- CAN_FRAME_IGNORED: a CAN frame on the bus: FD or classic, with a 29-bit or an 11-bit identifier, the identifier, and whether it
  is an expedited READ of index 0x1000. -/
  | canFrameIgnored (t : Tick) (fd ext : Bool) (ident : Nat) (readIdentity : Bool)
  /-- CAN_BUS_OFF. -/
  | canBusOff (t : Tick)
  /-- CAN_BUS_OFF_RECOVERY: the 128th occurrence of 11 recessive bits. -/
  | canBusOffRecovery (t : Tick)
  /-- MGMT_ARP_ND_ECHO. -/
  | mgmtArpNdEcho (t : Tick) (ask : MgmtAsk)
  /-- MGMT_FRAME_DROPPED. -/
  | mgmtFrameDropped (t : Tick) (frame : MgmtFrame)
  /-- MGMT_PORT_RESET. -/
  | mgmtPortReset (t : Tick)
  /-- OBJECT_WRITE: a write of `len` octets, `val` their little-endian number. -/
  | objectWrite (t : Tick) (r : Req) (index sub len val : Nat)
  /-- SEQSTAT_WRITE_BACK: a write of a SEQSTAT object. -/
  | seqstatWriteBack (t : Tick) (r : Req) (index sub val : Nat)
  /-- SLOW_COPY_APPLY: the SLOW edge at which waiting slow-copy writes take effect. -/
  | slowCopyApply (t : Tick)
  /-- SHADOW_WRITE: a write of an RWS sub-index. -/
  | shadowWrite (t : Tick) (r : Req) (index sub len val : Nat)
  /-- COMMIT_APPLY: COMMIT of a group written with APPLY. -/
  | commitApply (t : Tick) (r : Req) (index : Nat)
  /-- COMMIT_DISCARD: COMMIT of a group written with DISCARD. -/
  | commitDiscard (t : Tick) (r : Req) (index : Nat)
  /-- COMMIT_BOUNDARY: the boundary of a group comes. -/
  | commitBoundary (t : Tick) (index : Nat)
  /-- SHADOW_TIMEOUT of a group's owner. -/
  | shadowTimeout (t : Tick) (index : Nat)
  /-- COMMIT_NO_BOUNDARY of a pending group. -/
  | commitNoBoundary (t : Tick) (index : Nat)
  /-- CSR_READ_LATCH: a hart reads a word of a multi-word object at the active view or the shadow alias. -/
  | csrReadLatch (t : Tick) (hart : Fin 16) (shadow : Bool) (index sub word : Nat)
  /-- CSR_WORD_STAGE: a hart writes a word other than word 0 of an object's cell, at the active view or the shadow alias. -/
  | csrWordStage (t : Tick) (hart : Fin 16) (shadow : Bool) (index sub word val : Nat)
  /-- CSR_WORD0_COMMIT: a hart writes word 0 of a multi-word object. -/
  | csrWord0Commit (t : Tick) (hart : Fin 16) (shadow : Bool) (index sub val : Nat)
  /-- CSR_ACCESS_FAULT: a CSR window access of `width` bits at a physical address, with the value where it writes. -/
  | csrAccessFault (t : Tick) (hart : Fin 16) (addr width : Nat) (write : Bool) (val : Nat)
  /-- XFER_CONTROL_READ: CONTROL of a transfer cell written with 1. -/
  | xferControlRead (t : Tick) (hart : Fin 16) (shadow : Bool) (index sub : Nat)
  /-- XFER_CONTROL_WRITE: CONTROL of a transfer cell written with 2. -/
  | xferControlWrite (t : Tick) (hart : Fin 16) (shadow : Bool) (index sub : Nat)
  /-- XFER_COMPLETE: a hart's transfer of an object ends. -/
  | xferComplete (t : Tick) (hart : Fin 16) (index sub : Nat)
  /-- CORE_ACCESS_FAULT: a core access of `width` bits at a physical address; `fetch` for an instruction fetch. -/
  | coreAccessFault (t : Tick) (hart : Fin 16) (addr width : Nat) (write fetch : Bool) (val : Nat)
  /-- LAY_ENTRY_PRESENTED: the entry at a word of the running bank is presented at its tick. -/
  | layEntryPresented (t : Tick) (word : Nat)
  /-- SYNTH_HOP: `path` true for the transmit LO. -/
  | synthHop (t : Tick) (trx : Fin 3) (path : Bool) (channel : Fin 1024)
  /-- SYNTH_RECAL. -/
  | synthRecal (t : Tick) (trx : Fin 3) (path : Bool) (channel : Fin 1024)
  /-- SYNTH_OFF. -/
  | synthOff (t : Tick) (trx : Fin 3)
  /-- TX_CELL: the cell handle, its hitch, and the tick at which the lay closes the window. -/
  | txCell (t : Tick) (trx : Fin 3) (cell : Nat) (hitch : Option (Fin 1024)) (closes : Tick)
  /-- TX_PLY: the cell handle of the burst, the transceivers its entries stand on, its hitch and the closing tick. -/
  | txPly (t : Tick) (span : List (Fin 3)) (cell : Nat) (hitch : Option (Fin 1024)) (closes : Tick)
  /-- TX_IDLE. -/
  | txIdle (t : Tick) (trx : Fin 3)
  /-- RX_ON. -/
  | rxOn (t : Tick) (trx : Fin 3)
  /-- RX_SINGLE. -/
  | rxSingle (t : Tick) (trx : Fin 3)
  /-- RX_IDLE. -/
  | rxIdle (t : Tick) (trx : Fin 3)
  /-- TUNER_PRESET. -/
  | tunerPreset (t : Tick) (trx : Fin 3) (preset : Fin 256)
  /-- TUNER_HOLD. -/
  | tunerHold (t : Tick) (trx : Fin 3)
  /-- TUNER_MEASURE. -/
  | tunerMeasure (t : Tick) (trx : Fin 3)
  /-- LANE_CELL on a physical lane, with the tick at which the lay closes the window. -/
  | laneCell (t : Tick) (lane : Fin 768) (stream : Fin 512) (profile : Fin 64) (arm : Bool) (cell : Nat)
      (hitch : Option (Fin 1024)) (closes : Tick)
  /-- LANE_GANG on a physical lane. -/
  | laneGang (t : Tick) (lane : Fin 768) (stream : Fin 512) (segment : Fin 3) (gang : Fin 256) (cell : Nat)
      (hitch : Option (Fin 1024)) (closes : Tick)
  /-- LANE_RELEASE. -/
  | laneRelease (t : Tick) (lane : Fin 768)
  /-- CIPHER_RESERVE on a physical engine. -/
  | cipherReserve (t : Tick) (engine : Fin 32) (hitch : Fin 1024)
  /-- CIPHER_RELEASE. -/
  | cipherRelease (t : Tick) (engine : Fin 32)
  /-- SLUICE_GATE_SET: the 64 gate states. -/
  | sluiceGateSet (t : Tick) (port : Fin 4) (gates : Nat)
  /-- SLUICE_C0_WINDOW, with its closing tick. -/
  | sluiceC0Window (t : Tick) (port : Fin 4) (gates : Nat) (closes : Tick)
  /-- SLUICE_GUARD_WINDOW, with its closing tick. -/
  | sluiceGuardWindow (t : Tick) (port : Fin 4) (gates : Nat) (closes : Tick)
  /-- DRAM_REFRESH: rank 0 to 3 is channel 0 ranks 0 and 1, channel 1 ranks 0 and 1. -/
  | dramRefresh (t : Tick) (rank : Fin 4) (count : Fin 256)
  /-- DRAM_MAINT, with its closing tick. -/
  | dramMaint (t : Tick) (rank : Fin 4) (closes : Tick)
  /-- DRAM_END. -/
  | dramEnd (t : Tick) (rank : Fin 4)
  /-- TASK_C0_WINDOW on a physical hart. -/
  | taskC0Window (t : Tick) (hart : Fin 16) (flow : Fin 65536) (hitch : Option (Fin 1024)) (closes : Tick)
  /-- TASK_END. -/
  | taskEnd (t : Tick) (hart : Fin 16)
  /-- TEST_RUN on a resource ID (the logical one, for a lane, engine or core), with its test program and closing tick. -/
  | testRun (t : Tick) (id : Nat) (test : Nat) (closes : Tick)
  /-- TEST_END on a resource ID. -/
  | testEnd (t : Tick) (id : Nat)
  /-- BIGHT_CONTENTION on a physical lane. -/
  | bightContention (t : Tick) (lane : Fin 768) (stream : Fin 512) (cell : Nat) (closes : Tick)
  /-- BIGHT_CAPTURE on a physical lane. -/
  | bightCapture (t : Tick) (lane : Fin 768) (hitch : Option (Fin 1024)) (closes : Tick)
  /-- BIGHT_SPARE on a lane, engine or core resource ID. -/
  | bightSpare (t : Tick) (id : Nat)
  /-- BIGHT_END on a resource ID. -/
  | bightEnd (t : Tick) (id : Nat)
  /-- SLOT_BOUNDARY. -/
  | slotBoundary (t : Tick)
  /-- LAY_VERIFY: LAY_COMMAND written with 1. -/
  | layVerify (t : Tick) (r : Req)
  /-- VERIFY_DONE. -/
  | verifyDone (t : Tick)
  /-- LAY_ARM: LAY_COMMAND written with 2. -/
  | layArm (t : Tick) (r : Req)
  /-- LAY_DISARM: LAY_COMMAND written with 3. -/
  | layDisarm (t : Tick) (r : Req)
  /-- LAY_CLEAR: LAY_COMMAND written with 4. -/
  | layClear (t : Tick) (r : Req)
  /-- LAY_STOP: LAY_COMMAND written with 5. -/
  | layStop (t : Tick) (r : Req)
  /-- HITCH_CLEAR written with a hitch number or 0xFFFF. -/
  | hitchClear (t : Tick) (r : Req) (val : Nat)
  /-- RETIRED_CLEAR written with a member's bit number, 0x0400 + p, or 0xFFFF. -/
  | retiredClear (t : Tick) (r : Req) (val : Nat)
  /-- WHY_QUERY written. -/
  | whyQuery (t : Tick) (r : Req) (val : Nat)
  /-- THERMAL_TRIGGER: a region (0 DEMOD-L, 1 DEMOD-H, 2 CIPHER, 3 CORE-01, 4 CORE-23) reads a temperature in °C. -/
  | thermalTrigger (t : Tick) (region : Fin 5) (temp : Int)
  /-- FLOW_LOAD_TICK. -/
  | flowLoadTick (t : Tick)
  /-- TIER_DEMOTE of a sensor. -/
  | tierDemote (t : Tick) (sensor : Fin 262144)
  /-- MIGRATION_COPY_DONE of an object: its kind (Table 4.2, OBJECT_KIND) and number. -/
  | migrationCopyDone (t : Tick) (kind obj : Nat)
  /-- MIGRATION_SWITCH of an object. -/
  | migrationSwitch (t : Tick) (kind obj : Nat)
  /-- PAN_IDLE_POWER_DOWN. -/
  | panIdlePowerDown (t : Tick) (pan : Fin 16)
  /-- FORBID_EMPTIED: the members and pans of the pending group 0x3102 are empty. -/
  | forbidEmptied (t : Tick)
  /-- SYNTH_LOCK: the synthesizer of a transceiver reports lock. -/
  | synthLock (t : Tick) (trx : Fin 3)
  /-- SYNTH_LOCK_TIMEOUT. -/
  | synthLockTimeout (t : Tick) (trx : Fin 3)
  /-- SYNTH_FAULT. -/
  | synthFault (t : Tick) (trx : Fin 3)
  /-- SYNTH_LOCK_LOST. -/
  | synthLockLost (t : Tick) (trx : Fin 3)
  /-- STREAMS_VALID. -/
  | streamsValid (t : Tick) (trx : Fin 3)
  /-- CAL_GAP_START: a gap of the lay begins on a transceiver and ends at `gapEnd`. -/
  | calGapStart (t : Tick) (trx : Fin 3) (gapEnd : Tick)
  /-- CAL_RUN_DONE: the values a calibration run found, and the quality figures measured. -/
  | calRunDone (t : Tick) (trx : Fin 3) (values quality : List Int)
  /-- CAL_RX_DC: CAL_COMMAND with bit 0. -/
  | calRxDc (t : Tick) (r : Req) (trx : Fin 3)
  /-- CAL_RX_IQ: CAL_COMMAND with bit 1. -/
  | calRxIq (t : Tick) (r : Req) (trx : Fin 3)
  /-- CAL_TX_LO: CAL_COMMAND with bit 2. -/
  | calTxLo (t : Tick) (r : Req) (trx : Fin 3)
  /-- CAL_TX_IQ: CAL_COMMAND with bit 3. -/
  | calTxIq (t : Tick) (r : Req) (trx : Fin 3)
  /-- CAL_SYNTH_ALL: CAL_COMMAND with bit 4. -/
  | calSynthAll (t : Tick) (r : Req) (trx : Fin 3)
  /-- CAL_SYNTH_STALE: CAL_COMMAND with bit 5. -/
  | calSynthStale (t : Tick) (r : Req) (trx : Fin 3)
  /-- CAL_PERIOD_TIMER. -/
  | calPeriodTimer (t : Tick) (trx : Fin 3)
  /-- CAL_TEMP_TRIGGER: the die temperature reads `temp` °C. -/
  | calTempTrigger (t : Tick) (trx : Fin 3) (temp : Int)
  /-- SYNTH_STALE: the die temperature reads `temp` °C and a calibration entry becomes STALE. -/
  | synthStale (t : Tick) (trx : Fin 3) (channel : Fin 1024) (temp : Int)
  /-- MANUAL_HOP written. -/
  | manualHop (t : Tick) (r : Req) (trx : Fin 3) (val : Nat)
  /-- CAL_INVALIDATE written. -/
  | calInvalidate (t : Tick) (r : Req) (trx : Fin 3) (val : Nat)
  /-- TX_END: the last symbol of the transmission of a transceiver ends. -/
  | txEnd (t : Tick) (trx : Fin 3)
  /-- MASK_CHECK of a completed average: `violates` where a bin exceeds its segment's limit. -/
  | maskCheck (t : Tick) (trx : Fin 3) (bins : List (Int × Int))
  /-- POWER_MEASURE: forward power in 0.25 dBm and return loss in 0.1 dB over 16 µs. -/
  | powerMeasure (t : Tick) (trx : Fin 3) (fwd rl : Int)
  /-- TX_INHIBIT_CLEAR written. -/
  | txInhibitClear (t : Tick) (r : Req) (trx : Fin 3) (val : Nat)
  /-- DUTY_BIN_ROLL. -/
  | dutyBinRoll (t : Tick)
  /-- RAKE_DETECTION on a stream from its best correlation: its window's first symbol began at `start`. -/
  | rakeDetection (t : Tick) (stream : Fin 512) (corr : Correlation) (start : Tick)
  /-- LANE_OWN_DETECTION of a SEARCH lane. -/
  | laneOwnDetection (t : Tick) (lane : Fin 768) (corr : Correlation) (start : Tick)
  /-- LANE_SFD_FOUND by a lane: the AFC estimate in Hz that it freezes, and its SNR estimate in 0.25 dB. -/
  | laneSfdFound (t : Tick) (lane : Fin 768) (freqErr snr : Int)
  /-- LANE_SFD_TIMEOUT of a lane. -/
  | laneSfdTimeout (t : Tick) (lane : Fin 768)
  /-- LANE_PHR_CHECK of the header a lane read. -/
  | lanePhrCheck (t : Tick) (lane : Fin 768) (header : AirHeader)
  /-- LANE_FRAME_END: a lane's frame sends its last air symbol. -/
  | laneFrameEnd (t : Tick) (lane : Fin 768)
  /-- PSDU_DELIVERED by a lane's back end: the PSDU with its FCS, and the measured figures. -/
  | psduDelivered (t : Tick) (lane : Fin 768) (psdu : List Byte) (m : Measured)
  /-- PLY_BURST_END of the gang that a lane belongs to. -/
  | plyBurstEnd (t : Tick) (lane : Fin 768) (outcome : PlyEnd) (m : Measured)
  /-- SOUND_COMMAND written with a link ID. -/
  | soundCommand (t : Tick) (r : Req) (val : Nat)
  /-- FALLBACK_COMMAND written with a link ID. -/
  | fallbackCommand (t : Tick) (r : Req) (val : Nat)
  /-- REASM_TIMEOUT of the reassembly of a sensor's datagram_size and tag. -/
  | reasmTimeout (t : Tick) (sensor : Fin 262144) (size tag : Nat)
  /-- DL_LIFETIME_EXPIRY of the downlink datagram of a DATAGRAM_ID. -/
  | dlLifetimeExpiry (t : Tick) (id : Nat)
  /-- PARENT_LISTEN_TIMEOUT. -/
  | parentListenTimeout (t : Tick)
  /-- SENSOR_ADD: SENSOR_COMMAND written with 1. -/
  | sensorAdd (t : Tick) (r : Req)
  /-- SENSOR_UPDATE: SENSOR_COMMAND written with 2. -/
  | sensorUpdate (t : Tick) (r : Req)
  /-- SENSOR_UPDATE_APPLY of a sensor's waiting update. -/
  | sensorUpdateApply (t : Tick) (sensor : Fin 262144)
  /-- SENSOR_REMOVE: SENSOR_COMMAND written with 3. -/
  | sensorRemove (t : Tick) (r : Req)
  /-- SENSOR_FIND_EUI: SENSOR_COMMAND written with 4. -/
  | sensorFindEui (t : Tick) (r : Req)
  /-- SENSOR_FIND_SHORT: SENSOR_COMMAND written with 5. -/
  | sensorFindShort (t : Tick) (r : Req)
  /-- SENSOR_READ: SENSOR_COMMAND written with 6. -/
  | sensorRead (t : Tick) (r : Req)
  /-- KEY_FETCH_DONE of a key slot. -/
  | keyFetchDone (t : Tick) (slot : Fin 1048576) (outcome : FetchEnd)
  /-- CIPHER_PREEMPT: the next block boundary of an engine that a C0 job takes over. -/
  | cipherPreempt (t : Tick) (engine : Fin 32)
  /-- BITTERN_BLOCK_RELEASE: a counter operation of the job on an engine ends. -/
  | bitternBlockRelease (t : Tick) (engine : Fin 32)
  /-- CIPHER_JOB_END: the job on an engine ends. -/
  | cipherJobEnd (t : Tick) (engine : Fin 32)
  /-- KEY_IMPORT written: its length in octets and its octets. -/
  | keyImport (t : Tick) (r : Req) (len val : Nat)
  /-- KEY_IMPORT_ENTRY: the next entry of the batch. -/
  | keyImportEntry (t : Tick)
  /-- KEY_DELETE written. -/
  | keyDelete (t : Tick) (r : Req) (val : Nat)
  /-- SLOT_QUERY written. -/
  | slotQuery (t : Tick) (r : Req) (val : Nat)
  /-- REWRAP_DONE. -/
  | rewrapDone (t : Tick)
  /-- ETH_FRAME_RECEIVED: the last bit of a frame is at a port's RX balls: its octets with the FCS, and the FEC
  codewords corrected and uncorrectable since the frame before. -/
  | ethFrameReceived (t : Tick) (port : Fin 4) (frame : List Byte) (fecFixed fecBad : Nat)
  /-- FRAME_CLASSIFY of the next frame in hint order. -/
  | frameClassify (t : Tick)
  /-- LINK_UP: the link of a port is there; `word` is the partner's word where auto-negotiation runs: the base page of Clause 37, or the
  SGMII link word. -/
  | linkUp (t : Tick) (port : Fin 4) (word : Nat)
  /-- LINK_DOWN: the link of a port is lost. -/
  | linkDown (t : Tick) (port : Fin 4)
  /-- OAM_INFO_TIMER. -/
  | oamInfoTimer (t : Tick)
  /-- RULE_WRITE: RULE_COMMAND WRITE. -/
  | ruleWrite (t : Tick) (r : Req)
  /-- RULE_INVALIDATE: RULE_COMMAND INVALIDATE. -/
  | ruleInvalidate (t : Tick) (r : Req)
  /-- RULE_READ: RULE_COMMAND READ. -/
  | ruleRead (t : Tick) (r : Req)
  /-- RULE_CLEAR_HITS: RULE_COMMAND CLEAR_HITS. -/
  | ruleClearHits (t : Tick) (r : Req)
  /-- SLUICE_FRAME_START at a port. -/
  | sluiceFrameStart (t : Tick) (port : Fin 4)
  /-- ETH_FRAME_SENT at a port. -/
  | ethFrameSent (t : Tick) (port : Fin 4)
  /-- PAUSE_EXPIRE of a priority at a port. -/
  | pauseExpire (t : Tick) (port : Fin 4) (prio : Fin 8)
  /-- HOST_TAIL written. -/
  | hostTailWrite (t : Tick) (r : Req) (val : Nat)
  /-- PPS_PULSE: an edge on PPS_IN, `falling` or rising, at `frac` eighths of a tick after `t`. -/
  | ppsPulse (t : Tick) (falling : Bool) (frac : Fin 8)
  /-- PPS_MISSED. -/
  | ppsMissed (t : Tick)
  /-- PPS_NEXT_S written. -/
  | ppsNextSWrite (t : Tick) (r : Req) (val : Nat)
  /-- PTP_SYNC_TIMER of a port. -/
  | ptpSyncTimer (t : Tick) (port : Fin 4)
  /-- PTP_ANNOUNCE_TIMER of a port. -/
  | ptpAnnounceTimer (t : Tick) (port : Fin 4)
  /-- PTP_ANNOUNCE_TIMEOUT of a port. -/
  | ptpAnnounceTimeout (t : Tick) (port : Fin 4)
  /-- SWITCH_HOLD_EXPIRE of a source of Table 10.1. -/
  | switchHoldExpire (t : Tick) (source : Fin 4)
  /-- HOLDOVER_EXPIRE. -/
  | holdoverExpire (t : Tick)
  /-- TS_POP of a port written. -/
  | tsPop (t : Tick) (r : Req) (port : Fin 4) (val : Nat)
  /-- PTP_DELAY_REQ_TIMER of a port. -/
  | ptpDelayReqTimer (t : Tick) (port : Fin 4)
  /-- BOOT_ROM_START with what flash slots A and B hold. -/
  | bootRomStart (t : Tick) (a b : BootImage)
  /-- RECOVERY_IMAGE written. -/
  | recoveryImage (t : Tick) (r : Req) (image : BootImage)
  /-- HART_START written with a mask of harts. -/
  | hartStart (t : Tick) (r : Req) (mask : Nat)
  /-- HART_TIMER_FIRE: a hart's compare register, as its firmware last wrote it, is reached. -/
  | hartTimerFire (t : Tick) (hart : Fin 16) (cmp : Nat)
  /-- HART_SIP_WRITE. -/
  | hartSipWrite (t : Tick) (hart : Fin 16) (val : Nat)
  /-- WDT_KICK written. -/
  | wdtKick (t : Tick) (r : Req) (val : Nat)
  /-- WDT_PRETIMEOUT. -/
  | wdtPretimeout (t : Tick)
  /-- WDT_EXPIRE. -/
  | wdtExpire (t : Tick)
  /-- TASK_GET: a hart reads GET. -/
  | taskGet (t : Tick) (hart : Fin 16)
  /-- TASK_DONE: ITEM_SEQ and KEEP. -/
  | taskDone (t : Tick) (hart : Fin 16) (seq : Nat) (keep : Bool)
  /-- TASK_ENQ_ARG. -/
  | taskEnqArg (t : Tick) (hart : Fin 16) (arg : Nat)
  /-- TASK_ENQ: ADDR and FLOW. -/
  | taskEnq (t : Tick) (hart : Fin 16) (addr : Nat) (flow : Fin 65536)
  /-- TASK_FORWARD. -/
  | taskForward (t : Tick) (hart : Fin 16) (seq : Nat)
  /-- TASK_FREE. -/
  | taskFree (t : Tick) (hart : Fin 16) (addr : Nat)
  /-- CANCEL_SEQ_READ. -/
  | cancelSeqRead (t : Tick) (hart : Fin 16)
  /-- FLOW_WRITE: FLOW_COMMAND WRITE. -/
  | flowWrite (t : Tick) (r : Req)
  /-- FLOW_READ: FLOW_COMMAND READ. -/
  | flowRead (t : Tick) (r : Req)
  /-- FLOW_CANCEL: FLOW_COMMAND CANCEL. -/
  | flowCancel (t : Tick) (r : Req)
  /-- FLOW_STATUS: FLOW_COMMAND STATUS. -/
  | flowStatus (t : Tick) (r : Req)
  /-- WIN_RETURN: WIN_CTL bit 0 written with 1. -/
  | winReturn (t : Tick) (hart : Fin 16)
  /-- HART_LOAD_REFRESH. -/
  | hartLoadRefresh (t : Tick)
  /-- SERVICE_LIMIT_EXCEEDED by the item of a number. -/
  | serviceLimitExceeded (t : Tick) (seq : Nat)
  /-- MEMORY_READ of the codeword at a physical address by a source of Table 12.6; `flips` are the bits of the 144-bit codeword that have
  changed in the memory since it was last written or read: bit 72w + b is bit b of word w (R405). -/
  | memoryRead (t : Tick) (source : Nat) (addr : Nat) (flips : Nat) (use : ReadUse)
  /-- MEMORY_PARTIAL_WRITE of `len` octets at a physical address, `flips` the changed bits of the codeword there. -/
  | memoryPartialWrite (t : Tick) (source : Nat) (addr len val : Nat) (flips : Nat)
  /-- SCRUB_READ of the next codeword of the brine pool (0) or a DRAM channel (1, 2), `flips` its changed bits. -/
  | scrubRead (t : Tick) (memory : Fin 3) (flips : Nat)
  /-- PAN_INIT_DONE. -/
  | panInitDone (t : Tick) (pan : Fin 16)
  /-- PAN_RETAIN_REQ written. -/
  | panRetainReq (t : Tick) (r : Req) (val : Nat)
  /-- CH_INIT: CH_COMMAND INIT of a channel. -/
  | chInit (t : Tick) (r : Req) (ch : Fin 2)
  /-- CH_INIT_DONE: `ok` false where ZQCL or a mode-register readback failed. -/
  | chInitDone (t : Tick) (ch : Fin 2) (ok : Bool)
  /-- CH_MARK_READY. -/
  | chMarkReady (t : Tick) (r : Req) (ch : Fin 2)
  /-- CH_FREQ_CHANGE with RATE and ABORT_TRAINING. -/
  | chFreqChange (t : Tick) (r : Req) (ch : Fin 2) (rate : Fin 4) (abort : Bool)
  /-- FREQ_CHANGE_DONE. -/
  | freqChangeDone (t : Tick) (ch : Fin 2)
  /-- CH_RESET. -/
  | chReset (t : Tick) (r : Req) (ch : Fin 2)
  /-- SR_IDLE_ENTRY: the channel's queues have been empty for SR_IDLE_NS. -/
  | srIdleEntry (t : Tick) (ch : Fin 2)
  /-- SR_EXIT: a request to a channel in idle self-refresh. -/
  | srExit (t : Tick) (ch : Fin 2)
  /-- ZQ_OVERDUE on a rank. -/
  | zqOverdue (t : Tick) (rank : Fin 4)
  /-- TRAIN_COMMAND written. -/
  | trainCommand (t : Tick) (r : Req) (val : Nat)
  /-- TRAIN_RUN_DONE of a channel's step: per nibble or bit the left and right edge in taps (equal for a single value). -/
  | trainRunDone (t : Tick) (ch : Fin 2) (run : List (Nat × Nat))
  /-- TRAIN_TABLE_WRITE of a channel, by its decoded content. -/
  | trainTableWrite (t : Tick) (r : Req) (ch : Fin 2) (entries : List TrainEntry)
  /-- DOMAIN_REQ_ON: DOMAIN_REQ written with TARGET ON. -/
  | domainReqOn (t : Tick) (r : Req) (domain : Fin 16)
  /-- DOMAIN_REQ_IDLE. -/
  | domainReqIdle (t : Tick) (r : Req) (domain : Fin 16)
  /-- DOMAIN_REQ_DOZE. -/
  | domainReqDoze (t : Tick) (r : Req) (domain : Fin 16)
  /-- DOMAIN_REQ_OFF. -/
  | domainReqOff (t : Tick) (r : Req) (domain : Fin 16)
  /-- DOMAIN_IDLE_TIMER: the idle condition has held for IDLE_US. -/
  | domainIdleTimer (t : Tick) (domain : Fin 16)
  /-- DOMAIN_IDLE_WAKE. -/
  | domainIdleWake (t : Tick) (domain : Fin 16)
  /-- DOMAIN_DOZE_TIMER. -/
  | domainDozeTimer (t : Tick) (domain : Fin 16)
  /-- DOMAIN_SWITCH_OPEN of a domain that is ENTERING. -/
  | domainSwitchOpen (t : Tick) (domain : Fin 16)
  /-- WAKE_STEP_READY of a domain, or of its part `sub`. -/
  | wakeStepReady (t : Tick) (domain : Fin 16) (sub : Option (Fin 16))
  /-- WAKE_STEP_TIMEOUT of a domain, or of its part `sub`. -/
  | wakeStepTimeout (t : Tick) (domain : Fin 16) (sub : Option (Fin 16))
  /-- WAKE_RETRY of a domain, or of its part `sub`. -/
  | wakeRetry (t : Tick) (domain : Fin 16) (sub : Option (Fin 16))
  /-- PMIC_PG_LOST: PMIC_PG[n] has stayed low for 10 µs. -/
  | pmicPgLost (t : Tick) (domain : Fin 16)
  /-- FAULT_CLEAR written. -/
  | faultClear (t : Tick) (r : Req) (val : Nat)
  /-- SLEEP_REQ written. -/
  | sleepReq (t : Tick) (r : Req) (val : Nat)
  /-- SLEEP_WAKE by a source of WAKE_MASK: 0 CAN_JOT, 1 GPIO, 3 STAGE. -/
  | sleepWake (t : Tick) (source : Fin 4)
  /-- SLEEP_WAKE_TIMER. -/
  | sleepWakeTimer (t : Tick)
  /-- ROOT_PLL_UNLOCK: lock lost for more than 1 µs. -/
  | rootPllUnlock (t : Tick)
  /-- XTAL_START_FAIL. -/
  | xtalStartFail (t : Tick)
  /-- SUPPLY_EVAL at a SLOW edge, with the ADC's code of the sample. -/
  | supplyEval (t : Tick) (code : Fin 4096)
  /-- DYING_GASP. -/
  | dyingGasp (t : Tick)
  /-- S5_JOURNAL_WRITTEN. -/
  | s5JournalWritten (t : Tick)
  /-- S5_POWER_OFF. -/
  | s5PowerOff (t : Tick)
  /-- RESTART_HOLD_END. -/
  | restartHoldEnd (t : Tick)
  /-- PMBUS_READ: the READ_VIN word in LINEAR11, or `none` where the read failed. -/
  | pmbusRead (t : Tick) (vin : Option (Fin 65536))
  /-- POWER_ON with the levels of the straps STRAP_XTAL, STRAP_QSPI and TEST_EN. -/
  | powerOn (t : Tick) (xtal : Bool) (qspi : Bool) (testEn : Bool)
  /-- RESET_N_ASSERT: RESET_N has been low for `ns` nanoseconds. -/
  | resetNAssert (t : Tick) (ns : Nat)
  /-- RESET_N_RELEASE. -/
  | resetNRelease (t : Tick)
  /-- SNAPSHOT: SNAP_COMMAND written with 1. -/
  | snapshot (t : Tick) (r : Req)
  /-- COUNTER_CLEAR: SNAP_COMMAND written with 2. -/
  | counterClear (t : Tick) (r : Req)
  /-- SNAPSHOT_AND_CLEAR: SNAP_COMMAND written with 3. -/
  | snapshotAndClear (t : Tick) (r : Req)
  /-- EXPORT_TIMER. -/
  | exportTimer (t : Tick)
  /-- TEST_REQUEST written. -/
  | testRequest (t : Tick) (r : Req) (val : Nat)
  /-- TEST_VERDICT of the test on a physical resource, with FAIL_CODE (Table 14.6), 0 for a PASS. -/
  | testVerdict (t : Tick) (member : Nat) (failCode : Fin 7)
  /-- REINITIALIZATION_COMPLETE of a physical resource. -/
  | reinitializationComplete (t : Tick) (member : Nat)
  /-- NODE_ID_WRITE: `1100.01` written. -/
  | nodeIdWrite (t : Tick) (r : Req) (val : Nat)
  /-- REGION_PROFILE_WRITE: `1802.01` written, with the length in octets. -/
  | regionProfileWrite (t : Tick) (r : Req) (len val : Nat)
  /-- ROOT_ROTATE: `1803.01` written. -/
  | rootRotate (t : Tick) (r : Req) (val : Nat)
  /-- LIFECYCLE_PROVISION: LIFECYCLE written with 2. -/
  | lifecycleProvision (t : Tick) (r : Req)
  /-- LIFECYCLE_DEPLOY: LIFECYCLE written with 3. -/
  | lifecycleDeploy (t : Tick) (r : Req)
  /-- LIFECYCLE_RETIRE: LIFECYCLE written with 4. -/
  | lifecycleRetire (t : Tick) (r : Req)
  /-- BOOT_KEY_HASH_WRITE: `1804.01` written. -/
  | bootKeyHashWrite (t : Tick) (r : Req) (val : Nat)
  /-- OTP_RECORD_PROGRAMMED: the readback is as programmed, or differs. -/
  | otpRecordProgrammed (t : Tick) (good : Bool)
  /-- VDD_AON_REMOVED. -/
  | vddAonRemoved (t : Tick)
  /-- MGMT_PHY_POLL: whether the PHY's status register reports link. -/
  | mgmtPhyPoll (t : Tick) (link : Bool)
  /-- JTAG_DEBUG_REQUEST: halt a hart into DEBUG, or resume it. -/
  | jtagDebugRequest (t : Tick) (hart : Fin 16) (halt : Bool)
deriving DecidableEq, Repr

end Sys2Proof
end

