-- ==== Sys2Proof/WellFormed.lean ====
section
/-!
DEFINITION. Well-formed commands: every operand fits the field the spec gives it, a tick that closes a window does not lie before the
command's, and one at which something began does not lie after it. The meanings do not rest on it; a sender keeps to it.
-/
namespace Sys2Proof

/-- A value fits in `w` bits. -/
def fits (w v : Nat) : Bool := decide (v < 2 ^ w)

/-- A requester (R65, R77): SOURCE, DEST and TAG of 8 bits; a hart has number 0 to 15 and no host, tag, DEST or port; only a UDP
request comes from a host and goes to a port and an address. -/
def Req.wf (r : Req) : Bool :=
  match r.tr with
  | .csr => fits 4 r.src && r.host == 0 && r.tag == 0 && r.dest == 0 && r.port == 0 && fits 1 r.addr
  | .can => fits 8 r.src && r.host == 0 && fits 8 r.tag && fits 8 r.dest && r.port == 0 && r.addr == 0
  | .udp => fits 8 r.src && fits 144 r.host && fits 8 r.tag && fits 8 r.dest && fits 16 r.port && fits 128 r.addr

/-- A boot image (R386). -/
def BootImage.wf (b : BootImage) : Bool :=
  fits 32 b.length && fits 512 b.key && fits 512 b.sig && fits 64 b.loadAddr && fits 64 b.entry &&
    decide (b.bodyLen + b.head.length ≤ b.length) && fits (8 * b.bodyLen) b.body

/-- A training entry (R433). -/
def TrainEntry.wf (e : TrainEntry) : Bool := decide (e.rate < 3) && decide (e.rank < 2) && decide (1 ≤ e.step ∧ e.step ≤ 6)

/-- An ARP, neighbour discovery or echo request (R76). -/
def MgmtAsk.wf : MgmtAsk → Bool
  | .arp a => fits 32 a
  | .nd a => fits 128 a
  | .echo4 a _ => fits 32 a
  | .echo6 a _ => fits 128 a

/-- A management frame (R76). -/
def MgmtFrame.wf : MgmtFrame → Bool
  | .foreign => true
  | .datagram a p n w _ => fits 128 a && fits 16 p && fits 16 n && fits 32 w

/-- A header (Tables 6.9 and 6.14). -/
def AirHeader.wf : AirHeader → Bool
  | .fsk _ _ _ _ n => fits 11 n
  | .ofdm _ mcs _ n => decide (mcs < 7) && fits 11 n
  | .ply w => fits 56 w

/-- The end of a ply burst. -/
def PlyEnd.wf : PlyEnd → Bool
  | .ldpcFail => true
  | .frame p => decide (p.length < 2 ^ 14)
  | .sounding l => decide (l.length ≤ 4096)
  | .loading p => decide (p.length < 2 ^ 14)

/-- What a block's data belongs to. -/
def BlockData.wf : BlockData → Bool
  | .frame n => fits 32 n
  | .job n => fits 32 n
  | .item n => fits 32 n
  | .datagram n => fits 32 n
  | .other => true

/-- What a read is for: an own storage has a resource ID (Table 3.5). -/
def ReadUse.wf : ReadUse → Bool
  | .own id => fits 12 id
  | .hart _ => true
  | .block d => d.wf
  | .sensor _ => true
  | .cache _ _ => true
  | .keyCache _ => true

/-- A well-formed command. -/
def Instr.wf : Instr → Bool
  | .jotRead _ r _ index sub count present => r.wf && fits 16 index && fits 8 sub && fits 24 count && fits 16 present
  | .jotWrite _ r index sub count present val => r.wf && fits 16 index && fits 8 sub && fits 24 count && fits 16 present && fits (8 * count) val
  | .jotReadSeg _ r _ index sub count present => r.wf && fits 16 index && fits 8 sub && fits 24 count && fits 16 present
  | .jotWriteSeg _ r index sub count present total => r.wf && fits 16 index && fits 8 sub && fits 24 count && fits 16 present && fits 32 total
  | .jotSeg _ r cmd index sub num _ len val => r.wf && fits 8 cmd && fits 16 index && fits 8 sub && fits 24 num && fits 32 len && fits (8 * len) val
  | .jotBlkack _ r cmd index sub num => r.wf && fits 8 cmd && fits 16 index && fits 8 sub && fits 24 num
  | .jotAbortRx _ r => r.wf
  | .jotUnknownCommand _ r cmd index sub => r.wf && fits 8 cmd && fits 16 index && fits 8 sub
  | .jotTransferTimeout _ r => r.wf
  | .svcOpen _ r count present => r.wf && fits 24 count && fits 16 present
  | .svcProve _ r count present proof => r.wf && fits 24 count && fits 16 present && fits 128 proof
  | .svcClose _ r count present => r.wf && fits 24 count && fits 16 present
  | .svcIdleTimeout _ => true
  | .svcLockoutExpire _ => true
  | .csrSvcChallenge _ _ => true
  | .csrSvcProof _ _ proof => fits 128 proof
  | .csrSvcClose _ _ val => fits 32 val
  | .heartbeatTimer _ => true
  | .canFrameIgnored _ _ _ ident _ => fits 29 ident
  | .canBusOff _ => true
  | .canBusOffRecovery _ => true
  | .mgmtArpNdEcho _ ask => ask.wf
  | .mgmtFrameDropped _ frame => frame.wf
  | .mgmtPortReset _ => true
  | .objectWrite _ r index sub len val => r.wf && fits 16 index && fits 8 sub && fits 32 len && fits (8 * len) val
  | .seqstatWriteBack _ r index sub val => r.wf && fits 16 index && fits 8 sub && fits 32 val
  | .slowCopyApply _ => true
  | .shadowWrite _ r index sub len val => r.wf && fits 16 index && fits 8 sub && fits 32 len && fits (8 * len) val
  | .commitApply _ r index => r.wf && fits 16 index
  | .commitDiscard _ r index => r.wf && fits 16 index
  | .commitBoundary _ index => fits 16 index
  | .shadowTimeout _ index => fits 16 index
  | .commitNoBoundary _ index => fits 16 index
  | .csrReadLatch _ _ _ index sub word => fits 16 index && fits 8 sub && fits 4 word
  | .csrWordStage _ _ _ index sub word val => fits 16 index && fits 8 sub && fits 4 word && fits 32 val
  | .csrWord0Commit _ _ _ index sub val => fits 16 index && fits 8 sub && fits 32 val
  | .csrAccessFault _ _ addr width _ val => fits 56 addr && [8, 16, 32, 64].contains width && fits 64 val
  | .xferControlRead _ _ _ index sub => fits 16 index && fits 8 sub
  | .xferControlWrite _ _ _ index sub => fits 16 index && fits 8 sub
  | .xferComplete _ _ index sub => fits 16 index && fits 8 sub
  | .coreAccessFault _ _ addr width _ _ val => fits 56 addr && [8, 16, 32, 64].contains width && fits 64 val
  | .layEntryPresented _ word => fits 32 word
  | .synthHop _ _ _ _ => true
  | .synthRecal _ _ _ _ => true
  | .synthOff _ _ => true
  | .txCell t _ cell _ closes => fits 32 cell && decide (t ≤ closes)
  | .txPly t _ cell _ closes => fits 32 cell && decide (t ≤ closes)
  | .txIdle _ _ => true
  | .rxOn _ _ => true
  | .rxSingle _ _ => true
  | .rxIdle _ _ => true
  | .tunerPreset _ _ _ => true
  | .tunerHold _ _ => true
  | .tunerMeasure _ _ => true
  | .laneCell t _ _ _ _ cell _ closes => fits 32 cell && decide (t ≤ closes)
  | .laneGang t _ _ _ _ cell _ closes => fits 32 cell && decide (t ≤ closes)
  | .laneRelease _ _ => true
  | .cipherReserve _ _ _ => true
  | .cipherRelease _ _ => true
  | .sluiceGateSet _ _ gates => fits 64 gates
  | .sluiceC0Window t _ gates closes => fits 64 gates && decide (t ≤ closes)
  | .sluiceGuardWindow t _ gates closes => fits 64 gates && decide (t ≤ closes)
  | .dramRefresh _ _ _ => true
  | .dramMaint t _ closes => decide (t ≤ closes)
  | .dramEnd _ _ => true
  | .taskC0Window t _ _ _ closes => decide (t ≤ closes)
  | .taskEnd _ _ => true
  | .testRun t id test closes => fits 12 id && fits 16 test && decide (t ≤ closes)
  | .testEnd _ id => fits 12 id
  | .bightContention t _ _ cell closes => fits 32 cell && decide (t ≤ closes)
  | .bightCapture t _ _ closes => decide (t ≤ closes)
  | .bightSpare _ id => fits 12 id
  | .bightEnd _ id => fits 12 id
  | .slotBoundary _ => true
  | .layVerify _ r => r.wf
  | .verifyDone _ => true
  | .layArm _ r => r.wf
  | .layDisarm _ r => r.wf
  | .layClear _ r => r.wf
  | .layStop _ r => r.wf
  | .hitchClear _ r val => r.wf && fits 16 val
  | .retiredClear _ r val => r.wf && fits 16 val
  | .whyQuery _ r val => r.wf && fits 32 val
  | .thermalTrigger _ _ _ => true
  | .flowLoadTick _ => true
  | .tierDemote _ _ => true
  | .migrationCopyDone _ kind obj => fits 4 kind && fits 24 obj
  | .migrationSwitch _ kind obj => fits 4 kind && fits 24 obj
  | .panIdlePowerDown _ _ => true
  | .forbidEmptied _ => true
  | .synthLock _ _ => true
  | .synthLockTimeout _ _ => true
  | .synthFault _ _ => true
  | .synthLockLost _ _ => true
  | .streamsValid _ _ => true
  | .calGapStart t _ gapEnd => decide (t ≤ gapEnd)
  | .calRunDone _ _ _ _ => true
  | .calRxDc _ r _ => r.wf
  | .calRxIq _ r _ => r.wf
  | .calTxLo _ r _ => r.wf
  | .calTxIq _ r _ => r.wf
  | .calSynthAll _ r _ => r.wf
  | .calSynthStale _ r _ => r.wf
  | .calPeriodTimer _ _ => true
  | .calTempTrigger _ _ _ => true
  | .synthStale _ _ _ _ => true
  | .manualHop _ r _ val => r.wf && fits 32 val
  | .calInvalidate _ r _ val => r.wf && fits 16 val
  | .txEnd _ _ => true
  | .maskCheck _ _ _ => true
  | .powerMeasure _ _ _ _ => true
  | .txInhibitClear _ r _ val => r.wf && fits 8 val
  | .dutyBinRoll _ => true
  | .rakeDetection t _ _ start => decide (start ≤ t)
  | .laneOwnDetection t _ _ start => decide (start ≤ t)
  | .laneSfdFound _ _ _ _ => true
  | .laneSfdTimeout _ _ => true
  | .lanePhrCheck _ _ header => header.wf
  | .laneFrameEnd _ _ => true
  | .psduDelivered _ _ psdu _ => decide (psdu.length < 2 ^ 12)
  | .plyBurstEnd _ _ outcome _ => outcome.wf
  | .soundCommand _ r val => r.wf && fits 8 val
  | .fallbackCommand _ r val => r.wf && fits 8 val
  | .reasmTimeout _ _ size tag => fits 11 size && fits 16 tag
  | .dlLifetimeExpiry _ id => fits 32 id
  | .parentListenTimeout _ => true
  | .sensorAdd _ r => r.wf
  | .sensorUpdate _ r => r.wf
  | .sensorUpdateApply _ _ => true
  | .sensorRemove _ r => r.wf
  | .sensorFindEui _ r => r.wf
  | .sensorFindShort _ r => r.wf
  | .sensorRead _ r => r.wf
  | .keyFetchDone _ _ _ => true
  | .cipherPreempt _ _ => true
  | .bitternBlockRelease _ _ => true
  | .cipherJobEnd _ _ => true
  | .keyImport _ r len val => r.wf && fits 32 len && fits (8 * len) val
  | .keyImportEntry _ => true
  | .keyDelete _ r val => r.wf && fits 32 val
  | .slotQuery _ r val => r.wf && fits 32 val
  | .rewrapDone _ => true
  | .ethFrameReceived _ _ frame fecFixed fecBad => decide (frame.length < 2 ^ 16) && fits 64 fecFixed && fits 64 fecBad
  | .frameClassify _ => true
  | .linkUp _ _ word => fits 16 word
  | .linkDown _ _ => true
  | .oamInfoTimer _ => true
  | .ruleWrite _ r => r.wf
  | .ruleInvalidate _ r => r.wf
  | .ruleRead _ r => r.wf
  | .ruleClearHits _ r => r.wf
  | .sluiceFrameStart _ _ => true
  | .ethFrameSent _ _ => true
  | .pauseExpire _ _ _ => true
  | .hostTailWrite _ r val => r.wf && fits 32 val
  | .ppsPulse _ _ _ => true
  | .ppsMissed _ => true
  | .ppsNextSWrite _ r val => r.wf && fits 64 val
  | .ptpSyncTimer _ _ => true
  | .ptpAnnounceTimer _ _ => true
  | .ptpAnnounceTimeout _ _ => true
  | .switchHoldExpire _ _ => true
  | .holdoverExpire _ => true
  | .tsPop _ r _ val => r.wf && fits 32 val
  | .ptpDelayReqTimer _ _ => true
  | .bootRomStart _ a b => a.wf && b.wf
  | .recoveryImage _ r image => r.wf && image.wf
  | .hartStart _ r mask => r.wf && fits 16 mask
  | .hartTimerFire _ _ cmp => fits 64 cmp
  | .hartSipWrite _ _ val => fits 32 val
  | .wdtKick _ r val => r.wf && fits 32 val
  | .wdtPretimeout _ => true
  | .wdtExpire _ => true
  | .taskGet _ _ => true
  | .taskDone _ _ seq _ => fits 32 seq
  | .taskEnqArg _ _ arg => fits 32 arg
  | .taskEnq _ _ addr _ => fits 40 addr
  | .taskForward _ _ seq => fits 32 seq
  | .taskFree _ _ addr => fits 40 addr
  | .cancelSeqRead _ _ => true
  | .flowWrite _ r => r.wf
  | .flowRead _ r => r.wf
  | .flowCancel _ r => r.wf
  | .flowStatus _ r => r.wf
  | .winReturn _ _ => true
  | .hartLoadRefresh _ => true
  | .serviceLimitExceeded _ seq => fits 32 seq
  | .memoryRead _ source addr flips use => fits 8 source && fits 40 addr && fits 144 flips && use.wf
  | .memoryPartialWrite _ source addr len val flips => fits 8 source && fits 40 addr && decide (1 ≤ len ∧ len ≤ 64) && fits (8 * len) val && fits 144 flips
  | .scrubRead _ _ flips => fits 144 flips
  | .panInitDone _ _ => true
  | .panRetainReq _ r val => r.wf && fits 16 val
  | .chInit _ r _ => r.wf
  | .chInitDone _ _ _ => true
  | .chMarkReady _ r _ => r.wf
  | .chFreqChange _ r _ _ _ => r.wf
  | .freqChangeDone _ _ => true
  | .chReset _ r _ => r.wf
  | .srIdleEntry _ _ => true
  | .srExit _ _ => true
  | .zqOverdue _ _ => true
  | .trainCommand _ r val => r.wf && fits 32 val
  | .trainRunDone _ _ run => run.all (fun e => fits 16 e.1 && fits 16 e.2)
  | .trainTableWrite _ r _ entries => r.wf && entries.all TrainEntry.wf
  | .domainReqOn _ r _ => r.wf
  | .domainReqIdle _ r _ => r.wf
  | .domainReqDoze _ r _ => r.wf
  | .domainReqOff _ r _ => r.wf
  | .domainIdleTimer _ _ => true
  | .domainIdleWake _ _ => true
  | .domainDozeTimer _ _ => true
  | .domainSwitchOpen _ _ => true
  | .wakeStepReady _ _ _ => true
  | .wakeStepTimeout _ _ _ => true
  | .wakeRetry _ _ _ => true
  | .pmicPgLost _ _ => true
  | .faultClear _ r val => r.wf && fits 16 val
  | .sleepReq _ r val => r.wf && fits 8 val
  | .sleepWake _ _ => true
  | .sleepWakeTimer _ => true
  | .rootPllUnlock _ => true
  | .xtalStartFail _ => true
  | .supplyEval _ _ => true
  | .dyingGasp _ => true
  | .s5JournalWritten _ => true
  | .s5PowerOff _ => true
  | .restartHoldEnd _ => true
  | .pmbusRead _ _ => true
  | .powerOn _ _ _ _ => true
  | .resetNAssert _ ns => fits 64 ns
  | .resetNRelease _ => true
  | .snapshot _ r => r.wf
  | .counterClear _ r => r.wf
  | .snapshotAndClear _ r => r.wf
  | .exportTimer _ => true
  | .testRequest _ r val => r.wf && fits 32 val
  | .testVerdict _ member _ => fits 12 member
  | .reinitializationComplete _ member => fits 12 member
  | .nodeIdWrite _ r val => r.wf && fits 8 val
  | .regionProfileWrite _ r len val => r.wf && fits 32 len && fits (8 * len) val
  | .rootRotate _ r val => r.wf && fits 8 val
  | .lifecycleProvision _ r => r.wf
  | .lifecycleDeploy _ r => r.wf
  | .lifecycleRetire _ r => r.wf
  | .bootKeyHashWrite _ r val => r.wf && fits 256 val
  | .otpRecordProgrammed _ _ => true
  | .vddAonRemoved _ => true
  | .mgmtPhyPoll _ _ => true
  | .jtagDebugRequest _ _ _ => true

end Sys2Proof
end

