-- ==== Sys2Proof/Decode.lean ====
section
/-!
DEFINITION. The words of the opcode table: spec/opcode_table.json gives no row any bits, since the block's commands are register accesses,
frames, entries and events and no words of an instruction stream. No word spells a command. A JOT frame does spell one: `jotCommand` reads
the identifier of R65 and the header of Table 2.6.
-/
namespace Sys2Proof

/-- The command that a word spells by the table's bits: none, for the table gives no row bits. -/
def decodeTableWord (_nbits _w : Nat) : Option Instr := none

/-- `n` bits of a number from bit `lo`. -/
def frameBits (v lo n : Nat) : Nat := v >>> lo % 2 ^ n

/-- The little-endian number of a list of octets (R42). -/
def frameNumber : List Byte → Nat
  | [] => 0
  | b :: r => b.toNat + 256 * frameNumber r

/-- The requester that a frame's identifier names: SOURCE, DEST and TAG (R65). -/
def frameReq (tr : Transport) (host port addr ident : Nat) : Req :=
  { tr := tr, src := frameBits ident 16 8, host := host, tag := frameBits ident 0 8, dest := frameBits ident 8 8, port := port, addr := addr }

/-- The command of a REQ frame: by CMD (Table 2.7), with SHADOW, INDEX, SUBINDEX, COUNT and the octets after the header. -/
def reqCommand (t : Tick) (r : Req) (head : Nat) (data : List Byte) : Instr :=
  let cmd := frameBits head 0 8
  let shadow := head.testBit 8
  let index := frameBits head 16 16
  let sub := frameBits head 32 8
  let count := frameBits head 40 24
  let n := data.length
  let val := frameNumber (data.take count)
  match cmd with
  | 0x01 => .jotRead t r shadow index sub count n
  | 0x02 => .jotWrite t r index sub count n val
  | 0x03 => .jotReadSeg t r shadow index sub count n
  | 0x04 => .jotWriteSeg t r index sub count n val
  | 0x10 => .svcOpen t r count n
  | 0x11 => .svcProve t r count n val
  | 0x12 => .svcClose t r count n
  | _ => .jotUnknownCommand t r cmd index sub

/-- The data octets of a SEG: what follows the header, without the padding of CAN FD where the transfer's segment is shorter (`want`). -/
def segData (want : Nat) (data : List Byte) : List Byte := data.take want

/-- The command that a JOT frame spells (R65, R66, Table 2.5): the transport, on UDP the host, port and address, the identifier, the octets
from the header on, and for a SEG how many data octets the segment has (on CAN FD the padding of the frame hides it). None for a frame
of fewer octets than a header or of a FUNCTION that no client sends. -/
def jotCommand (t : Tick) (tr : Transport) (host port addr ident want : Nat) (pdu : List Byte) : Option Instr :=
  let r := frameReq tr host port addr ident
  let head := frameNumber (pdu.take 8)
  let data := pdu.drop 8
  let cmd := frameBits head 0 8
  let index := frameBits head 16 16
  let sub := frameBits head 32 8
  let num := frameBits head 40 24
  if pdu.length < 8 then none
  else match frameBits ident 24 5 with
    | 0x01 => some (.jotAbortRx t r)
    | 0x03 => some (reqCommand t r head data)
    | 0x04 =>
      let d := segData want data
      some (.jotSeg t r cmd index sub num (head.testBit 9) d.length (frameNumber d))
    | 0x05 => some (.jotBlkack t r cmd index sub num)
    | _ => none

end Sys2Proof
end

