-- ==== Sys2Proof/Machine/Bits.lean ====
section
/-!
DEFINITION. Bit fields, octet order, signed readings, and the two sorted association lists (one without and one with a
value that unlisted keys read as) in which the block's sparse tables stand.
-/
namespace Sys2Proof.Machine

/-- `NAME[lo + n - 1 : lo]` of a number (00, "Registers, entries and bits"). -/
def bits (v lo n : Nat) : Nat := v >>> lo % 2 ^ n

/-- One bit of a number. -/
def bitAt (v n : Nat) : Bool := v.testBit n

/-- `v` with the `n` bits from `lo` replaced by `x`. -/
def setBits (v lo n x : Nat) : Nat :=
  (v >>> (lo + n)) <<< (lo + n) + (x % 2 ^ n) <<< lo + v % 2 ^ lo

/-- `v` with bit `n` set. -/
def setBit (v n : Nat) : Nat := v ||| 2 ^ n

/-- `v` with bit `n` cleared. -/
def clearBit (v n : Nat) : Nat := if v.testBit n then v - 2 ^ n else v

/-- `v` with bit `n` made `b`. -/
def putBit (v n : Nat) (b : Bool) : Nat := if b then setBit v n else clearBit v n

/-- The `w`-bit two's complement reading of a number (Table 2.1, I8 to I64). -/
def toInt (w v : Nat) : Int :=
  let u := v % 2 ^ w
  if u < 2 ^ (w - 1) then (u : Int) else (u : Int) - 2 ^ w

/-- The `w`-bit two's complement number of an integer, wrapping. -/
def ofInt (w : Nat) (i : Int) : Nat := (i % (2 ^ w : Int)).toNat

/-- An integer held in `w` bits, saturating at both ends. -/
def satInt (w : Nat) (i : Int) : Nat :=
  ofInt w (max (-(2 ^ (w - 1) : Int)) (min (2 ^ (w - 1) - 1 : Int) i))

/-- Octet `i` of a little-endian number (R42). -/
def octet (v i : Nat) : Nat := bits v (8 * i) 8

/-- `v` with octet `i` replaced. -/
def setOctet (v i x : Nat) : Nat := setBits v (8 * i) 8 x

/-- The first `n` octets of a number, octet 0 first. -/
def octets (v : Nat) : Nat → List Byte
  | 0 => []
  | n + 1 => BitVec.ofNat 8 v :: octets (v >>> 8) n

/-- The little-endian number of a list of octets (R42). -/
def ofOctets : List Byte → Nat
  | [] => 0
  | b :: bs => b.toNat + 256 * ofOctets bs

/-- The big-endian number of `n` octets from position `i` of a frame (network order). -/
def beField (f : List Byte) (i n : Nat) : Nat :=
  ((f.drop i).take n).foldl (fun a b => a * 256 + b.toNat) 0

/-- The `n` octets of a number, most significant first. -/
def beOctets (v n : Nat) : List Byte := (octets v n).reverse

/-- `a / b`, rounded up. -/
def ceilDiv (a b : Nat) : Nat := (a + b - 1) / b

/-- Entry `k` of a sorted table. -/
def look {α : Type} (t : List (Nat × α)) (k : Nat) : Option α :=
  match t with
  | [] => none
  | (j, v) :: r => if j == k then some v else look r k

/-- Entry `k` of a sorted table, `d` where the table lists none. -/
def lookD {α : Type} (t : List (Nat × α)) (k : Nat) (d : α) : α := (look t k).getD d

/-- A sorted table with entry `k` set to `v`. -/
def put {α : Type} (t : List (Nat × α)) (k : Nat) (v : α) : List (Nat × α) :=
  match t with
  | [] => [(k, v)]
  | (j, w) :: r =>
    if k < j then (k, v) :: (j, w) :: r
    else if j == k then (k, v) :: r
    else (j, w) :: put r k v

/-- A sorted table without entry `k`. -/
def del {α : Type} (t : List (Nat × α)) (k : Nat) : List (Nat × α) := t.filter (fun e => !(e.1 == k))

/-- Entry `k` changed by `f`, from the default `d` where the table lists none. -/
def modify {α : Type} (t : List (Nat × α)) (k : Nat) (d : α) (f : α → α) : List (Nat × α) :=
  put t k (f (lookD t k d))

/-- The keys of a sorted table rise strictly. -/
def rising {α : Type} : List (Nat × α) → Bool
  | [] => true
  | [_] => true
  | (j, _) :: (k, w) :: r => decide (j < k) && rising ((k, w) :: r)

/-- The first element of a list that meets `p`, with its position. -/
def findAt {α : Type} (l : List α) (p : α → Bool) : Option (Nat × α) :=
  go l 0
where
  /-- The search from position `i`. -/
  go : List α → Nat → Option (Nat × α)
  | [], _ => none
  | a :: r, i => if p a then some (i, a) else go r (i + 1)

/-- A list with element `i` replaced, unchanged where it has none. -/
def setAt {α : Type} (l : List α) (i : Nat) (a : α) : List α := l.set i a

/-- A ring of at most `n` elements, newest last: the oldest goes when it is full. -/
def pushRing {α : Type} (n : Nat) (l : List α) (a : α) : List α :=
  if l.length < n then l ++ [a] else l.drop (l.length + 1 - n) ++ [a]

/-- The numbers `a`, `a + 1`, … , `n` of them. -/
def upFrom (a n : Nat) : List Nat := (List.range n).map (· + a)

/-- The least number of a list, `none` where it is empty. -/
def least : List Nat → Option Nat
  | [] => none
  | a :: r => match least r with
    | none => some a
    | some b => some (min a b)

/-- The bits of octets, each least significant first. -/
def octetBits (l : List Byte) : List Bool := l.flatMap (fun b => (List.range 8).map (fun k => bitAt b.toNat k))

end Sys2Proof.Machine
end

