-- ==== Sys2Proof/Machine/Parts.lean ====
section
/-!
DEFINITION. The records the state is made of, chapter by chapter: what each part of the block holds beside the objects of
the dictionary. Plain data only. Ticks are absolute lay ticks; tables are lists of (key, entry) with keys rising.
-/
namespace Sys2Proof.Machine

/-! ## The object dictionary and JOT (chapter 02) -/

/-- The data types of Table 2.1; `vis`, `octv` and `dom` carry the stated maximum length in octets. -/
inductive ObjType where
  | bool
  | u (w : Nat)
  | i (w : Nat)
  | vis (max : Nat)
  | oct (n : Nat)
  | dom (max : Nat)
  | time80
  | seqstat
deriving DecidableEq, Repr

/-- The access classes of Table 2.2 (SVC is a mark of its own). -/
inductive Access where
  | ro | rw | wo | const | rws | lim
deriving DecidableEq, Repr

/-- One object: a row of an object table (R5). `range` lists the inclusive ranges a written value must meet one of
(signed types by their signed reading); an empty list allows every value. -/
structure ObjDesc where
  index : Nat
  sub : Nat
  name : String
  ty : ObjType
  access : Access
  dflt : Nat
  range : List (Int × Int)
  svc : Bool
  mark64 : Bool
  slow : Bool
  perReq : Bool
deriving DecidableEq, Repr

/-- The refusals of Table 2.12. -/
inductive Abort where
  | timeout | badCommand | badSegment | tagReused | tooManyTransfers | badCount | useSegmented
  | readWo | writeRo | limitExhausted | svcRequired | lifecycle | shadowOwned | shadowBusy | seqStale
  | narrowWrite | unaligned | badWidth | transferBusy | badBuffer
  | noObject | noSubindex | commitRefused | lengthMismatch | tooLong
  | svcBusy | svcDenied | svcLocked | valueRange | domainOff | transportReset | otpFault
  | noRegion | beyondCapacity | shedMemory | panOff | readOnlyRegion
deriving DecidableEq, Repr

/-- An entry of the access-fault log (Table 2.13), UPTIME_US as held. -/
structure FaultEntry where
  code : Nat
  address : Nat
  transport : Nat
  access : Nat
  source : Nat
  uptimeUs : Nat
deriving DecidableEq, Repr

/-- The owner and the pending commit of a shadow group (R53 to R56). -/
structure Group where
  owner : Option Req
  /-- The tick of the owner's last shadow or COMMIT write (R54). -/
  activeAt : Nat
  /-- The tick at which STATE became PENDING (R56). -/
  pendingAt : Option Nat
deriving DecidableEq, Repr

/-- An open segmented transfer (R68 to R72). -/
structure JotXfer where
  req : Req
  write : Bool
  index : Nat
  sub : Nat
  total : Nat
  seg : Nat
  block : Nat
  /-- First segment of the current block. -/
  base : Nat
  /-- Receiving: the next segment expected. Sending: one past the last segment sent. -/
  next : Nat
  /-- The octets received so far, or the whole value being read. -/
  data : Nat
  progressAt : Nat
deriving DecidableEq, Repr

/-- The service session and its lockout (R78 to R81). -/
structure Service where
  holder : Option Req
  /-- The tick of the holder's last request. -/
  lastReq : Nat
  /-- Challenges issued and not yet proved: requester, challenge, tick. -/
  challenges : List (Req × Nat × Nat)
  /-- Consecutive denials. -/
  denials : Nat
  /-- The tick at which the lockout ends, while one is in force. -/
  lockUntil : Option Nat
  /-- Length of the last lockout in seconds, 0 before the first of a sequence. -/
  lockLen : Nat
deriving DecidableEq, Repr

/-- A hart's CSR word latch (R85) and staged words. -/
structure CsrHart where
  /-- The object latched, whether at the shadow alias, and its value. -/
  latch : Option (Nat × Bool × Nat)
  /-- Staged words: object key, word, value. -/
  staged : List (Nat × Nat × Nat)
deriving DecidableEq, Repr

/-- The words of an object's transfer cell that are private to a hart (R87): BUF and XFER_LEN. -/
structure XferCell where
  hart : Nat
  key : Nat
  buf : Nat
  len : Nat
deriving DecidableEq, Repr

/-- The transfer of a long object, which every hart sees (Table 2.11): STATE and SEQ of XFER_STATUS, XFER_ABORT, and of the last
transfer the hart, its direction and view, and the buffer and length it was started with. -/
structure XferRun where
  key : Nat
  state : Nat
  seq : Nat
  abort : Nat
  hart : Nat
  write : Bool
  shadow : Bool
  buf : Nat
  len : Nat
deriving DecidableEq, Repr

/-- A write to a slow-copy object that waits for the SLOW edge (R60). -/
structure SlowWrite where
  req : Req
  /-- It came as a segmented transfer or through a transfer cell, so is answered as one. -/
  seg : Bool
  index : Nat
  sub : Nat
  len : Nat
  val : Nat
  /-- The edge at which it takes effect. -/
  due : Nat
deriving DecidableEq, Repr

/-- The dictionary engine and its transports. -/
structure Jot where
  xfers : List JotXfer
  busOff : Bool
  /-- UDP clients and the tick of each one's last PDU (R74). -/
  clients : List (Req × Nat)
  heartbeatAt : Nat
  csr : List (Nat × CsrHart)
  cells : List XferCell
  moves : List XferRun
  slow : List SlowWrite
  faults : List FaultEntry
  svc : Service
deriving DecidableEq, Repr

/-! ## The lay (chapter 03) and the class-0 records (chapter 01) -/

/-- A bank of lay memory: the words of the image and how many were written (R96, R116). -/
structure Bank where
  words : List Nat
  written : Nat
deriving DecidableEq, Repr

/-- The record of a hitch (R34, Table 3.11); `susp` holds the counts of causes 0x01 to 0x09. -/
structure HitchRec where
  frames : Nat
  susp : List Nat
  paused : Nat
  lost : Nat
  maxTk : Nat
  excess : Nat
  dropped : Nat
deriving DecidableEq, Repr

/-- A span of ticks in which a condition of Table 1.9 fails: the cause, what it concerns (the stage, the port, the
class, the hitch; 0 where it concerns the device), its first tick and, once it has ended, its last. -/
structure CondSpan where
  cause : Nat
  scope : Nat
  start : Nat
  stop : Option Nat
deriving DecidableEq, Repr

/-- What the conditions of Table 1.9 hold against a hitch: its number and direction, the first stage that sheds a resource of it, its port
where it has one, and the classes of its resources. -/
structure HitchKey where
  num : Nat
  down : Bool
  shed : Nat
  port : Option Nat
  classes : List Nat
deriving DecidableEq, Repr

/-- A hitch's binding, with the index of its HITCH entry. -/
structure HitchInfo where
  num : Nat
  idx : Nat
  down : Bool
  ply : Bool
  port : Nat
  queue : Nat
  trx : Nat
  sensor : Nat
  lMax : Nat
  frameMax : Nat
  rate : Nat
deriving DecidableEq, Repr

/-- A hitch's frame whose end point lies ahead, its first bit or first ramp-up sample on its way: its starting point, its end point, and the
ticks that R31 excludes. -/
structure HitchEnd where
  key : HitchKey
  at_ : Nat
  due : Nat
  paused : Nat
deriving DecidableEq, Repr

/-- A decision placement has made that waits for a slot boundary (R144): the trigger's cause code, the region or
object, whether it takes hold or is released, and the tick at which it was made. -/
structure Decision where
  cause : Nat
  subject : Nat
  on : Bool
  madeAt : Nat
deriving DecidableEq, Repr

/-- A resource's present state under the lay: the entry's word, its state in Table 3.6 (0 idle) and the tick at which
it was presented. -/
structure ResState where
  word : Nat
  kind : Nat
  action : Nat
  since : Nat
  hitch : Option Nat
deriving DecidableEq, Repr

/-- The lay engine. -/
structure Lay where
  bank0 : Bank
  bank1 : Bank
  /-- Which bank is standby, 0 or 1. -/
  standby : Nat
  /-- The tick at which the verification in progress began. -/
  verifyAt : Option Nat
  armedAt : Nat
  stopPending : Bool
  /-- ASN of the current slot and the tick at which it began. -/
  asn : Nat
  slotAt : Nat
  /-- The end of the slot in progress where a realignment moved it (R360). -/
  slotEnd : Option Nat
  /-- Words of the running section presented in this slot. -/
  presented : List Nat
  /-- State of each resource ID with one. -/
  res : List (Nat × ResState)
  hitches : List (Nat × HitchRec)
  /-- The hitches of the lay that a STOP ended, until a bank swaps in (R132). -/
  stopped : List (HitchInfo × HitchKey)
  conds : List CondSpan
  /-- Frames of hitches whose end points lie ahead (R29, R28). -/
  ends : List HitchEnd
  /-- Domain part shed at once at a deepening, until the next boundary (R127): the stage entries are judged by. -/
  skipStage : Nat
deriving DecidableEq, Repr

/-! ## Placement (chapter 04) -/

/-- A journal entry (Table 4.2). -/
structure JEntry where
  seq : Nat
  asn : Nat
  cause : Nat
  action : Nat
  cls : Nat
  logical : Nat
  old : Nat
  new : Nat
  obj : Nat
  objKind : Nat
  detail : Nat
  uptimeUs : Nat
deriving DecidableEq, Repr

/-- A migration in progress (R152): the object, its source and destination (0x440 to 0x44F a pan, 0x458 and 0x459 a
DRAM channel), the cause, and whether the copy is done. -/
structure Migration where
  kind : Nat
  obj : Nat
  src : Nat
  dst : Nat
  cause : Nat
  copied : Bool
  /-- The first tick at which the copy can be done (R152). -/
  due : Nat
  /-- DETAIL of its journal entry. -/
  detail : Nat
deriving DecidableEq, Repr

/-- The placement engine and the splicer. -/
structure Place where
  /-- Member of each mapped logical ID in the current slot. -/
  map : List (Nat × Nat)
  /-- Reference member of each ID that has held one. -/
  ref : List (Nat × Nat)
  probation : List Nat
  journal : List JEntry
  /-- Members chosen for the TEST RUN entries of the current slot and of the next, so dispatched no unscheduled work (R147). -/
  testing : List Nat
  /-- Active IDs of the current slot that no member serves (R136). -/
  unmapped : List Nat
  /-- Location of each placed object: key kind * 2^24 + number. -/
  loc : List (Nat × Nat)
  /-- Tick at which each object was placed, and of its last move where it has moved. -/
  placed : List (Nat × Nat)
  moved : List (Nat × Nat)
  migrations : List Migration
  decisions : List Decision
  hotRegions : List Nat
  regionTemp : List (Nat × Nat)
  /-- Ticks of each pan's corrected errors of the last hour. -/
  panErrors : List (Nat × List Nat)
  panEmptyAt : List (Nat × Nat)
  loadAt : Nat
  emptiedAt : Option Nat
  /-- Pans being evacuated and the PAN_STATE each takes once it is empty. -/
  evac : List (Nat × Nat)
  /-- Tick of the last verdict or start of a test of each resource (R477). -/
  tested : List (Nat × Nat)
  /-- Sensors pinned for the running image and for the standby image. -/
  pinRun : List Nat
  pinStandby : List Nat
  /-- Why members and pans left service: the cause code plus 256 times the DETAIL of Table 4.2. -/
  ineligible : List (Nat × Nat)
  /-- Members newly forbidden by a pending commit of group 0x3102, emptied of work before it applies (R158). -/
  leaving : List Nat
deriving DecidableEq, Repr

/-! ## Radio front ends (chapter 05) -/

/-- A tuning in progress (R167 to R169): the channel and path, the entry's tick, whether it runs as a full calibration,
and the runs made. `miss` where no valid stored entry was loaded. -/
structure Tune where
  channel : Nat
  path : Bool
  since : Nat
  full : Bool
  miss : Bool
  runs : List (List Int)
deriving DecidableEq, Repr

/-- A calibration queued (Table 5.5): 0 RX_DC, 1 RX_IQ, 2 TX_LO, 3 TX_IQ, 4 SYNTH of a channel and path. `unit` the unit of
RX_DC (8 * chain + gain step) and RX_IQ (chain). `runs` holds runs already made (R168), `startup` where it was queued on entry to STARTUP. -/
structure CalReq where
  kind : Nat
  unit : Nat
  channel : Nat
  path : Bool
  runs : List (List Int)
  startup : Bool
deriving DecidableEq, Repr

/-- A transmission (R184): first sample, end of the last symbol and of the ramp-down, what it carries, and the running
judgements of the mask checker and the coupler. -/
structure TxRun where
  at_ : Nat
  ends : Nat
  stop : Nat
  cell : Nat
  hitch : Option Nat
  ply : Bool
  span : List Nat
  /-- The MAC's number of the PSDU or burst. -/
  psdu : Nat
  maskBad : Nat
  allWell : Bool
  measured : Bool
  /-- The last symbol has ended. -/
  ended : Bool
deriving DecidableEq, Repr

/-- The tuner's automatic stepping (R192): the bank stepped, the direction, the code and return loss before the step,
the last preset's code, and the last valid return loss (R193). -/
structure Tuner where
  measuring : Bool
  bank : Nat
  up : Bool
  trial : Option (Nat × Int)
  lastRl : Option Int
  preset : Nat
  backoff : Bool
deriving DecidableEq, Repr

/-- A transceiver beside its objects. -/
structure Trx where
  locked : Bool
  tune : Option Tune
  /-- Lock was lost and the synthesizer tries to lock again with its codes (R172). -/
  seeking : Bool
  /-- ASN and number of lock losses in that slot (R172). -/
  losses : Nat × Nat
  rxSingle : Bool
  rxOpen : Bool
  txOpen : Bool
  /-- The RX window open follows a masked hop or began with the wrong path: its streams stay invalid (R171, R198). -/
  rxSilent : Bool
  streamsAt : Option Nat
  /-- The last hop named a masked channel: the windows that follow are silent and not counted (R198). -/
  blocked : Bool
  gainStep : Nat
  agcPower : Option Int
  tx : Option TxRun
  /-- Tick at which the last transmission's switch releases are done. -/
  swUntil : Nat
  paUntil : Nat
  tuner : Tuner
  faults : Nat
  dieTemp : Int
  calQueue : List CalReq
  calRun : Option CalReq
  /-- End of the gap that background calibrations run in (R181). -/
  gapEnd : Nat
  rxIqAt : Option Nat
  rxIqTemp : Int
  calPeriodAt : Nat
  /-- Corrections accepted and in force, and those waiting for a window to end, by 16 * kind + unit. -/
  corr : List (Nat × List Int)
  corrNext : List (Nat × List Int)
  planNext : Option Nat
deriving DecidableEq, Repr

/-- Transceivers, the region profile in force and the one programmed, and the duty-cycle bins: per sub-band
(band * 16 + sub-band) the ticks transmitted in each second. -/
structure Radio where
  trxs : List (Nat × Trx)
  profile : Nat
  profileNext : Option Nat
  dutySec : Nat
  dutyAt : Nat
  duty : List (Nat × List (Nat × Nat))
deriving DecidableEq, Repr

/-! ## The rake, the lanes and the ply links (chapter 06) -/

/-- What a lane's window makes of it (R215): a cell lane (ARM), a gang member (segment and gang), a lane of a bight. -/
inductive LaneRole where
  | cell (arm : Bool)
  | gang (segment num : Nat)
  | contention
  | capture
  | spare
deriving DecidableEq, Repr

/-- A reception: its stream, its metric (R208), the profile number and content it began with, the first symbol of its window, its
SFD deadline, the LNA step of its window, its SFD time, AFC estimate (the rake's coarse one at first) and SNR estimate in 0.25 dB, its header,
and the flags of its quality record. -/
structure Reception where
  stream : Nat
  metric : Nat
  profNo : Nat
  prof : Nat
  start : Nat
  deadline : Nat
  gain : Nat
  sfdAt : Nat
  freqErr : Int
  snr : Int
  header : Option AirHeader
  captured : Bool
  preempted : Bool
  diversity : Bool
  /-- Found by the lane's own detector (R225). -/
  own : Bool
deriving DecidableEq, Repr

/-- An open window of a lane, with the reception in it. -/
structure LaneRun where
  role : LaneRole
  stream : Nat
  profile : Nat
  cell : Nat
  hitch : Option Nat
  closes : Nat
  /-- The bight it stood in has another lane since: it ends with its reception (R138). -/
  stays : Bool
  rx : Option Reception
deriving DecidableEq, Repr

/-- A frame in a lane's back end: the reception, the window it came in, the end of its last air symbol, the slot it began in, and for a ply burst
the segments whose members received it to its end. -/
structure BackFrame where
  rx : Reception
  role : LaneRole
  cell : Nat
  hitch : Option Nat
  endAt : Nat
  slotAsn : Nat
  slotAt : Nat
  segments : Nat
deriving DecidableEq, Repr

/-- A ply link's loading state (R239 to R243), by LINK_ID: the TX table in use (1,672 octets as a number, none for robust), the RX
tables confirmed and newest, the ID of the last table issued, the outcomes of the last 16 data bursts (true: failed), the table
that waits to be returned, the sounding asked for and the tick of the last one sent and measured, and its SNR. -/
structure PlyLink where
  tx : Option Nat
  confirmed : Option Nat
  newest : Option Nat
  lastId : Nat
  fails : List Bool
  returns : Option Nat
  soundAsked : Bool
  soundSent : Option Nat
  soundSeen : Option Nat
  snr : List Int
deriving DecidableEq, Repr

/-- A frame that the rake reported and no lane receives: its stream, its metric, and the tick until which it is tracked (R208). -/
structure Ghost where
  stream : Nat
  metric : Nat
  until_ : Nat
deriving DecidableEq, Repr

/-- The receive path: open lane windows, frames in back ends (by lane), frames tracked without a lane, gangs that stay FREE (gang number and
ASN), the quality records, the ply links. -/
structure Rx where
  lanes : List (Nat × LaneRun)
  back : List (Nat × BackFrame)
  ghosts : List Ghost
  gangsOut : List (Nat × Nat)
  quality : List Nat
  links : List (Nat × PlyLink)
deriving DecidableEq, Repr

/-! ## The air MAC (chapter 07) -/

/-- An uplink frame between its checks and its acceptance (R257, R264): the sensor, DSN (none where suppressed) and hash, frame
counter, header, payload and tag as received, whether payload IEs begin the payload, CSL IE (phase, period), figures, the type it counts
under with its cell (Table 7.3; 0 where it came in no cell) and slot, the end of its last air symbol, the tick of its SHR's start, whether it
waits for an earlier twin, and whether its bittern payload was routed. -/
structure UpFrame where
  num : Nat
  sensor : Nat
  dsn : Option Nat
  hash : Nat
  fc : Option Nat
  hdr : List Byte
  text : List Byte
  tag : List Byte
  payIes : Bool
  secured : Bool
  psduLen : Nat
  csl : Option (Nat × Nat)
  rssi : Nat
  snr : Nat
  ty : Nat
  cell : Nat
  asn : Nat
  slotAt : Nat
  endAt : Nat
  shrAt : Nat
  waits : Bool
  routed : Bool
  job : Nat
deriving DecidableEq, Repr

/-- An acknowledgement bound to the acknowledgement part of a cell in a slot (R257): its number for the cipher bank, its MAC header, its PSDU
with FCS once it is ready, its profile, and its state: 0 in the cipher bank, 1 ready, 2 failed. -/
structure AckPlan where
  cell : Nat
  asn : Nat
  num : Nat
  header : List Byte
  psdu : List Byte
  profile : Nat
  fcs32 : Bool
  state : Nat
deriving DecidableEq, Repr

/-- A received acknowledgement in the cipher bank: its number, and the attempt it answers by datagram, cell and slot. -/
structure AckUp where
  num : Nat
  id : Nat
  cell : Nat
  asn : Nat
deriving DecidableEq, Repr

/-- An outgoing PSDU: its number for the cipher bank, DSN, MAC header, payload in clear, security level; 0 in the cipher bank, 1 ready,
2 failed, 3 yet to be protected; its frame counter, or whether its nonce holds the ASN, and that of the slot it is protected for; and the
whole PSDU with FCS once it is ready. -/
structure OutPsdu where
  num : Nat
  dsn : Nat
  header : List Byte
  text : List Byte
  level : Nat
  state : Nat
  fc : Nat
  byAsn : Bool
  asn : Nat
  fcs32 : Bool
  air : List Byte
deriving DecidableEq, Repr

/-- A downlink datagram in the air MAC (R265 to R272), or one bound for a ply link (its octets): the PSDUs not yet done, how many there
were, the attempts made in all, the tries used of the first of them, and whether a ready-for-air point was reached (R30). -/
structure Datagram where
  id : Nat
  sensor : Nat
  cls : Nat
  flow : Nat
  hitch : Option Nat
  at_ : Nat
  expires : Nat
  data : List Byte
  psdus : List OutPsdu
  total : Nat
  attempts : Nat
  tries : Nat
  aired : Bool
deriving DecidableEq, Repr

/-- An attempt between its start and its judgement (R267): cell, slot and transceiver, the sensor, the datagram's number, its DSN,
whether it went out in a shared cell, whether it was cut or acknowledged, and whether its datagram's lifetime has run out since (R270). -/
structure Flight where
  cell : Nat
  asn : Nat
  trx : Nat
  sensor : Nat
  id : Nat
  dsn : Nat
  shared : Bool
  cut : Bool
  acked : Bool
  expired : Bool
deriving DecidableEq, Repr

/-- A reassembly (R283): sensor, datagram_size, tag, the pieces of the uncompressed datagram by octet offset, and the tick of the last
new fragment. -/
structure Reasm where
  sensor : Nat
  size : Nat
  tag : Nat
  pieces : List (Nat × List Byte)
  at_ : Nat
deriving DecidableEq, Repr

/-- A ply frame between its reception and its verdict: its header of 24 octets, its body as received, the link, the end of its burst and of
its P2, the hitch its GANG is tagged with, and the cell and slot it came in. -/
structure PlyUp where
  num : Nat
  link : Nat
  header : List Byte
  body : List Byte
  endAt : Nat
  p2At : Nat
  hitch : Option Nat
  cell : Nat
  asn : Nat
deriving DecidableEq, Repr

/-- One direction of a ply link each way (R285): datagrams queued, those in the burst that waits for acknowledgement with its SEQ and
tries, the next SEQ and FRAME_COUNTER; the SEQ last accepted, whether an acknowledgement is due, and for each datagram that expired after
it was sent the SEQ it went out under (R270). -/
structure PlyQueue where
  queue : List Datagram
  burst : List Datagram
  seq : Nat
  tries : Nat
  counter : Nat
  rxSeq : Option Nat
  ackDue : Bool
  late : List Nat
deriving DecidableEq, Repr

/-- The air MAC. -/
structure Mac where
  /-- Sensor entries of 512 bits (Table 7.8); an index not listed reads 0. -/
  sensors : List (Nat × Nat)
  /-- Sensors whose entry was lost (R279). -/
  lost : List Nat
  /-- Updates that wait (R278): sensor, requester, entry. -/
  updates : List (Nat × Req × Nat)
  up : List UpFrame
  acks : List AckPlan
  ackUp : List AckUp
  /-- Acknowledgement parts whose TX_CELL entry has come, of this slot and of slots whose frames are still decided: cell and slot. -/
  ackGone : List (Nat × Nat)
  down : List Datagram
  flights : List Flight
  /-- Backoff of a sensor in shared cells: exponent and cells to pass over. -/
  backoff : List (Nat × Nat × Nat)
  reasm : List Reasm
  ring : List Nat
  nextNum : Nat
  nextId : Nat
  /-- Frames handed to the join path in a second of uptime. -/
  join : Nat × Nat
  /-- Ticks of the last frames of each sensor, for its tier (R151). -/
  heard : List (Nat × List Nat)
  ply : List (Nat × PlyQueue)
  plyUp : List PlyUp
  /-- A valid EB of the current parent came in the PARENT_BEACON cell of this slot. -/
  ebSeen : Option Nat
  /-- PARENT_BEACON cells of this slot counted as missed. -/
  ebMissed : List Nat
  listenSince : Nat
  /-- The parent's ASN to adopt at the next boundary: its value for the slot that held the EB, and that slot. -/
  adopt : Option (Nat × Nat)
deriving DecidableEq, Repr

/-! ## The cipher bank and the key store (chapter 08) -/

/-- What a cipher job works on, by number: a received or an outgoing frame of the air MAC, a received or an outgoing acknowledgement, a
received or an outgoing ply frame. -/
inductive JobUse where
  | rx (n : Nat)
  | tx (n : Nat)
  | ackRx (n : Nat)
  | ackTx (n : Nat)
  | plyRx (n : Nat)
  | plyTx (n : Nat)
deriving DecidableEq, Repr

/-- A cipher job: the fields of its descriptor (Table 8.2) and where that stands, the header, text and tag it works on, the frame they belong
to, the key copy it keeps (R301), the block operations of its count and those done, and when it last started. -/
structure Job where
  id : Nat
  op : Nat
  level : Nat
  cls : Nat
  hitch : Option Nat
  early : Bool
  restarted : Bool
  slot : Nat
  hdr : List Byte
  text : List Byte
  tag : List Byte
  psduLen : Nat
  state : Nat
  released : Nat
  engine : Nat
  inAddr : Nat
  outAddr : Nat
  flow : Nat
  nonce : Nat
  descAddr : Nat
  use : JobUse
  ops : Nat
  done : Nat
  ver : Nat
  kind : Nat
  key : List Byte
  startedAt : Nat
  /-- Waits at the bank's input for a C0 place (R297). -/
  atInput : Bool
deriving DecidableEq, Repr

/-- What the device knows of a slot of the key store beside its record: CORRUPT, and which of its keys it holds now. -/
structure KeyNote where
  corrupt : Bool
  ver : Nat
deriving DecidableEq, Repr

/-- A slot of the key store as its record and note show it (Table 8.4): kind, root generation, sequence, CORRUPT, which of its keys it holds. -/
structure KeySlot where
  kind : Nat
  gen : Nat
  seq : Nat
  corrupt : Bool
  ver : Nat
deriving DecidableEq, Repr

/-- A key in the cache: slot, which key of the slot, kind, its 32 octets (Table 8.4), and the tick of its last use. -/
structure CacheKey where
  slot : Nat
  ver : Nat
  kind : Nat
  key : List Byte
  used : Nat
deriving DecidableEq, Repr

/-- A key fetch: its slot, which key of the slot, and the record as it was read. -/
structure KeyFetch where
  slot : Nat
  ver : Nat
  rec_ : Nat
deriving DecidableEq, Repr

/-- The cipher bank and the key store. -/
structure Cph where
  /-- Jobs not yet ended, in arrival order. -/
  jobs : List Job
  nextJob : Nat
  /-- Engines with a RESERVE window open, with its hitch. -/
  reserve : List (Nat × Nat)
  /-- Engines that a C0 job takes over at the next block boundary, with the job. -/
  preempt : List (Nat × Nat)
  /-- Jobs whose poison range is held: ranges of running early jobs and of failed ones not yet freed. -/
  poisoned : List Nat
  /-- Ranges of failed early jobs, until the buffer is freed (R317): the job, its first address and its length. -/
  zeroed : List (Nat × Nat × Nat)
  /-- Of slots whose record was ever written, or found CORRUPT; the records themselves stand in DRAM (R302). -/
  notes : List (Nat × KeyNote)
  cache : List CacheKey
  fetches : List KeyFetch
  /-- Slots pinned (R141, R305), and those of them whose key was provisioned since and is not in the cache yet (R142). -/
  pinned : List Nat
  pinWait : List Nat
  /-- Key-cache banks: the spare, if any, and the tick of each bank's last test. -/
  spareBank : Option Nat
  bankTested : List (Nat × Nat)
  bankTest : Option Nat
  /-- The import in progress: the wrapped entries left, and the ephemeral public key, 64 octets (R312). -/
  importLeft : List (List Byte)
  importPoint : List Byte
  /-- The rewrap in progress runs from this root generation (R310). -/
  rewrapFrom : Option Nat
deriving DecidableEq, Repr

/-! ## The router and the ports (chapter 09) -/

/-- What the time unit sent in a frame of its own (R368, R372): the PTP message type, its sequence number, whether it goes
one-step, and for a Pdelay_Resp the time at which its request was received and the request's correction, both in 2⁻¹⁶ ns. -/
structure PtpMark where
  kind : Nat
  seq : Nat
  oneStep : Bool
  rxAt : Int
  corr : Int
deriving DecidableEq, Repr

/-- What a host descriptor asks of its frame (Table 9.16). -/
structure HostMark where
  flow : Nat
  cookie : Nat
  ts : Bool
deriving DecidableEq, Repr

/-- A frame in the router: its octets without FCS (a radio-side datagram bare), the source as the key has it, the tick of
its starting point (R29, R30), the hitch it is carried for, and its class-0 pause so far (R350). -/
structure EthFrame where
  num : Nat
  src : Nat
  hint : Nat
  cls : Nat
  data : List Byte
  oversize : Bool
  at_ : Nat
  sensor : Nat
  hitch : Option Nat
  queue : Nat
  enqAt : Nat
  paused : Nat
  /-- A HITCH item that waits for FORWARD (R402). -/
  waits : Bool
  /-- Still held at TASK END (R402). -/
  overrun : Bool
  host : Option HostMark
  ptp : Option PtpMark
  /-- Cipher jobs whose early plaintext the frame carries (R398). -/
  taints : List Nat
  /-- Sent with its FCS inverted (R324). -/
  badFcs : Bool
  /-- Address of the descriptor of the cipher job that the frame came through (R294). -/
  desc : Option Nat
deriving DecidableEq, Repr

/-- A frame in transmission: the frame, start and end at the sluice, the octets on the wire with FCS, whether it was truncated (R325), and
its egress stamp in network nanoseconds (R373). -/
structure TxFrame where
  frame : EthFrame
  stamp : Int
  start : Nat
  stop : Nat
  wire : Nat
  cut : Bool
deriving DecidableEq, Repr

/-- A port beside its objects: queues (oldest frame first), the frame in transmission, the tick from which the next may
start, the pause of each priority (since, until), the first tick at which a C0 queue's head was held by a pause alone,
shaper tokens in 1/1,600,000 octet with their tick, the closing tick of the window, and the OAM partner's TLV. -/
structure Port where
  queues : List (Nat × List EthFrame)
  tx : Option TxFrame
  freeAt : Nat
  pauses : List (Nat × Nat × Nat)
  heldAt : List (Nat × Nat)
  tokens : List (Nat × Int × Nat)
  closes : Option Nat
  oamRemote : List Byte
  /-- Tick of the last restart of the link (R319). -/
  restartAt : Nat
deriving DecidableEq, Repr

/-- A classifier rule (R333): VALUE, MASK, action and its valid bit. -/
structure Rule where
  value : Nat
  mask : Nat
  action : Nat
  valid : Bool
deriving DecidableEq, Repr

/-- The router. -/
structure Eth where
  ports : List (Nat × Port)
  rules : List (Nat × Rule)
  /-- Frames that wait for the parser, oldest first. -/
  parse : List EthFrame
  /-- Octets of the frames handed to firmware through the exception queue and not yet freed: buffer and octets (R351). -/
  excBufs : List (Nat × Nat)
  nextNum : Nat
  hostSeq : Nat
  /-- IPv4 identification of each tunnel template (R342). -/
  ident : List (Nat × Nat)
  oamAt : Nat
  /-- Values that groups of boundary FRAME replaced while frames were in process: tick of the commit, and the objects as they were (R326). -/
  past : List (Nat × List (Nat × Nat))
deriving DecidableEq, Repr

/-! ## The time unit (chapter 10) -/

/-- A source of Table 10.1: whether it is qualified and since when, its progress to qualification, and its last offset. -/
structure TimeSource where
  qualified : Bool
  qualAt : Nat
  progress : Nat
  last : Int
deriving DecidableEq, Repr

/-- What an Announce says of a clock (IEEE 1588-2019): the dataset that the BMCA compares, the port it came from, the tick of its last
Announce with how many came one after another, and its time properties: flags, currentUtcOffset and timeSource. -/
structure Foreign where
  prio1 : Nat
  cls : Nat
  accuracy : Nat
  variance : Nat
  prio2 : Nat
  gm : Nat
  steps : Nat
  sender : Nat
  at_ : Nat
  count : Nat
  flags : Nat
  utc : Nat
  source : Nat
deriving DecidableEq, Repr

/-- A PTP port: the foreign masters heard, the one it follows as a slave, its state's tick, sequence numbers, and the timestamps of the
exchange in progress (Sync sent and received, request sent and received, corrections) with the mean delay, all in 2⁻¹⁶ ns of network time. -/
structure PtpPort where
  foreign : List Foreign
  master : Nat
  since : Nat
  syncAt : Nat
  announceAt : Nat
  reqAt : Nat
  syncSeq : Nat
  announceSeq : Nat
  reqSeq : Nat
  /-- Sync received and waiting for its Follow_Up: sequence number, receive time, correction. -/
  sync : Option (Nat × Int × Int)
  /-- The last Sync: origin time with corrections, and receive time. -/
  last : Option (Int × Int)
  /-- Request sent: sequence number and egress time. -/
  req : Option (Nat × Int)
  /-- Two-step Pdelay_Resp waiting for its follow-up: sequence, receive time here, and t2 with the correction added. -/
  presp : Option (Nat × Int × Int)
  delay : Option Int
deriving DecidableEq, Repr

/-- The time unit: network nanoseconds at tick 0 (R355), the coarse copy (R358), the three sources, samples good and bad in
a row, the last good |e|, where the holdover bound grows from (E0 and its tick), PPS, the PTP ports and the
two-step queues (Table 10.5). -/
structure Tim where
  base : Int
  coarse : Option (Int × Nat)
  sources : List (Nat × TimeSource)
  good : Nat
  bad : Nat
  lastGood : Nat
  growFrom : Option (Nat × Nat)
  ppsLock : Bool
  ppsAt : Option Nat
  /-- Missed pulses are counted: one was accepted since PPS_ENABLE was set (R364). -/
  ppsCount : Bool
  ppsRow : Nat
  ppsNext : Option Nat
  ptp : List (Nat × PtpPort)
  tsq : List (Nat × List Nat)
deriving DecidableEq, Repr

/-! ## Cores and tasks (chapter 11) -/

/-- An item (Table 11.5). `taints` names the cipher jobs whose bittern output it derives from; `readyOn` is the hart on
whose ready list it stands, `none` in its flow's own queue. -/
structure Item where
  seq : Nat
  flow : Nat
  addr : Nat
  source : Nat
  requeued : Bool
  c0 : Bool
  taints : List Nat
  arg : Nat
  readyOn : Option Nat
  readyAt : Nat
  /-- The router frame a HITCH or ROUTER item stands for. -/
  frame : Option Nat
deriving DecidableEq, Repr

/-- An item in service (R395). -/
structure Service1 where
  item : Item
  hart : Nat
  since : Nat
  cancelled : Bool
  limitCounted : Bool
  forwarded : Bool
deriving DecidableEq, Repr

/-- A flow context: its entry (Table 11.3), its present home, and the longest wait seen. -/
structure Flow where
  entry : Nat
  home : Nat
  waitMax : Nat
deriving DecidableEq, Repr

/-- A class-0 window of a hart (R399 to R401). -/
structure TaskWindow where
  flow : Nat
  hitch : Option Nat
  closes : Nat
deriving DecidableEq, Repr

/-- A hart: timer and software interrupt (R383), task port (Table 11.4), window CSRs (R400) and load figures. -/
structure Hart where
  cmp : Nat
  /-- TIME_NOW at the last write of HART_CMP, and whether the timer interrupt was pending before that write and after it. -/
  cmpAt : Nat
  went : Bool
  sip : Nat
  fired : Nat
  pc : Nat
  priv : Nat
  a0 : Nat
  a1 : Nat
  workIrqEn : Bool
  enqArg : Nat
  enqResult : Nat
  getArg : Nat
  cancelSeq : Nat
  cancelPending : Bool
  winEpc : Nat
  winStatus : Nat
  winInfo : Nat
  window : Option TaskWindow
  deferred : Option TaskWindow
  /-- HART_STATE before DEBUG or TEST. -/
  back : Nat
  busy : Nat
  done : Nat
  waitSum : Nat
  waitCnt : Nat
  waitMax : Nat
  /-- The record of the last 100 ms (`8002.01`). -/
  load : Nat
deriving DecidableEq, Repr

/-- The registers of the interrupt controller (R384): priority by source, enable bits and threshold by context, and the sources claimed and
not completed yet. -/
structure Plic where
  prio : List (Nat × Nat)
  enable : List (Nat × Nat)
  threshold : List (Nat × Nat)
  claimed : List Nat
deriving DecidableEq, Repr

/-- The core complex and the task scheduler. -/
structure Cores where
  harts : List (Nat × Hart)
  plic : Plic
  flows : List (Nat × Flow)
  /-- Home of every flow that `flows` does not list. -/
  homeRest : Nat
  queued : List Item
  serving : List Service1
  /-- Kept buffers (R395): the descriptor, and the jobs whose bittern output the item derives from. -/
  kept : List (Nat × List Nat)
  nextSeq : Nat
  /-- Dirty L2 lines with an uncorrectable error, by address / 64, until written again (R378). -/
  badLines : List Nat
  /-- Flows that the running lay names in C0_WINDOW entries (R393). -/
  c0Flows : List Nat
  loadAt : Nat
  wdtAt : Nat
  wdtWarned : Bool
  /-- Interrupt source 26 (R389). -/
  wdtIrq : Bool
deriving DecidableEq, Repr

/-! ## Memory (chapter 12) -/

/-- An entry of the memory error log (Table 12.1). -/
structure MemErr where
  addr : Nat
  memory : Nat
  kind : Nat
  rank : Nat
  symbol : Nat
  source : Nat
  uptimeUs : Nat
deriving DecidableEq, Repr

/-- A training step of a channel (R430 to R432); `gathering` false while PENDING. -/
structure Training where
  rank : Nat
  step : Nat
  gathering : Bool
  runs : List (List (Nat × Nat))
deriving DecidableEq, Repr

/-- A rank's window (R425, R426): the refresh window is open, or a MAINT window until its closing tick. -/
structure RankState where
  refreshOpen : Bool
  maintUntil : Option Nat
  lastZq : Nat
  /-- Overdue periods counted since the last ZQ calibration. -/
  overdue : Nat
deriving DecidableEq, Repr

/-- A request in a channel's queues (R421): its number in the order of acceptance, its tick, its source (Table 12.6), its address, the octets it
writes (0 for a read; 64 for a whole burst), the codeword's changed bits, what a read's data belongs to, the 16 octets a read finds when it is
accepted or the octets that a write replaces, and whether a queued write of the whole burst forwards them (R422). -/
structure DramReq where
  seq : Nat
  at_ : Nat
  source : Nat
  addr : Nat
  len : Nat
  flips : Nat
  use : ReadUse
  data : Nat
  forwarded : Bool
deriving DecidableEq, Repr

/-- A DRAM channel beside its objects. -/
structure Chan where
  /-- The state a self-refresh returns to (READY or UNTRAINED). -/
  back : Nat
  /-- Self-refresh by idleness (R427) rather than by shedding, SLEEP or a controller test (R428). -/
  idle : Bool
  ranks : List RankState
  training : Option Training
  results : List TrainEntry
  /-- Results in force on the devices, and results that come into force at the rank's next window. -/
  inForce : List TrainEntry
  toForce : List TrainEntry
  /-- Eye widths of the accepted steps READ_EYE and WRITE_EYE (R431). -/
  eyes : List TrainEntry
  /-- Reads that wait, the write queue of 64 bursts, and the writes that wait at its input with their octets (R421). -/
  rq : List DramReq
  wq : List DramReq
  input : List (DramReq × List Byte)
  nextSeq : Nat
  /-- The write queue is being drained (R421). -/
  draining : Bool
  /-- Open rows: for each rank and bank of the channel, the row (R416). -/
  rows : List (Nat × Nat)
  /-- The tick at which the idle self-refresh entry began (R427). -/
  srAt : Nat
  /-- The frequency change in progress: its rate, and whether a shed waits for it (R435). -/
  change : Option (Nat × Bool)
  lastRequest : Nat
deriving DecidableEq, Repr

/-- The brine pool and the DRAM channels. -/
structure Mem where
  cells : List (Nat × Byte)
  /-- Codeword addresses that hold the poison syndrome. -/
  poison : List Nat
  /-- Codewords with bits that have changed since they were written, and those bits (R405). -/
  flips : List (Nat × Nat)
  /-- Address ranges whose contents a training step has destroyed and nothing has rewritten, with the free value that gives them (R429). -/
  wrecked : List (Nat × Nat × Nat)
  errors : List MemErr
  /-- Next codeword the scrubber reads in the brine pool and each channel. -/
  scrub : List (Nat × Nat)
  chans : List (Nat × Chan)
deriving DecidableEq, Repr

/-! ## Clocks, power domains and the supply (chapter 13) -/

/-- A wake in progress (R448, R449) of a domain or of a part: the step (1 regulator, 2 oscillator, 3 memory, 4 logic),
the attempt, the tick it began, and whether it waits the 100 µs before a retry. -/
structure Wake where
  step : Nat
  attempt : Nat
  at_ : Nat
  waiting : Bool
  /-- The state it left: 2 DOZE or 3 OFF. -/
  origin : Nat
deriving DecidableEq, Repr

/-- An entry into DOZE or OFF in progress (Table 13.3, ENTERING): its target (2 or 3) and its origin state. -/
structure Entering where
  target : Nat
  origin : Nat
deriving DecidableEq, Repr

/-- The S5 sequence (Table 13.9): its decision edge, the stage before it, gasps due, judged and sent, the tick of the last
one, the input at the decision, and whether the journal record is still to be written. -/
structure S5Seq where
  at_ : Nat
  prev : Nat
  due : Nat
  sent : Nat
  good : Nat
  lastAt : Nat
  vin : Nat
  journal : Bool
deriving DecidableEq, Repr

/-- A stage change as the S5 journal keeps it (Table 13.10, HISTORY). -/
structure StageChange where
  time : Nat
  stage : Nat
  vin : Nat
deriving DecidableEq, Repr

/-- The hold of R463: whether it followed the S5 sequence, and since when the input has been at or above RESTART_MV. -/
structure Hold where
  afterS5 : Bool
  since : Option Nat
deriving DecidableEq, Repr

/-- The power controller and the supply monitor. A unit is a domain n (key n) or its part s (key 16 * (n + 1) + s). -/
structure Power where
  /-- State of each part with a switch of its own: 0 ON, 3 OFF, 4 WAKING, 6 WAKE_FAULT. -/
  parts : List (Nat × Nat)
  wakes : List (Nat × Wake)
  /-- Units that wait for their turn to wake, in order (R459). -/
  queue : List Nat
  /-- Hart 0 has yet to start in the boot ROM (R386, R453). -/
  boot : Bool
  /-- CLK wakes after a loss of root PLL lock (R438). -/
  relock : Bool
  entering : List (Nat × Entering)
  /-- The pending request of each domain: its target. -/
  pendingReq : List (Nat × Nat)
  idleAt : List (Nat × Nat)
  /-- Codes of the last 64 samples, newest first. -/
  samples : List Nat
  pmbus : Option (Nat × Nat)
  pmbusFails : Nat
  /-- SLOW edges spent above the rising threshold. -/
  rise : Nat
  stageAt : Nat
  /-- Ticks spent in S1 to S4 and stage 0. -/
  stageTk : List Nat
  history : List StageChange
  s5 : Option S5Seq
  hold : Option Hold
  sleepAt : Option Nat
  /-- Flash offset, sequence number and content of the valid journal records (R464). -/
  flash : List (Nat × Nat × Nat)
  xtalFail : Bool
  /-- The stage has become shallower since SLEEP was entered (R453). -/
  shallower : Bool
  /-- Domains a verification waits for (R447). -/
  verifyWaits : List Nat
deriving DecidableEq, Repr

/-! ## Counters and self-test (chapter 14) -/

/-- A test in progress (R477): the resource ID of its entry and the member it runs on, the TEST_ID, the tick and slot of its isolation,
whether TEST_REQUEST started it, whether its verdict came, the bank or pipeline tested, and the hart state before it. -/
structure TestRun where
  logical : Nat
  member : Nat
  test : Nat
  at_ : Nat
  asn : Nat
  request : Bool
  judged : Bool
  failed : Bool
  detail : Nat
  back : Nat
deriving DecidableEq, Repr

/-- A block that is being reinitialized after a test (R481): the member, its TEST_ID, its hart state before the test, the tick at which
it is back in service, and whether it was retired. -/
structure Reinit where
  member : Nat
  test : Nat
  back : Nat
  at_ : Nat
  failed : Bool
deriving DecidableEq, Repr

/-- The event counters (R465 to R475) and built-in self-test (R476 to R483). `seen` holds the reading of each counter's source up to which
its count stands, `ev` the events so far of sources that no object counts. -/
structure Ctr where
  counts : List (Nat × Nat)
  seen : List (Nat × Nat)
  ev : List (Nat × Nat)
  snapSeq : Nat
  /-- EXPORT_RING: records of 544 octets, oldest first. -/
  ring : List Nat
  exportAt : Nat
  /-- TEST_LOG: entries of 32 octets, oldest first, and how many were written. -/
  log : List Nat
  logCount : Nat
  tests : List TestRun
  reinit : List Reinit
  /-- LAST_TESTED, by resource ID (Table 14.7). -/
  last : List (Nat × Nat)
deriving DecidableEq, Repr

/-! ## Non-volatile storage (chapter 15) -/

/-- A record of an OTP area (R484): its content, whether its marker is valid (a void one is false), whether its marker is still blank
(programming was cut short), and for a root generation whether its retire row is programmed. -/
structure OtpRec where
  value : Nat
  valid : Bool
  blank : Bool
  retired : Bool
deriving DecidableEq, Repr

/-- A programming in progress (R486): its area and content, who wrote which object and whether by a segmented transfer or a
transfer cell, the tick it began, and what is programmed after it (R491). -/
structure OtpJob where
  area : Nat
  value : Nat
  who : Option (Req × Nat × Bool)
  at_ : Nat
  then_ : List (Nat × Nat)
deriving DecidableEq, Repr

/-- The OTP array: the records of each area of Table 15.2, oldest first (0 BOOT_KEY, 1 NODE_ID, 2 REGION, 3 ROOT, 4 LIFECYCLE), and the
programming in progress. -/
structure Otp where
  areas : List (Nat × List OtpRec)
  job : Option OtpJob
deriving DecidableEq, Repr

/-! ## Balls (chapter 16) -/

/-- The straps as sampled (R508), the tick at which RESET_N went low while it is low (R513), whether the management port's PHY reports
link (R516), and whether the oscillator's start has not been reported yet (R437). -/
structure Pins where
  /-- VDD_AON is applied. -/
  powered : Bool
  xtal : Bool
  qspi : Bool
  testEn : Bool
  low : Option Nat
  mgmtUp : Bool
  starting : Option Nat
deriving DecidableEq, Repr

/-! ## What leaves the block -/

/-- What a command makes the block send, drive or hand over. -/
inductive OutEvent where
  /-- A JOT PDU: its transport, the UDP host it goes to (0 on CAN FD), its 29-bit identifier (R65; on UDP the identifier word), and its
  octets: header and data, on CAN FD padded to the FD length (R66). -/
  | jot (tr : Transport) (host ident : Nat) (pdu : List Byte)
  /-- A reply frame of the management port: what it answers. -/
  | mgmtReply (ask : MgmtAsk)
  /-- The value a hart's CSR window or task-port read returns. -/
  | csrData (hart value : Nat)
  /-- A bus error to a hart. -/
  | busError (hart addr : Nat)
  /-- A transmission on the air: transceiver, tick of the first PSDU-carrying sample, carrier in Hz, drive in 0.25 dBm (R190, R193), FIR set
  (R188), profile with the MCS or the coding chosen for it (R214), and the PSDUs one after another, protected and with their FCS.
  `fskFrame` gives the bits of one that is uncoded FSK. -/
  | airTx (trx at_ freq : Nat) (drive : Int) (fir profile mcs : Nat) (coded : Bool) (psdus : List (List Byte))
  /-- A ply burst on the air: tick of the first P1 sample, drive of each spanned transceiver, header (Table 6.14), the loading of its data
  symbols, and the PSDU (empty for a sounding). `plyBurst` gives its tones. -/
  | plyTx (at_ : Nat) (drives : List (Nat × Int)) (header table : Nat) (psdu : List Byte)
  /-- A transmission stops before its end. -/
  | txStops (trx : Nat)
  /-- A tuner code on the serial lines: address and code (R194). -/
  | tunerWord (trx addr code : Nat)
  /-- A frame handed to JOIN_FLOW unverified, with its quality record (R261). -/
  | joinFrame (flow addr : Nat) (psdu : List Byte) (quality : Nat)
  /-- A completion descriptor to a datagram's flow (Table 7.6). -/
  | dlCompletion (flow value : Nat)
  /-- A frame begins to leave a port: its octets with the FCS, which is inverted in a truncated or oversize frame. -/
  | ethTx (port : Nat) (frame : List Byte)
  /-- A frame handed to a flow, with the address of its buffer, its octets, OVERSIZE of its descriptor, and the address of the descriptor of
  its cipher job (R294). -/
  | flowFrame (flow addr : Nat) (data : List Byte) (oversize : Bool) (job : Option Nat)
  /-- A frame handed to the exception flow, with its exception descriptor (Table 9.15) and the address of its job's descriptor. -/
  | exception (flow addr : Nat) (data : List Byte) (desc : Nat) (job : Option Nat)
  /-- A host completion (Table 9.17) to a flow. -/
  | hostCompletion (flow value : Nat)
  /-- A hart takes the window interrupt (R399). -/
  | windowInterrupt (hart flow : Nat)
  /-- The 16 octets of a codeword delivered to a source of Table 12.6. -/
  | memData (source addr value : Nat)
  /-- The mode registers of a channel's devices are written: the rate and the timing set in DDR clock cycles (R417, Table 12.9). -/
  | dramMode (ch rate : Nat) (cycles : List Nat)
  /-- The helper drives a training step on a rank of a channel: the pattern kind, and the 64 octets of kind 2 (R429). -/
  | trainSweep (ch rank step kind pattern : Nat)
  /-- A load, store or instruction access fault to a hart (R409). -/
  | hartFault (hart addr : Nat)
deriving DecidableEq, Repr

end Sys2Proof.Machine
end

