-- ==== Sys2Proof/Machine/Image.lean ====
section
/-!
DEFINITION. Lay images (03, §2 to §4): words, header, sections, strands, blocks and entries; the execution order of a strand and
the windows its states form; what each stage sheds (R126); hitches and the entries tagged with them; the need of a class
(R125). Everything is a function of the list of an image's 64-bit words.
-/
namespace Sys2Proof.Machine

/-! ## CRC-32C (R98) -/

/-- One bit of the reflected Castagnoli polynomial division. -/
def crcBit (c : Nat) : Nat := if c % 2 = 1 then (c / 2) ^^^ 0x82F63B78 else c / 2

/-- One octet taken into the remainder. -/
def crcOctet (c b : Nat) : Nat :=
  crcBit (crcBit (crcBit (crcBit (crcBit (crcBit (crcBit (crcBit (c ^^^ b))))))))

/-- CRC-32C of octets. -/
def crc32c (bs : List Nat) : Nat := (bs.foldl crcOctet 0xFFFFFFFF) ^^^ 0xFFFFFFFF

/-- The eight octets of an image word, little-endian (R96). -/
def wordOctets (w : Nat) : List Nat := (List.range 8).map (octet w)

/-- The words of an image of `len` octets given as one little-endian number. -/
def toWords (len val : Nat) : List Nat := (List.range (len / 8)).map (fun k => bits val (64 * k) 64)

/-- The little-endian number of an image's octets. -/
def ofWords : List Nat → Nat
  | [] => 0
  | w :: r => w % 2 ^ 64 + 2 ^ 64 * ofWords r

/-! ## Header (Table 3.1) -/

/-- Word `k` of an image, 0 beyond its end. -/
def imgWord (ws : List Nat) (k : Nat) : Nat := ws.getD k 0

/-- SLOT_TK. -/
def imgSlotTk (ws : List Nat) : Nat := bits (imgWord ws 1) 0 24
/-- SLOTFRAME_LEN. -/
def imgFrameLen (ws : List Nat) : Nat := bits (imgWord ws 1) 24 16
/-- STRAND_COUNT. -/
def imgStrandCount (ws : List Nat) : Nat := bits (imgWord ws 1) 40 13
/-- IMAGE_WORDS. -/
def imgWords (ws : List Nat) : Nat := bits (imgWord ws 2) 0 18
/-- SIGNED. -/
def imgSigned (ws : List Nat) : Bool := bitAt (imgWord ws 2) 32
/-- CRC. -/
def imgCrc (ws : List Nat) : Nat := bits (imgWord ws 9) 0 32
/-- SIG_OFFSET. -/
def imgSigOffset (ws : List Nat) : Nat := bits (imgWord ws 10) 0 18
/-- BUILD_ID. -/
def imgBuildId (ws : List Nat) : Nat := imgWord ws 11

/-- Offset and length of region `n`: 0 the base section, 1 to 4 the stage sections, 5 the class table. -/
def imgRegion (ws : List Nat) (n : Nat) : Nat × Nat :=
  (bits (imgWord ws (3 + n)) 0 18, bits (imgWord ws (3 + n)) 32 18)

/-- A region's words with their indices. -/
def regionWords (ws : List Nat) (n : Nat) : List (Nat × Nat) :=
  let (o, l) := imgRegion ws n
  (List.range l).map (fun i => (o + i, imgWord ws (o + i)))

/-- The octets the CRC and the signature cover (R98, R99): the signature block left out, CRC as `crc`. -/
def coveredOctets (ws : List Nat) (crc : Nat) : List Nat :=
  ((List.range (imgWords ws)).filter (fun k =>
      !(imgSigned ws && decide (imgSigOffset ws ≤ k) && decide (k < imgSigOffset ws + 8)))).flatMap
    (fun k => wordOctets (if k = 9 then setBits (imgWord ws 9) 0 32 crc else imgWord ws k))

/-- The CRC an image ought to carry (R98). -/
def crcOf (ws : List Nat) : Nat := crc32c (coveredOctets ws 0)

/-! ## Entries (Tables 3.3 and 3.4) -/

/-- KIND of an entry. -/
def eKind (w : Nat) : Nat := bits w 60 4
/-- RESOURCE of an entry. -/
def eRes (w : Nat) : Nat := bits w 48 12
/-- TICK of an entry. -/
def eTick (w : Nat) : Nat := bits w 24 24
/-- OPERAND of an entry. -/
def eOp (w : Nat) : Nat := bits w 0 24

/-- MODE of a MARK. -/
def markMode (w : Nat) : Nat := bits w 22 2

/-- A word opens a strand (R100). -/
def isStrandMark (w : Nat) : Bool := eKind w == 0xA && markMode w == 0

/-- The role of a radio resource: 0 synthesizer, 1 TX chain, 2 RX chains, 3 tuner (Table 3.5). -/
def radioRole (id : Nat) : Nat := id % 4

/-- The action an entry names, 0 being the one that returns its resource to idle (Table 3.6, R102). -/
def eAction (w : Nat) : Nat :=
  match eKind w with
  | 1 => bits w 20 4
  | 2 => bits w 21 3
  | 4 => 1
  | 8 => bits w 21 3
  | _ => bits w 22 2

/-- An entry takes an EXT (Table 3.4). -/
def takesExt (w : Nat) : Bool :=
  match eKind w with
  | 1 => radioRole (eRes w) == 1 && (eAction w == 1 || eAction w == 2)
  | 2 => eAction w == 1 || eAction w == 2
  | 4 => true
  | 6 => eAction w == 1
  | 8 => eAction w == 1
  | 9 => true
  | _ => false

/-- An entry is a state change of its resource (R102). -/
def isChange (w : Nat) : Bool := eKind w != 0 && eKind w != 0xA && eKind w != 0xB

/-- Where a block applies (R101). -/
inductive Blk where
  | slot (s : Nat)
  | every (e p : Nat)
deriving DecidableEq, Repr

/-- A block applies at a slot position. -/
def Blk.at (b : Blk) (pos : Nat) : Bool :=
  match b with
  | .slot s => pos == s
  | .every e p => pos % 2 ^ e == p

/-- An entry with its word index, resource, EXT payload and block. -/
structure LEntry where
  idx : Nat
  id : Nat
  w : Nat
  ext : Nat
  blk : Blk
deriving DecidableEq, Repr

/-- A strand: its resource, the index of its mark, and the words of its COUNT entries with their indices. -/
structure Strand where
  id : Nat
  mark : Nat
  body : List (Nat × Nat)
deriving DecidableEq, Repr

/-- The strands of a section's words, `fuel` of them at most; words that open no strand end the list. -/
def strandsFrom (fuel : Nat) (ws : List (Nat × Nat)) : List Strand :=
  match fuel, ws with
  | f + 1, (i, w) :: r =>
    if isStrandMark w then
      { id := eRes w, mark := i, body := r.take (bits w 0 18) } :: strandsFrom f (r.drop (bits w 0 18))
    else []
  | _, _ => []

/-- The strands of section `n` of an image. -/
def strandsOf (ws : List Nat) (n : Nat) : List Strand :=
  strandsFrom (imgRegion ws n).2 (regionWords ws n)

/-- The state changes of a strand's words, each in the block `blk` opened last, with its EXT. -/
def changesFrom (id : Nat) (blk : Blk) : List (Nat × Nat) → List LEntry
  | [] => []
  | (i, w) :: r =>
    if eKind w = 0xA then
      changesFrom id (if markMode w = 2 then .every (bits w 16 4) (bits w 0 16) else .slot (bits w 0 16)) r
    else if isChange w then
      let ext := match r with
        | (_, x) :: _ => if eKind x = 0xB then bits x 0 60 else 0
        | [] => 0
      { idx := i, id := id, w := w, ext := ext, blk := blk } :: changesFrom id blk r
    else changesFrom id blk r

/-- The state changes of a strand. -/
def Strand.changes (st : Strand) : List LEntry := changesFrom st.id (.slot 0) st.body

/-- The strand of a resource in section `n`. -/
def strandOf (ws : List Nat) (n id : Nat) : Option Strand := (strandsOf ws n).find? (fun st => st.id == id)

/-! ## Fields of entries (Table 3.6) -/

/-- The cell handle of an entry that carries one. -/
def LEntry.cell (e : LEntry) : Option Nat :=
  match eKind e.w with
  | 1 => if radioRole e.id = 1 ∧ eAction e.w ≠ 0 then some (bits e.w 0 16) else none
  | 2 => if eAction e.w ≠ 0 then some (bits e.ext 0 16) else none
  | 8 => if eAction e.w = 1 then some (bits e.ext 0 16) else none
  | _ => none

/-- The channel stream of an entry that names one. -/
def LEntry.stream (e : LEntry) : Option Nat :=
  match eKind e.w with
  | 2 => if eAction e.w ≠ 0 then some (bits e.w 0 9) else none
  | 8 => if eAction e.w = 1 then some (bits e.w 0 9) else none
  | _ => none

/-- The hitch an entry is tagged with. -/
def LEntry.tag (e : LEntry) : Option Nat :=
  match eKind e.w with
  | 1 => if radioRole e.id = 1 ∧ eAction e.w ≠ 0 ∧ bitAt e.ext 10 then some (bits e.ext 0 10) else none
  | 2 => if eAction e.w ≠ 0 ∧ bitAt e.ext 16 then some (bits e.ext 17 10) else none
  | 3 => if eAction e.w = 1 then some (bits e.w 0 10) else none
  | 6 => if eAction e.w = 1 ∧ bitAt e.ext 10 then some (bits e.ext 0 10) else none
  | 8 => if eAction e.w = 2 ∧ bitAt e.w 20 then some (bits e.w 10 10) else none
  | _ => none

/-- The 64 gates a SLUICE entry sets. -/
def LEntry.gates (e : LEntry) : Nat := bits e.ext 0 60 + bits e.w 0 4 * 2 ^ 60

/-- A sluice entry opens a C0 window. -/
def LEntry.isC0 (e : LEntry) : Bool := eKind e.w == 4 && bitAt e.w 23

/-- The band of a channel stream (Table 3.5). -/
def streamBand (s : Nat) : Nat := if s < 64 then 0 else if s < 256 then 1 else 2

/-! ## Execution order and windows (R101 to R103) -/

/-- A state of a resource: the entry that sets it, and the ticks of the slotframe from its opening to its closing, which may pass
the slotframe's end. -/
structure Win where
  e : LEntry
  start : Nat
  stop : Nat
deriving DecidableEq, Repr

/-- An entry inserted into a list ordered by tick of the slotframe. -/
def insertEv (x : Nat × LEntry) : List (Nat × LEntry) → List (Nat × LEntry)
  | [] => [x]
  | y :: r => if y.1 ≤ x.1 then y :: insertEv x r else x :: y :: r

/-- The execution order of a strand: its state changes at every slot position they apply to, ordered by tick of the
slotframe. -/
def Strand.order (st : Strand) (slotTk frameLen : Nat) : List (Nat × LEntry) :=
  let cs := st.changes
  (List.range frameLen).flatMap (fun p =>
    ((cs.filter (fun e => e.blk.at p)).map (fun e => (p * slotTk + eTick e.w, e))).foldl
      (fun l x => insertEv x l) [])

/-- The states of an execution order, the last one running to the first of the next slotframe. -/
def winsFrom (frame first : Nat) : List (Nat × LEntry) → List Win
  | [] => []
  | [x] => [{ e := x.2, start := x.1, stop := first + frame }]
  | x :: y :: r => { e := x.2, start := x.1, stop := y.1 } :: winsFrom frame first (y :: r)

/-- The states other than idle of a strand. -/
def Strand.wins (st : Strand) (slotTk frameLen : Nat) : List Win :=
  let o := st.order slotTk frameLen
  match o with
  | [] => []
  | x :: _ => (winsFrom (slotTk * frameLen) x.1 o).filter (fun w => eAction w.e.w != 0)

/-- The state changes of a strand at one slot position, in order of tick. -/
def Strand.inSlot (st : Strand) (pos : Nat) : List LEntry :=
  (((st.changes.filter (fun e => e.blk.at pos)).map (fun e => (eTick e.w, e))).foldl
    (fun l x => insertEv x l) []).map (fun x => x.2)

/-- The state change in force at the start of a slot position: the last of the positions before it, `n` of them looked at. -/
def Strand.carried (st : Strand) (frameLen pos : Nat) : Nat → Option LEntry
  | 0 => none
  | n + 1 =>
    let p := (pos + frameLen - 1) % frameLen
    match (st.inSlot p).getLast? with
    | some e => some e
    | none => st.carried frameLen p n

/-- An ID is active in a slot position (R133): it holds a state other than idle there, or carries one in. -/
def Strand.active (st : Strand) (frameLen pos : Nat) : Bool :=
  (st.inSlot pos).any (fun e => eAction e.w != 0) ||
    (match st.carried frameLen pos frameLen with
     | some e => eAction e.w != 0
     | none => false)

/-! ## Resources (Table 3.5) and what a stage sheds (R126) -/

/-- The kind of pool an ID belongs to: 1 lanes, 2 cipher engines, 3 cores; 0 otherwise (R104). -/
def poolOf (id : Nat) : Nat :=
  if 0x100 ≤ id ∧ id ≤ 0x3FF then 1
  else if 0x400 ≤ id ∧ id ≤ 0x41F then 2
  else if 0x420 ≤ id ∧ id ≤ 0x42F then 3
  else 0

/-- The power domain of a resource ID, `none` for an ID that Table 3.5 does not assign. -/
def domainOf (id : Nat) : Option Nat :=
  if id < 0x004 then some 2
  else if id < 0x008 then some 3
  else if id < 0x00C then some 4
  else if id < 0x100 then none
  else if id < 0x280 then some 6
  else if id < 0x400 then some 7
  else if id < 0x420 then some 9
  else if id < 0x428 then some 13
  else if id < 0x430 then some 14
  else if id < 0x434 then some 11
  else if id < 0x438 then none
  else if id < 0x43C then some 12
  else if id < 0x440 then none
  else if id < 0x450 then some 15
  else if id < 0x453 then some 5
  else if id = 0x454 then some 10
  else if id = 0x455 then some 9
  else if id = 0x458 ∨ id = 0x459 then some 12
  else if 0xC00 ≤ id ∧ id ≤ 0xFFF then some 8
  else none

/-- A kind may stand on a resource (Table 3.4). -/
def kindFits (kind id : Nat) : Bool :=
  match kind with
  | 0 => true
  | 1 => decide (id < 0x00C)
  | 2 => poolOf id == 1
  | 3 => poolOf id == 2
  | 4 => decide (0x430 ≤ id ∧ id ≤ 0x433)
  | 5 => decide (0x438 ≤ id ∧ id ≤ 0x43B)
  | 6 => poolOf id == 3
  | 7 => id == 0 || id == 4 || id == 8 || poolOf id != 0 || decide (0x430 ≤ id ∧ id ≤ 0x433) ||
      decide (0x440 ≤ id ∧ id ≤ 0x44F) || decide (0x450 ≤ id ∧ id ≤ 0x452) || id == 0x454 || id == 0x455 ||
      id == 0x458 || id == 0x459
  | 8 => poolOf id != 0
  | 9 => decide (0xC00 ≤ id ∧ id ≤ 0xFFF)
  | 10 => true
  | _ => false

/-- The first stage that sheds a resource, 5 where only S5 does (R126). -/
def shedAt (id : Nat) : Nat :=
  if id < 0x004 then 5
  else if id < 0x008 then 4
  else if id < 0x00C then 2
  else if 0x280 ≤ id ∧ id ≤ 0x3FF then 3
  else if 0x410 ≤ id ∧ id ≤ 0x41F then 3
  else if 0x424 ≤ id ∧ id ≤ 0x427 then 4
  else if 0x428 ≤ id ∧ id ≤ 0x42F then 3
  else if id = 0x431 then 4
  else if id = 0x432 ∨ id = 0x433 then 2
  else if id = 0x438 ∨ id = 0x439 ∨ id = 0x458 then 4
  else if id = 0x43A ∨ id = 0x43B ∨ id = 0x459 then 3
  else if id = 0x451 then 4
  else if id = 0x452 then 2
  else 5

/-- The first stage that sheds a channel stream. -/
def streamShedAt (s : Nat) : Nat := match streamBand s with
  | 0 => 5
  | 1 => 4
  | _ => 2

/-- The first stage that sheds what an entry uses: its resource, its stream, TEST entries, TX_PLY and GANG. -/
def LEntry.shedAt (e : LEntry) : Nat :=
  let a := Sys2Proof.Machine.shedAt e.id
  let b := match e.stream with
    | some s => min a (streamShedAt s)
    | none => a
  if eKind e.w = 7 then min b 1
  else if (eKind e.w = 1 ∧ radioRole e.id = 1 ∧ eAction e.w = 2) ∨ (eKind e.w = 2 ∧ eAction e.w = 2) then min b 2
  else b

/-! ## Classes (R104) and needs (R125) -/

/-- The class table: word index, first ID, last ID, class. -/
def classTable (ws : List Nat) : List (Nat × Nat × Nat × Nat) :=
  (regionWords ws 5).map (fun x => (x.1, bits x.2 0 12, bits x.2 12 12, bits x.2 24 12))

/-- The class of an ID. -/
def classOf (ws : List Nat) (id : Nat) : Option Nat :=
  ((classTable ws).find? (fun c => decide (c.2.1 ≤ id ∧ id ≤ c.2.2.1))).map (fun c => c.2.2.2)

/-- Numbers without repeats, in rising order. -/
def sortNub (l : List Nat) : List Nat := (l.foldl (fun t k => put t k ()) []).map (fun e => e.1)

/-- The class numbers of an image. -/
def classesOf (ws : List Nat) : List Nat := sortNub ((classTable ws).map (fun c => c.2.2.2))

/-- The members of a class. -/
def membersOf (ws : List Nat) (cls : Nat) : List Nat :=
  sortNub (((classTable ws).filter (fun c => c.2.2.2 == cls)).flatMap
    (fun c => upFrom c.2.1 (c.2.2.1 + 1 - c.2.1)))

/-- The active IDs of a section at a slot position that belong to a pool. -/
def activeIds (ws : List Nat) (sec pos : Nat) : List Nat :=
  ((strandsOf ws sec).filter (fun st => poolOf st.id != 0 && st.active (imgFrameLen ws) pos)).map (fun st => st.id)

/-- The need of a class in a section (R125). -/
def needOf (ws : List Nat) (sec cls : Nat) : Nat :=
  let sts := (strandsOf ws sec).filter (fun st => classOf ws st.id == some cls)
  (List.range (imgFrameLen ws)).foldl
    (fun m p => max m (sts.filter (fun st => st.active (imgFrameLen ws) p)).length) 0

/-! ## Hitches (Table 3.6, §4) -/

/-- The binding a HITCH entry and its EXT hold. -/
def hitchInfo (num idx w ext : Nat) : HitchInfo :=
  { num := num, idx := idx, down := bitAt w 23, ply := bitAt w 22, port := bits w 20 2, queue := bits w 14 6,
    trx := bits w 12 2, sensor := bits ext 0 18, lMax := bits ext 18 11, frameMax := bits ext 29 14,
    rate := bits ext 43 2 }

/-- The hitches of a section. -/
def hitchesOf (ws : List Nat) (sec : Nat) : List HitchInfo :=
  (strandsOf ws sec).filterMap (fun st =>
    match st.body with
    | (i, w) :: (_, x) :: _ => if eKind w = 9 then some (hitchInfo (st.id - 0xC00) i w (bits x 0 60)) else none
    | _ => none)

/-- A hitch of a section by its number. -/
def hitchOf (ws : List Nat) (sec h : Nat) : Option HitchInfo := (hitchesOf ws sec).find? (fun i => i.num == h)

/-- The hitches of an image: of any section, each number once. -/
def allHitches (ws : List Nat) : List HitchInfo :=
  ((List.range 5).flatMap (hitchesOf ws)).foldl
    (fun l i => if l.any (fun j => j.num == i.num) then l else l ++ [i]) []

/-- The entries of a section tagged with a hitch. -/
def taggedOf (ws : List Nat) (sec h : Nat) : List LEntry :=
  ((strandsOf ws sec).flatMap Strand.changes).filter (fun e => e.tag == some h)

/-- The first stage that sheds a resource of a hitch: its transceiver, its port unless it ends at a ply link, and what its tagged
entries of the base section use. -/
def hitchShedAt (ws : List Nat) (i : HitchInfo) : Nat :=
  let es := taggedOf ws 0 i.num
  let plyOut := es.any (fun e => eKind e.w == 1 && eAction e.w == 2) && !i.down
  let a := min (shedAt (4 * i.trx)) (if plyOut then 5 else shedAt (0x430 + i.port))
  es.foldl (fun m e => min m e.shedAt) a

/-- The block operations of CCM* on a PSDU of L octets (Table 1.4). -/
def ccmBlocks (l : Nat) : Nat := 2 * ceilDiv l 16 + 2

/-- F_up of R19. -/
def fUp (l : Nat) : Nat := 28205 + 44 * ccmBlocks l

/-- F_down of R24. -/
def fDown (l : Nat) : Nat := 6604 + 44 * ccmBlocks l

/-- Ticks that a frame of `octets` occupies at a RATE of Table 3.6, its preamble and inter-frame octets included (R110). -/
def occupancyTk (octets rate : Nat) : Nat :=
  match rate with
  | 0 => ceilDiv ((octets + 8) * 8) 125
  | 1 => ceilDiv ((octets + 8) * 8) 50
  | 2 => ceilDiv ((octets + 8) * 16) 25
  | _ => ceilDiv ((octets + 8) * 8) 5

end Sys2Proof.Machine
end

