-- ==== Sys2Proof/Config.lean ====
section
/-!
DEFINITION. What one device fixes (grade, revision, serial numbers, keys, the check matrix) and the values the manual leaves
open. Every one is a constant without a body, so a claim holds whatever it is; notes/assumptions names each.
-/
namespace Sys2Proof.Config

/-- GRADE of Table 2.15: 1 VHC7200-AI, 2 VHC7200-AX. -/
opaque grade : Nat
/-- DIE_REVISION of Table 2.15. -/
opaque dieRevision : Nat
/-- SERIAL_NUMBER of Table 2.15. -/
opaque serialNumber : Nat
/-- MGMT_MAC of Table 2.15. -/
opaque mgmtMac : Nat
/-- The EUI-64 of the device. -/
opaque eui64 : Nat
/-- VENDOR_OUI of the MAC objects. -/
opaque vendorOui : Nat
/-- The check matrix as ECC_MATRIX lists it. -/
opaque eccMatrix : Nat
/-- A value the manual leaves open, by the number of the draw. -/
opaque freeValue : Nat → Nat
/-- The random numbers the block draws, by the number of the draw. -/
opaque random : Nat → Nat
/-- The octets of TRAIN_TABLE for accepted results (rate, rank, step, values), whose places in its 256-octet rows the manual does not
give; and the results that written octets hold. -/
opaque trainTable : List (Nat × Nat × Nat × List Nat) → Nat
/-- What written octets of TRAIN_TABLE hold. -/
opaque trainEntries : Nat → Nat → List (Nat × Nat × Nat × List Nat)
/-- The private half of the device's import key pair (08, §6). -/
opaque importPrivate : Nat
/-- The service key of the device (R78), 256 bits held in OTP since manufacture: octet 0 lowest. -/
opaque serviceKey : Nat
/-- What the octets of a boot image hold, whose header's places the manual does not give (length, octets): well formed, length of
header and body, key and signature carried, the octets of the header under the signature, LOAD_ADDR, ENTRY, body length and body. -/
opaque bootImage : Nat → Nat → Bool × Nat × Nat × Nat × List (BitVec 8) × Nat × Nat × Nat × Nat

end Sys2Proof.Config
end

