-- ==== Sys2Proof/Machine/Crypto.lean ====
section
/-!
DEFINITION. The algorithms that the manual names by their standards: SHA-256 (FIPS 180-4) and HMAC-SHA-256 (R78), the curve P-256 and
ECDSA over it (FIPS 186-4; R99, R312). The constants are the standards' own.
-/
namespace Sys2Proof.Machine

/-! ## SHA-256 -/

/-- The 64 round constants. -/
def shaK : List Nat :=
  [0x428a2f98, 0x71374491, 0xb5c0fbcf, 0xe9b5dba5, 0x3956c25b, 0x59f111f1, 0x923f82a4, 0xab1c5ed5, 0xd807aa98, 0x12835b01, 0x243185be,
    0x550c7dc3, 0x72be5d74, 0x80deb1fe, 0x9bdc06a7, 0xc19bf174, 0xe49b69c1, 0xefbe4786, 0x0fc19dc6, 0x240ca1cc, 0x2de92c6f, 0x4a7484aa,
    0x5cb0a9dc, 0x76f988da, 0x983e5152, 0xa831c66d, 0xb00327c8, 0xbf597fc7, 0xc6e00bf3, 0xd5a79147, 0x06ca6351, 0x14292967] ++
  [0x27b70a85, 0x2e1b2138, 0x4d2c6dfc, 0x53380d13, 0x650a7354, 0x766a0abb, 0x81c2c92e, 0x92722c85, 0xa2bfe8a1, 0xa81a664b, 0xc24b8b70,
    0xc76c51a3, 0xd192e819, 0xd6990624, 0xf40e3585, 0x106aa070, 0x19a4c116, 0x1e376c08, 0x2748774c, 0x34b0bcb5, 0x391c0cb3, 0x4ed8aa4a,
    0x5b9cca4f, 0x682e6ff3, 0x748f82ee, 0x78a5636f, 0x84c87814, 0x8cc70208, 0x90befffa, 0xa4506ceb, 0xbef9a3f7, 0xc67178f2]

/-- The eight words a hash begins with. -/
def shaInit : List Nat :=
  [0x6a09e667, 0xbb67ae85, 0x3c6ef372, 0xa54ff53a, 0x510e527f, 0x9b05688c, 0x1f83d9ab, 0x5be0cd19]

/-- A 32-bit word rotated right. -/
def rotr (x n : Nat) : Nat := (x >>> n ||| x <<< (32 - n)) % 2 ^ 32

/-- The message schedule: the 16 words of a block, newest first, and 48 more. -/
def shaSchedule (w : List Nat) : Nat → List Nat
  | 0 => w
  | n + 1 =>
    let a := w.getD 14 0
    let b := w.getD 1 0
    let s0 := rotr a 7 ^^^ rotr a 18 ^^^ (a >>> 3)
    let s1 := rotr b 17 ^^^ rotr b 19 ^^^ (b >>> 10)
    shaSchedule ((w.getD 15 0 + s0 + w.getD 6 0 + s1) % 2 ^ 32 :: w) n

/-- One round on the eight working words. -/
def shaRound (h : List Nat) (kw : Nat) : List Nat :=
  match h with
  | [a, b, c, d, e, f, g, z] =>
    let s1 := rotr e 6 ^^^ rotr e 11 ^^^ rotr e 25
    let ch := (e &&& f) ^^^ ((2 ^ 32 - 1 - e) &&& g)
    let t1 := (z + s1 + ch + kw) % 2 ^ 32
    let s0 := rotr a 2 ^^^ rotr a 13 ^^^ rotr a 22
    let maj := (a &&& b) ^^^ (a &&& c) ^^^ (b &&& c)
    [(t1 + s0 + maj) % 2 ^ 32, a, b, c, (d + t1) % 2 ^ 32, e, f, g]
  | _ => h

/-- A block of 64 octets taken into the hash. -/
def shaBlock (h : List Nat) (block : List Byte) : List Nat :=
  let w := (shaSchedule ((List.range 16).map (fun i => beField block (4 * (15 - i)) 4)) 48).reverse
  let r := (List.zipWith (· + ·) shaK w).foldl shaRound h
  List.zipWith (fun x y => (x + y) % 2 ^ 32) h r

/-- A message with its padding. -/
def shaPadded (m : List Byte) : List Byte :=
  m ++ [0x80] ++ List.replicate ((119 - m.length % 64) % 64) 0 ++ beOctets (8 * m.length) 8

/-- SHA-256 of a message: 32 octets. -/
def sha256 (m : List Byte) : List Byte :=
  let p := shaPadded m
  ((List.range (p.length / 64)).foldl (fun h i => shaBlock h ((p.drop (64 * i)).take 64)) shaInit).flatMap (fun w => beOctets w 4)

/-- HMAC-SHA-256 of a message with a key of at most 64 octets (RFC 2104). -/
def hmacSha256 (key m : List Byte) : List Byte :=
  let k := key ++ List.replicate (64 - key.length) 0
  sha256 (k.map (· ^^^ 0x5C) ++ sha256 (k.map (· ^^^ 0x36) ++ m))

/-! ## P-256 -/

/-- The prime of the field. -/
def p256p : Nat := 2 ^ 256 - 2 ^ 224 + 2 ^ 192 + 2 ^ 96 - 1

/-- The order of the base point. -/
def p256n : Nat := 0xffffffff00000000ffffffffffffffffbce6faada7179e84f3b9cac2fc632551

/-- The constant b of the curve y² = x³ - 3x + b. -/
def p256b : Nat := 0x5ac635d8aa3a93e7b3ebbd55769886bc651d06b0cc53b0f63bce3c3e27d2604b

/-- The base point. -/
def p256g : Nat × Nat :=
  (0x6b17d1f2e12c4247f8bce6e563a440f277037d812deb33a0f4a13945d898c296,
    0x4fe342e2fe1a7f9b8ee7eb4a7c0f9e162bce33576b315ececbb6406837bf51f5)

/-- A point with coordinates of the field lies on the curve. -/
def onP256 (x y : Nat) : Bool :=
  decide (x < p256p ∧ y < p256p) && (y * y % p256p == (x * x * x + (p256p - 3) * x + p256b) % p256p)

/-- `a ^ e` modulo `m`, for an exponent of at most `n` bits. -/
def powMod (a e m : Nat) : Nat → Nat
  | 0 => 1 % m
  | n + 1 =>
    let r := powMod (a * a % m) (e / 2) m n
    if e % 2 = 1 then a * r % m else r

/-- The inverse modulo a prime of 256 bits (Fermat). -/
def invMod (a m : Nat) : Nat := powMod (a % m) (m - 2) m 256

/-- The double of a point in Jacobian coordinates; z = 0 is the point at infinity. -/
def ecDouble (q : Nat × Nat × Nat) : Nat × Nat × Nat :=
  let p := p256p
  let x := q.1
  let y := q.2.1
  let z := q.2.2
  if z = 0 ∨ y = 0 then (1, 1, 0)
  else
    let d := z * z % p
    let yy := y * y % p
    let b := 4 * x * yy % p
    let m := 3 * (x + p - d) * (x + d) % p
    let x' := (m * m + 2 * (p - b)) % p
    (x', (m * (b + (p - x')) + (p - 8 * yy * yy % p)) % p, 2 * y * z % p)

/-- The sum of two points. -/
def ecAdd (a b : Nat × Nat × Nat) : Nat × Nat × Nat :=
  let p := p256p
  if a.2.2 = 0 then b
  else if b.2.2 = 0 then a
  else
    let za := a.2.2 * a.2.2 % p
    let zb := b.2.2 * b.2.2 % p
    let u := a.1 * zb % p
    let v := b.1 * za % p
    let s := a.2.1 * zb * b.2.2 % p
    let t := b.2.1 * za * a.2.2 % p
    if u = v then (if s = t then ecDouble a else (1, 1, 0))
    else
      let h := (v + (p - u)) % p
      let r := (t + (p - s)) % p
      let hh := h * h % p
      let hhh := h * hh % p
      let w := u * hh % p
      let x := (r * r + (p - hhh) + 2 * (p - w)) % p
      (x, (r * (w + (p - x)) + s * (p - hhh)) % p, h * a.2.2 * b.2.2 % p)

/-- A point multiplied by a number of at most `n` bits. -/
def ecMul (k : Nat) (q : Nat × Nat × Nat) : Nat → Nat × Nat × Nat
  | 0 => (1, 1, 0)
  | n + 1 =>
    let r := ecDouble (ecMul (k / 2) q n)
    if k % 2 = 1 then ecAdd r q else r

/-- The x coordinate of a point that is not at infinity. -/
def ecX (q : Nat × Nat × Nat) : Nat := q.1 * invMod (q.2.2 * q.2.2) p256p % p256p

/-- The y coordinate of a point that is not at infinity. -/
def ecY (q : Nat × Nat × Nat) : Nat := q.2.1 * invMod (q.2.2 * q.2.2 % p256p * q.2.2) p256p % p256p

/-- The public key of a private one: X then Y, each big-endian, octet 0 lowest. -/
def publicKey (d : Nat) : Nat :=
  let q := ecMul d (p256g.1, p256g.2, 1) 256
  ofOctets (beOctets (ecX q) 32 ++ beOctets (ecY q) 32)

/-- ECDSA verification of the signature (r, s) of a digest with the public key (x, y). -/
def ecdsaVerify (x y digest r s : Nat) : Bool :=
  let n := p256n
  if !onP256 x y || r == 0 || s == 0 || decide (n ≤ r ∨ n ≤ s) then false
  else
    let w := invMod s n
    let q := ecAdd (ecMul (digest * w % n) (p256g.1, p256g.2, 1) 256) (ecMul (r * w % n) (x, y, 1) 256)
    q.2.2 != 0 && ecX q % n == r

end Sys2Proof.Machine
end

