-- ==== Sys2Proof/Machine/DictTable.lean ====
section
/-!
DEFINITION. The object dictionary (chapters 02 to 15, every object table): index, sub-index, name, type, access class,
default, stated range and marks of every object. Records repeated for a transceiver, port or channel stand once, under the first
index; `baseIndex` (Dict.lean) leads the repeats to it. Rows are the tables' own, in their order.
-/
namespace Sys2Proof.Machine

/-- One row of an object table. Marks: bit 0 SVC, bit 1 marked 64-bit, bit 2 slow copy, bit 3 per requester. -/
def ob (index sub : Nat) (name : String) (ty : ObjType) (access : Access) (dflt : Nat) (range : List (Int × Int))
    (marks : Nat) : ObjDesc :=
  { index := index, sub := sub, name := name, ty := ty, access := access, dflt := dflt, range := range,
    svc := bitAt marks 0, mark64 := bitAt marks 1, slow := bitAt marks 2, perReq := bitAt marks 3 }

/-- Objects of records 0x1000 to 0x1000. -/
def dict10 : List ObjDesc := [
  ob 0x1000 0x01 "VENDOR" (.vis 32) .const 0x726f746375646e6f63696d655320646c69686c6956 [] 0,
  ob 0x1000 0x02 "PART" (.vis 32) .const 0x30303237434856 [] 0,
  ob 0x1000 0x03 "GRADE" (.u 8) .const 0 [] 0,
  ob 0x1000 0x04 "DIE_REVISION" (.u 16) .const 0 [] 0,
  ob 0x1000 0x05 "COMPAT_LEVEL" (.u 8) .const 1 [] 0,
  ob 0x1000 0x06 "CONTRACT_VERSION" (.u 8) .const 1 [] 0,
  ob 0x1000 0x07 "SERIAL_NUMBER" (.u 64) .const 0 [] 2,
  ob 0x1000 0x08 "MGMT_MAC" (.oct 6) .const 0 [] 0,
  ob 0x1000 0x09 "DICT_EDITION" (.u 16) .const 1 [] 0,
  ob 0x1000 0x0A "UPTIME_MS" (.u 64) .ro 0 [] 6,
  ob 0x1000 0x0B "RESET_CAUSE" .seqstat .rw 0 [] 0]

/-- Objects of records 0x1100 to 0x1104. -/
def dict11 : List ObjDesc := [
  ob 0x1100 0x01 "NODE_ID" (.u 8) .lim 127 [(1, 239)] 0,
  ob 0x1100 0x02 "NODE_ID_LEFT" (.u 8) .ro 8 [] 0,
  ob 0x1101 0x01 "NOM_BRP" (.u 8) .rws 1 [(1, 32)] 0,
  ob 0x1101 0x02 "NOM_TSEG1" (.u 16) .rws 63 [(2, 256)] 0,
  ob 0x1101 0x03 "NOM_TSEG2" (.u 8) .rws 16 [(2, 128)] 0,
  ob 0x1101 0x04 "NOM_SJW" (.u 8) .rws 16 [(1, 128)] 0,
  ob 0x1101 0x05 "DATA_BRP" (.u 8) .rws 1 [(1, 32)] 0,
  ob 0x1101 0x06 "DATA_TSEG1" (.u 8) .rws 11 [(1, 32)] 0,
  ob 0x1101 0x07 "DATA_TSEG2" (.u 8) .rws 4 [(1, 16)] 0,
  ob 0x1101 0x08 "DATA_SJW" (.u 8) .rws 4 [(1, 16)] 0,
  ob 0x1101 0x09 "TDC_OFFSET" (.u 8) .rws 12 [] 0,
  ob 0x1101 0x0A "TDC_ENABLE" .bool .rws 1 [] 0,
  ob 0x1102 0x01 "UDP_PORT" (.u 16) .rws 47807 [(1, 65535)] 0,
  ob 0x1102 0x02 "IPV4_ADDR" (.u 32) .rws 0 [] 0,
  ob 0x1102 0x03 "IPV4_MASK" (.u 32) .rws 0 [] 0,
  ob 0x1102 0x04 "IPV6_ADDR" (.oct 16) .rws 0 [] 0,
  ob 0x1102 0x05 "IPV6_PREFIX" (.u 8) .rws 64 [(1, 128)] 0,
  ob 0x1103 0x01 "HEARTBEAT_MS" (.u 16) .rw 1000 [] 0,
  ob 0x1103 0x02 "SVC_IDLE_S" (.u 16) .rw 300 [(10, 3600)] 0,
  ob 0x1103 0x03 "SVC_HOLDER" (.u 16) .ro 0 [] 0,
  ob 0x1103 0x04 "SVC_DENIALS" (.u 32) .ro 0 [] 0,
  ob 0x1103 0x05 "SVC_LOCK_S" (.u 16) .ro 0 [] 4,
  ob 0x1103 0x06 "SVC_CHALLENGE" (.oct 16) .ro 0 [] 0,
  ob 0x1103 0x07 "SVC_PROOF" (.oct 16) .wo 0 [] 0,
  ob 0x1103 0x08 "SVC_CLOSE" .bool .wo 0 [] 0,
  ob 0x1104 0x01 "CAN_RX" (.u 32) .ro 0 [] 0,
  ob 0x1104 0x02 "CAN_TX" (.u 32) .ro 0 [] 0,
  ob 0x1104 0x03 "CAN_IGNORED" (.u 32) .ro 0 [] 0,
  ob 0x1104 0x04 "CAN_BUSOFF" (.u 32) .ro 0 [] 0,
  ob 0x1104 0x05 "ABORTS_SENT" (.u 32) .ro 0 [] 0,
  ob 0x1104 0x06 "ABORTS_RECEIVED" (.u 32) .ro 0 [] 0,
  ob 0x1104 0x07 "MGMT_DROPPED" (.u 32) .ro 0 [] 0,
  ob 0x1104 0x08 "UDP_RX" (.u 32) .ro 0 [] 0]

/-- Objects of records 0x1200 to 0x1200. -/
def dict12 : List ObjDesc := [
  ob 0x1200 0x01 "FAULT_COUNT" (.u 32) .ro 0 [] 0,
  ob 0x1200 0x02 "FAULT_STATUS" .seqstat .rw 0 [] 0,
  ob 0x1200 0x03 "FAULT_LOG" (.dom 1024) .ro 0 [] 0]

/-- Objects of records 0x1800 to 0x1804. -/
def dict18 : List ObjDesc := [
  ob 0x1800 0x01 "OTP_STATUS" .seqstat .rw 0 [] 4,
  ob 0x1800 0x02 "OTP_PROGRAMS" (.u 32) .ro 0 [] 4,
  ob 0x1800 0x03 "OTP_FAULTS" (.u 32) .ro 0 [] 4,
  ob 0x1800 0x04 "SPARES_LEFT" (.oct 5) .ro 0x202010201 [] 4,
  ob 0x1800 0x05 "VOIDED" (.u 32) .ro 0 [] 4,
  ob 0x1801 0x01 "LIFECYCLE" (.u 8) .lim 1 [] 5,
  ob 0x1801 0x02 "LIFECYCLE_LEFT" (.u 8) .ro 3 [] 4,
  ob 0x1801 0x03 "LIFECYCLE_NOW" (.u 8) .ro 1 [] 4,
  ob 0x1802 0x01 "REGION_PROFILE" (.dom 1556) .lim 0 [] 5,
  ob 0x1802 0x02 "REGION_LEFT" (.u 8) .ro 4 [] 4,
  ob 0x1803 0x01 "ROOT_ROTATE" (.u 8) .lim 0 [] 5,
  ob 0x1803 0x02 "ROOT_LEFT" (.u 8) .ro 15 [] 4,
  ob 0x1804 0x01 "BOOT_KEY_HASH" (.oct 32) .rw 0 [] 5,
  ob 0x1804 0x02 "BOOT_KEY_READ" (.oct 32) .ro 0 [] 4]

/-- Objects of records 0x2000 to 0x2000. -/
def dict20 : List ObjDesc := [
  ob 0x2000 0x01 "REF_HZ" (.u 32) .const 0x249f000 [] 0,
  ob 0x2000 0x02 "ROOT_STATE" (.u 8) .ro 0 [] 0,
  ob 0x2000 0x03 "CLOCK_HZ" (.oct 20) .ro 0x7d000bebc2005f5e10002faf08005f5e1000 [] 0,
  ob 0x2000 0x04 "XTAL_OK" .bool .ro 1 [] 4,
  ob 0x2000 0x05 "ROOT_UNLOCKS" (.u 32) .ro 0 [] 0]

/-- Objects of records 0x2100 to 0x2105. -/
def dict21 : List ObjDesc := [
  ob 0x2100 0x01 "DOMAIN_STATE" (.oct 16) .ro 0x3030303030303030303030303030300 [] 4,
  ob 0x2100 0x02 "DOMAIN_REQ" (.u 16) .wo 0 [] 4,
  ob 0x2100 0x03 "REQ_RESULT" (.oct 16) .ro 0 [] 4,
  ob 0x2100 0x04 "TIMERS" (.dom 128) .rw 0x14000000000000001400000000000000140000000000000014000000000000001400000000000000140000000000000014000000000000001400000000000000140000000000000014000000000000001400000000000000140000000000000014000000000000001400000000000000000000000000000000 [] 4,
  ob 0x2100 0x05 "SLEEP_REQ" .bool .wo 0 [] 4,
  ob 0x2100 0x06 "WAKE_MASK" (.u 16) .rw 9 [] 4,
  ob 0x2100 0x07 "WAKE_AFTER_S" (.u 32) .rw 0 [] 4,
  ob 0x2102 0x01 "REFUSALS" (.dom 256) .ro 0 [] 4,
  ob 0x2102 0x02 "WAKES" (.dom 64) .ro 0 [] 4,
  ob 0x2104 0x01 "POWER_FAULT" .seqstat .rw 0 [] 4,
  ob 0x2104 0x02 "FAULT_RECORD" (.oct 16) .ro 0 [] 4,
  ob 0x2104 0x03 "FAULT_DOMAINS" (.u 16) .ro 0 [] 4,
  ob 0x2104 0x04 "FAULT_CLEAR" (.u 16) .wo 0 [] 4,
  ob 0x2105 0x01 "FAULT_N_ROUTE" (.u 16) .rw 255 [] 4,
  ob 0x2105 0x02 "FAULT_N_ACTIVE" (.u 16) .ro 0 [] 4,
  ob 0x2105 0x03 "FAULT_N_LATCH" .seqstat .rw 0 [] 4]

/-- Objects of records 0x2200 to 0x2203. -/
def dict22 : List ObjDesc := [
  ob 0x2200 0x01 "STAGE_NOW" (.u 8) .ro 0 [] 4,
  ob 0x2200 0x02 "VIN_MV" (.u 16) .ro 0 [] 4,
  ob 0x2200 0x03 "STAGE_EVENTS" .seqstat .rw 0 [] 4,
  ob 0x2200 0x04 "STAGE_FORCE" (.u 8) .rw 0 [(0, 5)] 5,
  ob 0x2200 0x05 "VIN_MIN_MV" (.u 16) .ro 65535 [] 4,
  ob 0x2201 0x01 "S1_MV" (.u 16) .rws 11400 [] 4,
  ob 0x2201 0x02 "S2_MV" (.u 16) .rws 11000 [] 4,
  ob 0x2201 0x03 "S3_MV" (.u 16) .rws 10600 [] 4,
  ob 0x2201 0x04 "S4_MV" (.u 16) .rws 10200 [] 4,
  ob 0x2201 0x05 "S5_MV" (.u 16) .rws 9600 [] 4,
  ob 0x2201 0x06 "HYST_MV" (.u 16) .rws 300 [(50, 1000)] 4,
  ob 0x2201 0x07 "RISE_HOLD_MS" (.u 16) .rws 2000 [(10, 60000)] 4,
  ob 0x2201 0x08 "DEBOUNCE" (.u 8) .rws 4 [(1, 64)] 4,
  ob 0x2201 0x09 "RESTART_MV" (.u 16) .rws 11000 [] 4,
  ob 0x2201 0x0A "RESTART_S" (.u 16) .rws 10 [(1, 3600)] 4,
  ob 0x2201 0x0B "PMBUS_ENABLE" .bool .rws 0 [] 4,
  ob 0x2201 0x0C "PMBUS_ADDR" (.u 8) .rws 64 [(0, 127)] 4,
  ob 0x2201 0x0D "GAIN_TRIM" (.i 16) .rws 0 [(-500, 500)] 4,
  ob 0x2202 0x01 "STAGE_ENTRIES" (.oct 20) .ro 0 [] 4,
  ob 0x2202 0x02 "STAGE_TIME_S" (.oct 20) .ro 0 [] 4,
  ob 0x2202 0x03 "PMBUS_ERRORS" (.u 32) .ro 0 [] 4,
  ob 0x2202 0x04 "RESTARTS" (.u 32) .ro 0 [] 4,
  ob 0x2202 0x05 "GASPS_SENT" (.u 32) .ro 0 [] 4,
  ob 0x2202 0x06 "GASPS_NOT_SENT" (.u 32) .ro 0 [] 4,
  ob 0x2203 0x01 "JOURNAL_BASE" (.u 32) .rw 0x2000000 [] 4,
  ob 0x2203 0x02 "JOURNAL_LAST" (.dom 4096) .ro 0 [] 0,
  ob 0x2203 0x03 "GASP_COUNT" (.u 8) .rw 3 [(0, 8)] 4,
  ob 0x2203 0x04 "JOURNAL_ENABLE" .bool .rw 1 [] 4,
  ob 0x2203 0x05 "SUSPEND_OP" (.u 8) .rw 117 [] 4]

/-- Objects of records 0x3000 to 0x3005. -/
def dict30 : List ObjDesc := [
  ob 0x3000 0x01 "LAY_COMMAND" (.u 32) .wo 0 [] 0,
  ob 0x3000 0x02 "LAY_STATUS" .seqstat .rw 0 [] 0,
  ob 0x3000 0x03 "REJECT_REASON" (.u 8) .ro 0 [] 0,
  ob 0x3000 0x04 "REJECT_WORD" (.u 32) .ro 0xffffffff [] 0,
  ob 0x3000 0x05 "REJECT_ITEM" (.u 16) .ro 65535 [] 0,
  ob 0x3000 0x06 "WARNINGS" (.u 32) .ro 0 [] 0,
  ob 0x3000 0x07 "SWAP_ASN" (.u 64) .rw 0 [] 2,
  ob 0x3000 0x08 "RUNNING_BANK" (.u 8) .ro 255 [] 0,
  ob 0x3000 0x09 "RUNNING_SECTION" (.u 8) .ro 5 [] 0,
  ob 0x3000 0x0A "DEGRADED" .bool .ro 0 [] 0,
  ob 0x3000 0x0B "RUNNING_BUILD_ID" (.u 64) .ro 0 [] 2,
  ob 0x3000 0x0C "RUNNING_CRC" (.u 32) .ro 0 [] 0,
  ob 0x3000 0x0D "SLOT_POS" (.u 16) .ro 0 [] 0,
  ob 0x3000 0x0E "REFRESH_RATE" (.u 8) .rw 2 [(1, 2)] 0,
  ob 0x3000 0x0F "REJECT_DETAIL" (.u 8) .ro 0 [] 0,
  ob 0x3001 0x01 "STANDBY_IMAGE" (.dom 1048576) .rw 0 [] 0,
  ob 0x3001 0x02 "RUNNING_IMAGE" (.dom 1048576) .ro 0 [] 0,
  ob 0x3002 0x01 "SIG_PUBKEY" (.oct 64) .rw 0 [] 1,
  ob 0x3002 0x02 "REQUIRE_SIG" .bool .rw 0 [] 1,
  ob 0x3003 0x01 "NEED_TABLE" (.dom 65536) .ro 0 [] 0,
  ob 0x3004 0x01 "HITCH_RECORDS" (.dom 73728) .ro 0 [] 0,
  ob 0x3004 0x02 "HITCH_CLEAR" (.u 16) .wo 0 [] 0,
  ob 0x3004 0x03 "BOUND_STATUS" .seqstat .rw 0 [] 0,
  ob 0x3004 0x04 "LAST_EXCESS_HITCH" (.u 16) .ro 65535 [] 0,
  ob 0x3004 0x05 "LAST_EXCESS_TK" (.u 32) .ro 0 [] 0,
  ob 0x3005 0x01 "SWAPS" (.u 32) .ro 0 [] 0,
  ob 0x3005 0x02 "REJECTS" (.u 32) .ro 0 [] 0,
  ob 0x3005 0x03 "STAGE_SWAPS" (.u 32) .ro 0 [] 0,
  ob 0x3005 0x04 "STAGE_SKIPPED" (.u 32) .ro 0 [] 0,
  ob 0x3005 0x05 "DEGRADED_ENTRIES" (.u 32) .ro 0 [] 0,
  ob 0x3005 0x06 "TEST_CANCELLED" (.u 32) .ro 0 [] 0,
  ob 0x3005 0x07 "SWAP_ABANDONED" (.u 32) .ro 0 [] 0]

/-- Objects of records 0x3100 to 0x3106. -/
def dict31 : List ObjDesc := [
  ob 0x3100 0x01 "PLACEMENT_ENABLE" .bool .rw 1 [] 0,
  ob 0x3100 0x02 "TRIGGER_MASK" (.u 16) .rw 63 [] 0,
  ob 0x3100 0x03 "DECISION_LEAD_TK" (.u 32) .const 10000 [] 0,
  ob 0x3101 0x01 "MAP_TABLE" (.dom 3264) .ro 0 [] 0,
  ob 0x3101 0x02 "RETIRED" (.oct 102) .ro 0 [] 0,
  ob 0x3101 0x03 "PAN_STATE" (.oct 16) .ro 0x1010101010101010101010101010101 [] 0,
  ob 0x3101 0x04 "RETIRED_CLEAR" (.u 16) .wo 0 [] 1,
  ob 0x3102 0x01 "FORBID" (.oct 102) .rws 0 [] 0,
  ob 0x3102 0x02 "PAN_RESERVE" (.u 16) .rws 0 [] 0,
  ob 0x3102 0x03 "THERMAL_HIGH_C" (.i 16) .rws 95 [(60, 115)] 0,
  ob 0x3102 0x04 "THERMAL_LOW_C" (.i 16) .rws 85 [] 0,
  ob 0x3102 0x05 "ECC_RATE_LIMIT" (.u 16) .rws 16 [] 0,
  ob 0x3102 0x06 "PROMOTE_FRAMES" (.u 16) .rws 4 [(1, 65535)] 0,
  ob 0x3102 0x07 "PROMOTE_WINDOW_S" (.u 16) .rws 3600 [(60, 65535)] 0,
  ob 0x3102 0x08 "DEMOTE_IDLE_S" (.u 32) .rws 86400 [(600, 31536000)] 0,
  ob 0x3102 0x09 "MIGRATE_MIBPS" (.u 16) .rws 64 [(1, 1024)] 0,
  ob 0x3102 0x0A "MIN_DWELL_S" (.u 16) .rws 600 [] 0,
  ob 0x3102 0x0B "LOAD_SPREAD_PCT" (.u 8) .rws 25 [(5, 100)] 0,
  ob 0x3103 0x01 "JOURNAL" (.dom 131072) .ro 0 [] 0,
  ob 0x3103 0x02 "JOURNAL_STATUS" .seqstat .rw 0 [] 0,
  ob 0x3103 0x03 "JOURNAL_COUNT" (.u 32) .ro 0 [] 0,
  ob 0x3104 0x01 "WHY_QUERY" (.u 32) .wo 0 [] 0,
  ob 0x3104 0x02 "WHY_RESULT" (.oct 32) .ro 0 [] 8,
  ob 0x3104 0x03 "WHERE" (.u 16) .ro 65535 [] 8,
  ob 0x3105 0x01 "REMAPS" (.u 32) .ro 0 [] 0,
  ob 0x3105 0x02 "RETIREMENTS" (.u 32) .ro 0 [] 0,
  ob 0x3105 0x03 "MIGRATIONS" (.u 32) .ro 0 [] 0,
  ob 0x3105 0x04 "DEFERRED" (.u 32) .ro 0 [] 0,
  ob 0x3105 0x05 "TEST_NOT_CLEAR" (.u 32) .ro 0 [] 0,
  ob 0x3105 0x06 "ENTRY_UNREACHABLE" (.u 32) .ro 0 [] 0,
  ob 0x3105 0x07 "SPARE_SERVED" (.u 32) .ro 0 [] 0,
  ob 0x3105 0x08 "FORBIDS_LIFTED" (.u 32) .ro 0 [] 0,
  ob 0x3105 0x09 "PIN_MISSING" (.u 32) .ro 0 [] 0,
  ob 0x3105 0x0A "UNMAPPED_SKIPPED" (.u 32) .ro 0 [] 0,
  ob 0x3106 0x01 "TIER_FORCE" (.dom 16384) .rw 0 [] 0]

/-- Objects of records 0x4000 to 0x4005. -/
def dict40a : List ObjDesc := [
  ob 0x4000 0x01 "TRX_STATE" (.u 8) .ro 0 [] 0,
  ob 0x4000 0x02 "TRX_EVENTS" .seqstat .rw 0 [] 0,
  ob 0x4000 0x03 "CHANNEL" (.u 16) .ro 65535 [] 0,
  ob 0x4000 0x04 "PATH" (.u 8) .ro 0 [] 0,
  ob 0x4000 0x05 "N_INT" (.u 8) .ro 0 [] 0,
  ob 0x4000 0x06 "N_FRAC" (.u 32) .ro 0 [] 0,
  ob 0x4000 0x07 "VCO_BAND" (.u 8) .ro 0 [] 0,
  ob 0x4000 0x08 "VTUNE" (.u 8) .ro 0 [] 0,
  ob 0x4000 0x09 "CP_I" (.u 8) .ro 0 [] 0,
  ob 0x4000 0x0A "DIE_TEMP_C" (.i 16) .ro 0 [] 0,
  ob 0x4000 0x0B "MANUAL_HOP" (.u 32) .wo 0 [] 0,
  ob 0x4000 0x0C "TX_INHIBIT_CLEAR" .bool .wo 0 [] 0,
  ob 0x4001 0x01 "TX_POWER_QDBM" (.i 16) .rws 0 [(-120, 40)] 0,
  ob 0x4001 0x02 "RAMP_TK" (.u 16) .rws 400 [(100, 2000)] 0,
  ob 0x4001 0x03 "PA_LEAD_TK" (.u 16) .rws 400 [(0, 1000)] 0,
  ob 0x4001 0x04 "PA_LAG_TK" (.u 16) .rws 200 [(0, 2000)] 0,
  ob 0x4001 0x05 "TRSW_LAG_TK" (.u 16) .rws 400 [(0, 4000)] 0,
  ob 0x4001 0x06 "FIR_COEF" (.oct 384) .rws 0x400000000000000000000000000000000000000000000000000000000000000000000000000000000000000000000000400000000000000000000000000000000000000000000000000000000000000000000000000000000000000000000000400000000000000000000000000000000000000000000000000000000000000000000000000000000000000000000000400000000000000000000000000000000000000000000000000000000000000000000000000000000000000000000000400000000000000000000000000000000000000000000000000000000000000000000000000000000000000000000000400000000000000000000000000000000000000000000000000000000000000000000000000000000000000000000000400000000000000000000000000000000000000000000000000000000000000000000000000000000000000000000000400000000000000000000000000000000000000000000000000000000000000000000000000000000000000000000000 [] 0,
  ob 0x4001 0x07 "FIR_MAP" (.oct 64) .rws 0 [] 0,
  ob 0x4002 0x01 "AGC_MODE" (.u 8) .rws 0 [(0, 1)] 0,
  ob 0x4002 0x02 "FIXED_GAIN_STEP" (.u 8) .rws 4 [(0, 7)] 0,
  ob 0x4002 0x03 "AGC_TARGET_DBFS" (.i 8) .rws 241 [(-30, -3)] 0,
  ob 0x4003 0x01 "CAL_COMMAND" (.u 32) .wo 0 [] 0,
  ob 0x4003 0x02 "CAL_STATUS" .seqstat .rw 0 [] 0,
  ob 0x4003 0x03 "CAL_PERIOD_S" (.u 32) .rw 3600 [] 0,
  ob 0x4003 0x04 "CAL_TEMP_DELTA_C" (.u 8) .rw 10 [(2, 40)] 0,
  ob 0x4003 0x05 "CAL_FAILS" (.u 32) .ro 0 [] 0,
  ob 0x4003 0x06 "CAL_RUNS" (.u 32) .ro 0 [] 0,
  ob 0x4003 0x07 "SYNTH_STALE_C" (.u 8) .rw 15 [(5, 39)] 0,
  ob 0x4004 0x01 "RX1_IMAGE_DB" (.i 16) .ro 0 [] 0,
  ob 0x4004 0x02 "RX2_IMAGE_DB" (.i 16) .ro 0 [] 0,
  ob 0x4004 0x03 "TX_LO_LEAK_DBC" (.i 16) .ro 0 [] 0,
  ob 0x4004 0x04 "TX_IMAGE_DB" (.i 16) .ro 0 [] 0,
  ob 0x4004 0x05 "RX1_DC_DBFS" (.i 16) .ro 0 [] 0,
  ob 0x4004 0x06 "RX2_DC_DBFS" (.i 16) .ro 0 [] 0,
  ob 0x4004 0x07 "CAL_AGE_S" (.u 32) .ro 0 [] 0,
  ob 0x4004 0x08 "TX_TRIM_QDB" (.i 16) .ro 0 [] 0,
  ob 0x4004 0x09 "FWD_PWR_QDBM" (.i 16) .ro 0 [] 0,
  ob 0x4005 0x01 "TUNER_PRESETS" (.dom 1024) .rw 0 [] 0,
  ob 0x4005 0x02 "TUNER_CODES" (.u 32) .ro 0x1000000 [] 0]

/-- Objects of records 0x4005 to 0x4007. -/
def dict40b : List ObjDesc := [
  ob 0x4005 0x03 "TUNER_PRESET_NOW" (.u 8) .ro 0 [] 0,
  ob 0x4005 0x04 "RL_LAST_QDB" (.i 16) .ro 0 [] 0,
  ob 0x4006 0x01 "RL_WARN" (.u 16) .rws 100 [] 0,
  ob 0x4006 0x02 "RL_BACKOFF" (.u 16) .rws 60 [] 0,
  ob 0x4006 0x03 "RL_INHIBIT" (.u 16) .rws 30 [] 0,
  ob 0x4006 0x04 "BACKOFF_QDB" (.u 8) .rws 12 [] 0,
  ob 0x4006 0x05 "AUTO_LIMIT" (.u 8) .rws 4 [(0, 63)] 0,
  ob 0x4006 0x06 "EXT_TUNER" .bool .rws 0 [] 0,
  ob 0x4006 0x07 "EXT_ADDR" (.u 8) .rws 96 [] 0,
  ob 0x4007 0x01 "TX_STARTED" (.u 32) .ro 0 [] 0,
  ob 0x4007 0x02 "TX_LATE_LOCK" (.u 32) .ro 0 [] 0,
  ob 0x4007 0x03 "TX_NO_FIT" (.u 32) .ro 0 [] 0,
  ob 0x4007 0x04 "TX_WRONG_PATH" (.u 32) .ro 0 [] 0,
  ob 0x4007 0x05 "RX_LATE_LOCK" (.u 32) .ro 0 [] 0,
  ob 0x4007 0x06 "RX_WRONG_PATH" (.u 32) .ro 0 [] 0,
  ob 0x4007 0x07 "HOP_MISS" (.u 32) .ro 0 [] 0,
  ob 0x4007 0x08 "LOCK_LOST" (.u 32) .ro 0 [] 0,
  ob 0x4007 0x09 "RECAL_DONE" (.u 32) .ro 0 [] 0,
  ob 0x4007 0x0A "SYNTH_FAULT" (.u 32) .ro 0 [] 0,
  ob 0x4007 0x0B "MASK_ABORT" (.u 32) .ro 0 [] 0,
  ob 0x4007 0x0C "POWER_TRIM" (.u 32) .ro 0 [] 0,
  ob 0x4007 0x0D "DUTY_BLOCK" (.u 32) .ro 0 [] 0,
  ob 0x4007 0x0E "REG_MASK_BLOCK" (.u 32) .ro 0 [] 0,
  ob 0x4007 0x0F "TUNER_WARN" (.u 32) .ro 0 [] 0,
  ob 0x4007 0x10 "TUNER_BACKOFF" (.u 32) .ro 0 [] 0,
  ob 0x4007 0x11 "TX_INHIBITED" (.u 32) .ro 0 [] 0,
  ob 0x4007 0x12 "PLY_ABANDONED" (.u 32) .ro 0 [] 0,
  ob 0x4007 0x13 "TX_CUT" (.u 32) .ro 0 [] 0]

/-- Objects of the records 0x4000 to 0x40FF. -/
def dict40 : List ObjDesc := dict40a ++ dict40b

/-- Objects of records 0x4300 to 0x4300. -/
def dict43 : List ObjDesc := [
  ob 0x4300 0x01 "PROFILE" (.dom 1556) .ro 0 [] 0,
  ob 0x4300 0x02 "PROFILE_ID" (.u 32) .ro 0 [] 0,
  ob 0x4300 0x03 "PROFILE_PENDING" .bool .ro 0 [] 0,
  ob 0x4300 0x04 "DUTY_USED" (.dom 192) .ro 0 [] 0,
  ob 0x4300 0x05 "TX_LIMIT_A_QDBM" (.i 16) .ro 0 [] 0,
  ob 0x4300 0x06 "TX_LIMIT_B_QDBM" (.i 16) .ro 0 [] 0,
  ob 0x4300 0x07 "TX_LIMIT_C_QDBM" (.i 16) .ro 0 [] 0]

/-- Objects of records 0x4400 to 0x4400. -/
def dict44 : List ObjDesc := [
  ob 0x4400 0x01 "CHAN_PLAN" (.dom 4096) .rw 0 [] 0,
  ob 0x4400 0x02 "CAL_TABLE" (.dom 16384) .ro 0 [] 0,
  ob 0x4400 0x03 "CAL_INVALIDATE" (.u 16) .wo 0 [] 0]

/-- Objects of records 0x5000 to 0x5001. -/
def dict50 : List ObjDesc := [
  ob 0x5000 0x01 "STREAM_TABLE" (.dom 4096) .rws 0 [] 0,
  ob 0x5000 0x02 "CAPTURE_MARGIN_QDB" (.u 8) .rws 24 [(0, 80)] 0,
  ob 0x5000 0x03 "CAPTURE_ENABLE" .bool .rws 1 [] 0,
  ob 0x5001 0x01 "RAKE_STREAM_COUNTS" (.dom 6144) .ro 0 [] 0,
  ob 0x5001 0x02 "RAKE_DETECTIONS" (.u 32) .ro 0 [] 0,
  ob 0x5001 0x03 "RAKE_UNSERVED" (.u 32) .ro 0 [] 0,
  ob 0x5001 0x04 "RAKE_OVERLAP_IGNORED" (.u 32) .ro 0 [] 0,
  ob 0x5001 0x05 "STREAM_VALID" (.oct 64) .ro 0 [] 0]

/-- Objects of records 0x5100 to 0x5140. -/
def dict51 : List ObjDesc := [
  ob 0x5100 0x01 "PROFILES" (.dom 1024) .rws 0xf0000000000000000000000000000000f0000000000000000000000000000000f0000000000000000000000000000000f0000000000000000000000000000000f0000000000000000000000000000000f0000000000000000000000000000000f0000000000000000000000000000000f0000000000000000000000000000000f0000000000000000000000000000000f0000000000000000000000000000000f0000000000000000000000000000000f0000000000000000000000000000000f0000000000000000000000000000000f0000000000000000000000000000000f0000000000000000000000000000000f0000000000000000000000000000000f0000000000000000000000000000000f0000000000000000000000000000000f0000000000000000000000000000000f0000000000000000000000000000000f0000000000000000000000000000000f0000000000000000000000000000000f0000000000000000000000000000000f0000000000000000000000000000000f0000000000000000000000000000000f0000000000000000000000000000000f0000000000000000000000000000000f0000000000000000000000000000000f0000000000000000000000000000000f0000000000000000000000000000000f0000000000000000000000000000000f0000000000000000000000000000000f0000000000000000000000000000000f0000000000000000000000000000000f0000000000000000000000000000000f0000000000000000000000000000000f0000000000000000000000000000000f0000000000000000000000000000000f0000000000000000000000000000000f0000000000000000000000000000000f0000000000000000000000000000000f0000000000000000000000000000000f0000000000000000000000000000000f0000000000000000000000000000000f0000000000000000000000000000000f0000000000000000000000000000000f0000000000000000000000000000000f0000000000000000000000000000000f0000000000000000000000000000000f0000000000000000000000000000000f0000000000000000000000000000000f0000000000000000000000000000000f0000000000000000000000000000000f0000000000000000000000000000000f0000000000000000000000000000000f0000000000000000000000000000000f0000000000000000000000000000000f0000000000000000000000000000000f0000000000000000000000000000000f0000000000000000000000000000000f0000000000000000000000000000000f0000000000000000000000000000000f000000000000013c285990023ff80100 [] 0,
  ob 0x5101 0x01 "LANE_STATE" (.oct 768) .ro 0 [] 0,
  ob 0x5102 0x01 "QUALITY_TAP" (.u 16) .rw 65535 [] 0,
  ob 0x5102 0x02 "QUALITY_RING" (.dom 4096) .ro 0 [] 0,
  ob 0x5103 0x01 "LANE_EVENTS" .seqstat .rw 0 [] 0,
  ob 0x5140 0x01 "LANE_FRAMES" (.u 32) .ro 0 [] 0,
  ob 0x5140 0x02 "LANE_LEN_ZERO" (.u 32) .ro 0 [] 0,
  ob 0x5140 0x03 "LANE_PHR_FAIL" (.u 32) .ro 0 [] 0,
  ob 0x5140 0x04 "LANE_LEN_SHORT" (.u 32) .ro 0 [] 0,
  ob 0x5140 0x05 "LANE_LEN_OVER" (.u 32) .ro 0 [] 0,
  ob 0x5140 0x06 "LANE_MS_UNSUPPORTED" (.u 32) .ro 0 [] 0,
  ob 0x5140 0x07 "LANE_SFD_TIMEOUT" (.u 32) .ro 0 [] 0,
  ob 0x5140 0x08 "LANE_FALSE_PREEMPTED" (.u 32) .ro 0 [] 0,
  ob 0x5140 0x09 "LANE_WINDOW_CUT" (.u 32) .ro 0 [] 0,
  ob 0x5140 0x0A "LANE_STREAM_INVALID" (.u 32) .ro 0 [] 0,
  ob 0x5140 0x0B "LANE_SHED" (.u 32) .ro 0 [] 0,
  ob 0x5140 0x0C "CAPTURE_TAKEN" (.u 32) .ro 0 [] 0,
  ob 0x5140 0x0D "CAPTURE_NEW_LOST" (.u 32) .ro 0 [] 0,
  ob 0x5140 0x0E "CAPTURE_OLD_LOST" (.u 32) .ro 0 [] 0,
  ob 0x5140 0x0F "PROFILE_MISMATCH" (.u 32) .ro 0 [] 0,
  ob 0x5140 0x10 "STREAM_DISABLED" (.u 32) .ro 0 [] 0,
  ob 0x5140 0x11 "HEADER_TO_BIGHT" (.u 32) .ro 0 [] 0]

/-- Objects of records 0x5200 to 0x5240. -/
def dict52 : List ObjDesc := [
  ob 0x5200 0x01 "PLY_LINKS" (.dom 256) .rws 0 [] 0,
  ob 0x5201 0x01 "LINK_STATUS" (.dom 512) .ro 0 [] 0,
  ob 0x5202 0x01 "TX_LOADING" (.dom 65536) .ro 0 [] 0,
  ob 0x5202 0x02 "RX_LOADING" (.dom 65536) .ro 0 [] 0,
  ob 0x5202 0x03 "LAST_SOUND_SNR" (.dom 53248) .ro 0 [] 0,
  ob 0x5203 0x01 "SOUND_COMMAND" (.u 8) .wo 0 [] 0,
  ob 0x5203 0x02 "FALLBACK_COMMAND" (.u 8) .wo 0 [] 0,
  ob 0x5240 0x01 "BURSTS_RX" (.u 32) .ro 0 [] 0,
  ob 0x5240 0x02 "HEADER_FAIL" (.u 32) .ro 0 [] 0,
  ob 0x5240 0x03 "LDPC_FAIL" (.u 32) .ro 0 [] 0,
  ob 0x5240 0x04 "UNKNOWN_LOADING" (.u 32) .ro 0 [] 0,
  ob 0x5240 0x05 "SEGMENT_LOST" (.u 32) .ro 0 [] 0,
  ob 0x5240 0x06 "SOUNDINGS_TX" (.u 32) .ro 0 [] 0,
  ob 0x5240 0x07 "SOUNDINGS_RX" (.u 32) .ro 0 [] 0,
  ob 0x5240 0x08 "LOADING_TX" (.u 32) .ro 0 [] 0,
  ob 0x5240 0x09 "FALLBACKS" (.u 32) .ro 0 [] 0,
  ob 0x5240 0x0A "LOADING_BAD" (.u 32) .ro 0 [] 0,
  ob 0x5240 0x0B "PLY_LEN_ZERO" (.u 32) .ro 0 [] 0]

/-- Objects of records 0x6000 to 0x6040. -/
def dict60a : List ObjDesc := [
  ob 0x6000 0x01 "PAN_ID" (.u 16) .rws 0 [] 0,
  ob 0x6000 0x02 "SHORT_ADDR" (.u 16) .rws 0 [] 0,
  ob 0x6000 0x03 "EUI64" (.oct 8) .const 0 [] 0,
  ob 0x6000 0x04 "MAX_RETRIES" (.u 8) .rws 3 [(0, 7)] 0,
  ob 0x6000 0x05 "LIFETIME_C0_MS" (.u 32) .rws 1000 [(10, 600000)] 0,
  ob 0x6000 0x06 "LIFETIME_C1_MS" (.u 32) .rws 5000 [(10, 600000)] 0,
  ob 0x6000 0x07 "LIFETIME_C2_MS" (.u 32) .rws 30000 [(10, 600000)] 0,
  ob 0x6000 0x08 "LIFETIME_C3_MS" (.u 32) .rws 120000 [(10, 600000)] 0,
  ob 0x6000 0x09 "G_MIN_TK" (.u 32) .rws 20000 [(0, 2000000)] 0,
  ob 0x6000 0x0A "G_MAX_TK" (.u 32) .rws 400000 [(2000, 4000000)] 0,
  ob 0x6000 0x0B "LOCKED_DRIFT_QPPM" (.u 8) .rws 2 [] 0,
  ob 0x6000 0x0C "DEFAULT_DRIFT_QPPM" (.u 8) .rws 80 [(1, 255)] 0,
  ob 0x6000 0x0D "MIN_BE" (.u 8) .rws 1 [(0, 7)] 0,
  ob 0x6000 0x0E "MAX_BE" (.u 8) .rws 7 [(0, 7)] 0,
  ob 0x6000 0x0F "DL_QUEUE_MAX" (.u 8) .rws 4 [(1, 16)] 0,
  ob 0x6000 0x10 "JOIN_ENABLE" .bool .rws 0 [] 0,
  ob 0x6000 0x11 "JOIN_FLOW" (.u 16) .rws 0 [] 0,
  ob 0x6000 0x12 "JOIN_RATE" (.u 16) .rws 100 [(1, 10000)] 0,
  ob 0x6000 0x13 "CSL_MAX_WAKEUPS" (.u 16) .rws 16 [(2, 1024)] 0,
  ob 0x6001 0x01 "HOP_SEQUENCE" (.dom 1024) .rws 0 [] 0,
  ob 0x6001 0x02 "JOIN_METRIC" (.u 8) .rws 0 [] 0,
  ob 0x6001 0x03 "EB_TRAILER_IES" (.dom 64) .rws 0 [] 0,
  ob 0x6001 0x04 "VENDOR_OUI" (.oct 3) .const 0 [] 0,
  ob 0x6002 0x01 "TEMPLATES" (.oct 32) .rws 0xf424000030d40000f424000030d40000f424000030d40000f424000030d40 [] 0,
  ob 0x6003 0x01 "CELL_TABLE" (.dom 524288) .rws 0 [] 0,
  ob 0x6004 0x01 "COMPLETION_RING" (.dom 32768) .ro 0 [] 0,
  ob 0x6004 0x02 "COMPLETION_STATUS" .seqstat .rw 0 [] 0,
  ob 0x6005 0x01 "CONTEXTS" (.dom 384) .rws 0 [] 0,
  ob 0x6005 0x02 "REASM_TIMEOUT_S" (.u 8) .rws 60 [(1, 60)] 0,
  ob 0x6005 0x03 "REASM_MAX" (.u 16) .rws 1280 [(1280, 2047)] 0,
  ob 0x6005 0x04 "REASM_PER_SENSOR" (.u 8) .rws 2 [(1, 4)] 0,
  ob 0x6040 0x01 "RX_ACCEPTED" (.u 32) .ro 0 [] 0,
  ob 0x6040 0x02 "FCS_FAIL" (.u 32) .ro 0 [] 0,
  ob 0x6040 0x03 "NOT_FOR_US" (.u 32) .ro 0 [] 0,
  ob 0x6040 0x04 "FRAME_UNSUPPORTED" (.u 32) .ro 0 [] 0,
  ob 0x6040 0x05 "UNKNOWN_SOURCE" (.u 32) .ro 0 [] 0,
  ob 0x6040 0x06 "DUPLICATE" (.u 32) .ro 0 [] 0,
  ob 0x6040 0x07 "TAG_FAIL" (.u 32) .ro 0 [] 0,
  ob 0x6040 0x08 "REPLAY" (.u 32) .ro 0 [] 0,
  ob 0x6040 0x09 "SEC_LEVEL_MISMATCH" (.u 32) .ro 0 [] 0]

/-- Objects of records 0x6040 to 0x6040. -/
def dict60b : List ObjDesc := [
  ob 0x6040 0x0A "CLASS_DEMOTED" (.u 32) .ro 0 [] 0,
  ob 0x6040 0x0B "ACKS_SENT" (.u 32) .ro 0 [] 0,
  ob 0x6040 0x0C "ACK_TOO_LATE" (.u 32) .ro 0 [] 0,
  ob 0x6040 0x0D "OUTSIDE_GUARD" (.u 32) .ro 0 [] 0,
  ob 0x6040 0x0E "CELL_UNTYPED" (.u 32) .ro 0 [] 0,
  ob 0x6040 0x0F "HOP_MISMATCH" (.u 32) .ro 0 [] 0,
  ob 0x6040 0x10 "WRONG_CELL" (.u 32) .ro 0 [] 0,
  ob 0x6040 0x11 "TX_DATA" (.u 32) .ro 0 [] 0,
  ob 0x6040 0x12 "RETRIES" (.u 32) .ro 0 [] 0,
  ob 0x6040 0x13 "NO_ACK" (.u 32) .ro 0 [] 0,
  ob 0x6040 0x14 "UPPER_TIMEOUT" (.u 32) .ro 0 [] 0,
  ob 0x6040 0x15 "LATE_ACK" (.u 32) .ro 0 [] 0,
  ob 0x6040 0x16 "DL_QUEUE_FULL" (.u 32) .ro 0 [] 0,
  ob 0x6040 0x17 "DL_NO_SENSOR" (.u 32) .ro 0 [] 0,
  ob 0x6040 0x18 "CSL_TRAINS" (.u 32) .ro 0 [] 0,
  ob 0x6040 0x19 "CSL_NO_FIT" (.u 32) .ro 0 [] 0,
  ob 0x6040 0x1A "REASM_TIMEOUT" (.u 32) .ro 0 [] 0,
  ob 0x6040 0x1B "REASM_CONFLICT" (.u 32) .ro 0 [] 0,
  ob 0x6040 0x1C "REASM_OVERFLOW" (.u 32) .ro 0 [] 0,
  ob 0x6040 0x1D "LOWPAN_FAIL" (.u 32) .ro 0 [] 0,
  ob 0x6040 0x1E "DL_TOO_BIG" (.u 32) .ro 0 [] 0,
  ob 0x6040 0x1F "JOIN_DELIVERED" (.u 32) .ro 0 [] 0,
  ob 0x6040 0x20 "JOIN_DROPPED" (.u 32) .ro 0 [] 0,
  ob 0x6040 0x21 "SEQ_SUPPRESSED" (.u 32) .ro 0 [] 0,
  ob 0x6040 0x22 "EB_SENT" (.u 32) .ro 0 [] 0,
  ob 0x6040 0x23 "TX_MISSED_CELL" (.u 32) .ro 0 [] 0]

/-- Objects of the records 0x6000 to 0x60FF. -/
def dict60 : List ObjDesc := dict60a ++ dict60b

/-- Objects of records 0x6100 to 0x6140. -/
def dict61 : List ObjDesc := [
  ob 0x6100 0x01 "SENSOR_TABLE" (.dom 16777216) .ro 0 [] 0,
  ob 0x6100 0x02 "SENSOR_INDEX" (.u 32) .rw 0 [(0, 262143)] 8,
  ob 0x6100 0x03 "SENSOR_ENTRY" (.oct 64) .rw 0 [] 8,
  ob 0x6100 0x04 "SENSOR_COMMAND" (.u 8) .wo 0 [] 0,
  ob 0x6100 0x05 "SENSOR_RESULT" (.u 8) .ro 0 [] 8,
  ob 0x6140 0x01 "REGISTERED" (.u 32) .ro 0 [] 0,
  ob 0x6140 0x02 "ADDED" (.u 32) .ro 0 [] 0,
  ob 0x6140 0x03 "REMOVED" (.u 32) .ro 0 [] 0,
  ob 0x6140 0x04 "ENTRY_LOST" (.u 32) .ro 0 [] 0]

/-- Objects of records 0x6200 to 0x6240. -/
def dict62 : List ObjDesc := [
  ob 0x6200 0x01 "RELAY_MODE" (.u 8) .rws 0 [(0, 1)] 0,
  ob 0x6200 0x02 "PARENTS" (.oct 64) .rws 0 [] 0,
  ob 0x6200 0x03 "PARENT_DRIFT_QPPM" (.u 8) .rws 4 [(1, 255)] 0,
  ob 0x6200 0x04 "RELAY_QUEUE_MAX_KIB" (.u 16) .rws 4096 [(64, 65535)] 0,
  ob 0x6200 0x05 "LISTEN_SLOTFRAMES" (.u 8) .const 8 [] 0,
  ob 0x6200 0x06 "PLY_KEY_SLOTS" (.oct 64) .rws 0 [] 0,
  ob 0x6201 0x01 "RELAY_STATE" (.u 8) .ro 0 [] 0,
  ob 0x6201 0x02 "CURRENT_PARENT" (.u 8) .ro 255 [] 0,
  ob 0x6201 0x03 "MISSED_NOW" (.u 8) .ro 0 [] 0,
  ob 0x6201 0x04 "LAST_EB_ASN" (.u 64) .ro 0 [] 2,
  ob 0x6240 0x01 "EB_RX" (.u 32) .ro 0 [] 0,
  ob 0x6240 0x02 "EB_MISSED" (.u 32) .ro 0 [] 0,
  ob 0x6240 0x03 "PARENT_LOST" (.u 32) .ro 0 [] 0,
  ob 0x6240 0x04 "RESYNC" (.u 32) .ro 0 [] 0,
  ob 0x6240 0x05 "ASN_STEPS" (.u 32) .ro 0 [] 0,
  ob 0x6240 0x06 "RELAY_DROPPED" (.u 32) .ro 0 [] 0]

/-- Objects of records 0x6800 to 0x6840. -/
def dict68 : List ObjDesc := [
  ob 0x6800 0x01 "ENGINE_STATE" (.oct 32) .ro 0 [] 0,
  ob 0x6800 0x02 "JOBS_WAITING" (.oct 16) .ro 0 [] 0,
  ob 0x6800 0x03 "SUSPENDED" (.u 8) .ro 0 [] 0,
  ob 0x6800 0x04 "BLOCK_OPS" (.u 64) .ro 0 [] 2,
  ob 0x6801 0x01 "EARLY_RELEASE" (.dom 8192) .rw 0 [] 0,
  ob 0x6801 0x02 "POISON_FREE" (.u 8) .ro 64 [] 0,
  ob 0x6802 0x01 "CIPHER_EVENTS" .seqstat .rw 0 [] 0,
  ob 0x6840 0x01 "JOBS_DONE" (.u 32) .ro 0 [] 0,
  ob 0x6840 0x02 "AUTH_FAIL" (.u 32) .ro 0 [] 0,
  ob 0x6840 0x03 "PREEMPTIONS" (.u 32) .ro 0 [] 0,
  ob 0x6840 0x04 "RESUMES" (.u 32) .ro 0 [] 0,
  ob 0x6840 0x05 "RESTARTS" (.u 32) .ro 0 [] 0,
  ob 0x6840 0x06 "JOB_REFUSED" (.u 32) .ro 0 [] 0,
  ob 0x6840 0x07 "KEY_UNAVAILABLE" (.u 32) .ro 0 [] 0,
  ob 0x6840 0x08 "KEY_KIND" (.u 32) .ro 0 [] 0,
  ob 0x6840 0x09 "LENGTH_FAULT" (.u 32) .ro 0 [] 0,
  ob 0x6840 0x0A "BITTERN_JOBS" (.u 32) .ro 0 [] 0,
  ob 0x6840 0x0B "ZEROIZED" (.u 32) .ro 0 [] 0,
  ob 0x6840 0x0C "EARLY_SKIPPED" (.u 32) .ro 0 [] 0,
  ob 0x6840 0x0D "CANCELLED" (.u 32) .ro 0 [] 0,
  ob 0x6840 0x0E "C0_INPUT_WAIT" (.u 32) .ro 0 [] 0]

/-- Objects of records 0x6900 to 0x6940. -/
def dict69 : List ObjDesc := [
  ob 0x6900 0x01 "IMPORT_PUBKEY" (.oct 64) .const 0 [] 0,
  ob 0x6900 0x02 "KEY_IMPORT" (.dom 196672) .wo 0 [] 1,
  ob 0x6900 0x03 "IMPORT_STATUS" .seqstat .rw 0 [] 0,
  ob 0x6900 0x04 "IMPORT_RESULTS" (.dom 4096) .ro 0 [] 0,
  ob 0x6900 0x05 "KEY_DELETE" (.u 32) .wo 0 [(0, 1048575)] 1,
  ob 0x6900 0x06 "SLOT_QUERY" (.u 32) .wo 0 [(0, 1048575)] 8,
  ob 0x6900 0x07 "SLOT_INFO" (.oct 16) .ro 0 [] 8,
  ob 0x6900 0x08 "ROOT_GENERATION" (.u 8) .ro 0 [] 0,
  ob 0x6900 0x09 "REWRAP_STATUS" .seqstat .rw 0 [] 0,
  ob 0x6900 0x0A "REWRAP_DONE" (.u 32) .ro 0 [] 0,
  ob 0x6900 0x0B "STORE_BASE" (.u 64) .ro 0 [] 2,
  ob 0x6901 0x01 "CACHE_USED" (.u 16) .ro 0 [] 0,
  ob 0x6901 0x02 "CACHE_PINNED" (.u 16) .ro 0 [] 0,
  ob 0x6901 0x03 "CACHE_CAPACITY" (.u 16) .ro 16384 [] 0,
  ob 0x6901 0x04 "CACHE_BANKS" (.u 32) .ro 131071 [] 0,
  ob 0x6940 0x01 "FETCHES" (.u 32) .ro 0 [] 0,
  ob 0x6940 0x02 "FETCH_SHED" (.u 32) .ro 0 [] 0,
  ob 0x6940 0x03 "UNWRAP_FAIL" (.u 32) .ro 0 [] 0,
  ob 0x6940 0x04 "EVICTIONS" (.u 32) .ro 0 [] 0,
  ob 0x6940 0x05 "IMPORTED" (.u 32) .ro 0 [] 0,
  ob 0x6940 0x06 "IMPORT_REFUSED" (.u 32) .ro 0 [] 0,
  ob 0x6940 0x07 "DELETED" (.u 32) .ro 0 [] 0,
  ob 0x6940 0x08 "CACHE_ECC" (.u 32) .ro 0 [] 0,
  ob 0x6940 0x09 "LANYARD_ERRORS" (.u 32) .ro 0 [] 0]

/-- Objects of records 0x7000 to 0x7040. -/
def dict70a : List ObjDesc := [
  ob 0x7000 0x01 "STAG_TPID" (.u 16) .rws 34984 [] 0,
  ob 0x7000 0x02 "STAG_ALT_TPID" (.u 16) .rws 37120 [] 0,
  ob 0x7000 0x03 "VXLAN_PORT" (.u 16) .rws 4789 [] 0,
  ob 0x7000 0x04 "OPAQUE_NODES" (.oct 64) .rws 0 [] 0,
  ob 0x7000 0x05 "DEPTH_POLICY" (.u 8) .rws 0 [(0, 1)] 0,
  ob 0x7000 0x06 "LEN_MIRROR" .bool .rws 0 [] 0,
  ob 0x7001 0x01 "CLASS_MAP" (.oct 16) .rws 0x10000000112031801220528012e0738 [] 0,
  ob 0x7001 0x02 "PCP_TO_CLASS" (.oct 8) .rws 0x1010202030303 [] 0,
  ob 0x7003 0x01 "FILTERS" (.dom 4096) .rws 0 [] 0,
  ob 0x7004 0x01 "NEXT_HOPS" (.dom 8192) .rws 0xffff000000000000000000000000000000000000000000000000000000000000ffff000000000000000000000000000000000000000000000000000000000000ffff000000000000000000000000000000000000000000000000000000000000ffff000000000000000000000000000000000000000000000000000000000000ffff000000000000000000000000000000000000000000000000000000000000ffff000000000000000000000000000000000000000000000000000000000000ffff000000000000000000000000000000000000000000000000000000000000ffff000000000000000000000000000000000000000000000000000000000000ffff000000000000000000000000000000000000000000000000000000000000ffff000000000000000000000000000000000000000000000000000000000000ffff000000000000000000000000000000000000000000000000000000000000ffff000000000000000000000000000000000000000000000000000000000000ffff000000000000000000000000000000000000000000000000000000000000ffff000000000000000000000000000000000000000000000000000000000000ffff000000000000000000000000000000000000000000000000000000000000ffff000000000000000000000000000000000000000000000000000000000000ffff000000000000000000000000000000000000000000000000000000000000ffff000000000000000000000000000000000000000000000000000000000000ffff000000000000000000000000000000000000000000000000000000000000ffff000000000000000000000000000000000000000000000000000000000000ffff000000000000000000000000000000000000000000000000000000000000ffff000000000000000000000000000000000000000000000000000000000000ffff000000000000000000000000000000000000000000000000000000000000ffff000000000000000000000000000000000000000000000000000000000000ffff000000000000000000000000000000000000000000000000000000000000ffff000000000000000000000000000000000000000000000000000000000000ffff000000000000000000000000000000000000000000000000000000000000ffff000000000000000000000000000000000000000000000000000000000000ffff000000000000000000000000000000000000000000000000000000000000ffff000000000000000000000000000000000000000000000000000000000000ffff000000000000000000000000000000000000000000000000000000000000ffff000000000000000000000000000000000000000000000000000000000000ffff000000000000000000000000000000000000000000000000000000000000ffff000000000000000000000000000000000000000000000000000000000000ffff000000000000000000000000000000000000000000000000000000000000ffff000000000000000000000000000000000000000000000000000000000000ffff000000000000000000000000000000000000000000000000000000000000ffff000000000000000000000000000000000000000000000000000000000000ffff000000000000000000000000000000000000000000000000000000000000ffff000000000000000000000000000000000000000000000000000000000000ffff000000000000000000000000000000000000000000000000000000000000ffff000000000000000000000000000000000000000000000000000000000000ffff000000000000000000000000000000000000000000000000000000000000ffff000000000000000000000000000000000000000000000000000000000000ffff000000000000000000000000000000000000000000000000000000000000ffff000000000000000000000000000000000000000000000000000000000000ffff000000000000000000000000000000000000000000000000000000000000ffff000000000000000000000000000000000000000000000000000000000000ffff000000000000000000000000000000000000000000000000000000000000ffff000000000000000000000000000000000000000000000000000000000000ffff000000000000000000000000000000000000000000000000000000000000ffff000000000000000000000000000000000000000000000000000000000000ffff000000000000000000000000000000000000000000000000000000000000ffff000000000000000000000000000000000000000000000000000000000000ffff000000000000000000000000000000000000000000000000000000000000ffff000000000000000000000000000000000000000000000000000000000000ffff000000000000000000000000000000000000000000000000000000000000ffff000000000000000000000000000000000000000000000000000000000000ffff000000000000000000000000000000000000000000000000000000000000ffff000000000000000000000000000000000000000000000000000000000000ffff000000000000000000000000000000000000000000000000000000000000ffff000000000000000000000000000000000000000000000000000000000000ffff000000000000000000000000000000000000000000000000000000000000ffff000000000000000000000000000000000000000000000000000000000000ffff000000000000000000000000000000000000000000000000000000000000ffff000000000000000000000000000000000000000000000000000000000000ffff000000000000000000000000000000000000000000000000000000000000ffff000000000000000000000000000000000000000000000000000000000000ffff000000000000000000000000000000000000000000000000000000000000ffff000000000000000000000000000000000000000000000000000000000000ffff000000000000000000000000000000000000000000000000000000000000ffff000000000000000000000000000000000000000000000000000000000000ffff000000000000000000000000000000000000000000000000000000000000ffff000000000000000000000000000000000000000000000000000000000000ffff000000000000000000000000000000000000000000000000000000000000ffff000000000000000000000000000000000000000000000000000000000000ffff000000000000000000000000000000000000000000000000000000000000ffff000000000000000000000000000000000000000000000000000000000000ffff000000000000000000000000000000000000000000000000000000000000ffff000000000000000000000000000000000000000000000000000000000000ffff000000000000000000000000000000000000000000000000000000000000ffff000000000000000000000000000000000000000000000000000000000000ffff000000000000000000000000000000000000000000000000000000000000ffff000000000000000000000000000000000000000000000000000000000000ffff000000000000000000000000000000000000000000000000000000000000ffff000000000000000000000000000000000000000000000000000000000000ffff000000000000000000000000000000000000000000000000000000000000ffff000000000000000000000000000000000000000000000000000000000000ffff000000000000000000000000000000000000000000000000000000000000ffff000000000000000000000000000000000000000000000000000000000000ffff000000000000000000000000000000000000000000000000000000000000ffff000000000000000000000000000000000000000000000000000000000000ffff000000000000000000000000000000000000000000000000000000000000ffff000000000000000000000000000000000000000000000000000000000000ffff000000000000000000000000000000000000000000000000000000000000ffff000000000000000000000000000000000000000000000000000000000000ffff000000000000000000000000000000000000000000000000000000000000ffff000000000000000000000000000000000000000000000000000000000000ffff000000000000000000000000000000000000000000000000000000000000ffff000000000000000000000000000000000000000000000000000000000000ffff000000000000000000000000000000000000000000000000000000000000ffff000000000000000000000000000000000000000000000000000000000000ffff000000000000000000000000000000000000000000000000000000000000ffff000000000000000000000000000000000000000000000000000000000000ffff000000000000000000000000000000000000000000000000000000000000ffff000000000000000000000000000000000000000000000000000000000000ffff000000000000000000000000000000000000000000000000000000000000ffff000000000000000000000000000000000000000000000000000000000000ffff000000000000000000000000000000000000000000000000000000000000ffff000000000000000000000000000000000000000000000000000000000000ffff000000000000000000000000000000000000000000000000000000000000ffff000000000000000000000000000000000000000000000000000000000000ffff000000000000000000000000000000000000000000000000000000000000ffff000000000000000000000000000000000000000000000000000000000000ffff000000000000000000000000000000000000000000000000000000000000ffff000000000000000000000000000000000000000000000000000000000000ffff000000000000000000000000000000000000000000000000000000000000ffff000000000000000000000000000000000000000000000000000000000000ffff000000000000000000000000000000000000000000000000000000000000ffff000000000000000000000000000000000000000000000000000000000000ffff000000000000000000000000000000000000000000000000000000000000ffff000000000000000000000000000000000000000000000000000000000000ffff000000000000000000000000000000000000000000000000000000000000ffff000000000000000000000000000000000000000000000000000000000000ffff000000000000000000000000000000000000000000000000000000000000ffff000000000000000000000000000000000000000000000000000000000000ffff000000000000000000000000000000000000000000000000000000000000ffff000000000000000000000000000000000000000000000000000000000000ffff000000000000000000000000000000000000000000000000000000000000ffff000000000000000000000000000000000000000000000000000000000000ffff000000000000000000000000000000000000000000000000000000000000ffff000000000000000000000000000000000000000000000000000000000000ffff000000000000000000000000000000000000000000000000000000000000ffff000000000000000000000000000000000000000000000000000000000000ffff000000000000000000000000000000000000000000000000000000000000ffff000000000000000000000000000000000000000000000000000000000000ffff000000000000000000000000000000000000000000000000000000000000ffff000000000000000000000000000000000000000000000000000000000000ffff000000000000000000000000000000000000000000000000000000000000ffff000000000000000000000000000000000000000000000000000000000000ffff000000000000000000000000000000000000000000000000000000000000ffff000000000000000000000000000000000000000000000000000000000000ffff000000000000000000000000000000000000000000000000000000000000ffff000000000000000000000000000000000000000000000000000000000000ffff000000000000000000000000000000000000000000000000000000000000ffff000000000000000000000000000000000000000000000000000000000000ffff000000000000000000000000000000000000000000000000000000000000ffff000000000000000000000000000000000000000000000000000000000000ffff000000000000000000000000000000000000000000000000000000000000ffff000000000000000000000000000000000000000000000000000000000000ffff000000000000000000000000000000000000000000000000000000000000ffff000000000000000000000000000000000000000000000000000000000000ffff000000000000000000000000000000000000000000000000000000000000ffff000000000000000000000000000000000000000000000000000000000000ffff000000000000000000000000000000000000000000000000000000000000ffff000000000000000000000000000000000000000000000000000000000000ffff000000000000000000000000000000000000000000000000000000000000ffff000000000000000000000000000000000000000000000000000000000000ffff000000000000000000000000000000000000000000000000000000000000ffff000000000000000000000000000000000000000000000000000000000000ffff000000000000000000000000000000000000000000000000000000000000ffff000000000000000000000000000000000000000000000000000000000000ffff000000000000000000000000000000000000000000000000000000000000ffff000000000000000000000000000000000000000000000000000000000000ffff000000000000000000000000000000000000000000000000000000000000ffff000000000000000000000000000000000000000000000000000000000000ffff000000000000000000000000000000000000000000000000000000000000ffff000000000000000000000000000000000000000000000000000000000000ffff000000000000000000000000000000000000000000000000000000000000ffff000000000000000000000000000000000000000000000000000000000000ffff000000000000000000000000000000000000000000000000000000000000ffff000000000000000000000000000000000000000000000000000000000000ffff000000000000000000000000000000000000000000000000000000000000ffff000000000000000000000000000000000000000000000000000000000000ffff000000000000000000000000000000000000000000000000000000000000ffff000000000000000000000000000000000000000000000000000000000000ffff000000000000000000000000000000000000000000000000000000000000ffff000000000000000000000000000000000000000000000000000000000000ffff000000000000000000000000000000000000000000000000000000000000ffff000000000000000000000000000000000000000000000000000000000000ffff000000000000000000000000000000000000000000000000000000000000ffff000000000000000000000000000000000000000000000000000000000000ffff000000000000000000000000000000000000000000000000000000000000ffff000000000000000000000000000000000000000000000000000000000000ffff000000000000000000000000000000000000000000000000000000000000ffff000000000000000000000000000000000000000000000000000000000000ffff000000000000000000000000000000000000000000000000000000000000ffff000000000000000000000000000000000000000000000000000000000000ffff000000000000000000000000000000000000000000000000000000000000ffff000000000000000000000000000000000000000000000000000000000000ffff000000000000000000000000000000000000000000000000000000000000ffff000000000000000000000000000000000000000000000000000000000000ffff000000000000000000000000000000000000000000000000000000000000ffff000000000000000000000000000000000000000000000000000000000000ffff000000000000000000000000000000000000000000000000000000000000ffff000000000000000000000000000000000000000000000000000000000000ffff000000000000000000000000000000000000000000000000000000000000ffff000000000000000000000000000000000000000000000000000000000000ffff000000000000000000000000000000000000000000000000000000000000ffff000000000000000000000000000000000000000000000000000000000000ffff000000000000000000000000000000000000000000000000000000000000ffff000000000000000000000000000000000000000000000000000000000000ffff000000000000000000000000000000000000000000000000000000000000ffff000000000000000000000000000000000000000000000000000000000000ffff000000000000000000000000000000000000000000000000000000000000ffff000000000000000000000000000000000000000000000000000000000000ffff000000000000000000000000000000000000000000000000000000000000ffff000000000000000000000000000000000000000000000000000000000000ffff000000000000000000000000000000000000000000000000000000000000ffff000000000000000000000000000000000000000000000000000000000000ffff000000000000000000000000000000000000000000000000000000000000ffff000000000000000000000000000000000000000000000000000000000000ffff000000000000000000000000000000000000000000000000000000000000ffff000000000000000000000000000000000000000000000000000000000000ffff000000000000000000000000000000000000000000000000000000000000ffff000000000000000000000000000000000000000000000000000000000000ffff000000000000000000000000000000000000000000000000000000000000ffff000000000000000000000000000000000000000000000000000000000000ffff000000000000000000000000000000000000000000000000000000000000ffff000000000000000000000000000000000000000000000000000000000000ffff000000000000000000000000000000000000000000000000000000000000ffff000000000000000000000000000000000000000000000000000000000000ffff000000000000000000000000000000000000000000000000000000000000ffff000000000000000000000000000000000000000000000000000000000000ffff000000000000000000000000000000000000000000000000000000000000ffff000000000000000000000000000000000000000000000000000000000000ffff000000000000000000000000000000000000000000000000000000000000ffff000000000000000000000000000000000000000000000000000000000000ffff000000000000000000000000000000000000000000000000000000000000ffff000000000000000000000000000000000000000000000000000000000000ffff000000000000000000000000000000000000000000000000000000000000ffff000000000000000000000000000000000000000000000000000000000000ffff000000000000000000000000000000000000000000000000000000000000ffff000000000000000000000000000000000000000000000000000000000000ffff000000000000000000000000000000000000000000000000000000000000ffff000000000000000000000000000000000000000000000000000000000000ffff000000000000000000000000000000000000000000000000000000000000ffff000000000000000000000000000000000000000000000000000000000000ffff000000000000000000000000000000000000000000000000000000000000ffff000000000000000000000000000000000000000000000000000000000000ffff000000000000000000000000000000000000000000000000000000000000ffff000000000000000000000000000000000000000000000000000000000000ffff000000000000000000000000000000000000000000000000000000000000ffff000000000000000000000000000000000000000000000000000000000000ffff000000000000000000000000000000000000000000000000000000000000ffff000000000000000000000000000000000000000000000000000000000000ffff000000000000000000000000000000000000000000000000000000000000ffff000000000000000000000000000000000000000000000000000000000000ffff000000000000000000000000000000000000000000000000000000000000ffff000000000000000000000000000000000000000000000000000000000000ffff000000000000000000000000000000000000000000000000000000000000ffff000000000000000000000000000000000000000000000000000000000000ffff000000000000000000000000000000000000000000000000000000000000ffff000000000000000000000000000000000000000000000000000000000000ffff000000000000000000000000000000000000000000000000000000000000ffff000000000000000000000000 [] 0,
  ob 0x7004 0x02 "TUNNEL_TEMPLATES" (.dom 4096) .rws 0 [] 0,
  ob 0x7004 0x03 "HITCH_NEXT_HOP" (.oct 4) .rws 0xffffffff [] 0,
  ob 0x7004 0x04 "DEFAULT_UPLINK_NEXT_HOP" (.u 8) .rws 0 [] 0,
  ob 0x7010 0x01 "RULE_INDEX" (.u 16) .rw 0 [(0, 8191)] 8,
  ob 0x7010 0x02 "RULE_DATA" (.oct 96) .rw 0 [] 8,
  ob 0x7010 0x03 "RULE_COMMAND" (.u 8) .wo 0 [] 0,
  ob 0x7010 0x04 "RULE_RESULT" (.u 8) .ro 0 [] 8,
  ob 0x7010 0x05 "RULE_VALID_NOW" .bool .ro 0 [] 8,
  ob 0x7010 0x06 "RULES_VALID" (.u 16) .ro 0 [] 0,
  ob 0x7010 0x07 "RULE_TABLE" (.dom 794624) .ro 0 [] 0,
  ob 0x7011 0x01 "RULE_HITS" (.dom 131072) .ro 0 [] 0,
  ob 0x7011 0x02 "FILTER_HITS" (.dom 2048) .ro 0 [] 0,
  ob 0x7020 0x01 "EXCEPTION_FLOW" (.u 16) .rw 0 [] 0,
  ob 0x7020 0x02 "EXCEPTION_MAX_KIB" (.u 16) .rw 1024 [] 0,
  ob 0x7030 0x01 "HOST_RING_BASE" (.u 64) .rw 0 [] 0,
  ob 0x7030 0x02 "HOST_RING_SIZE" (.u 32) .rw 0 [(0, 0), (16, 16), (32, 32), (64, 64), (128, 128), (256, 256), (512, 512), (1024, 1024), (2048, 2048), (4096, 4096), (8192, 8192), (16384, 16384), (32768, 32768), (65536, 65536)] 0,
  ob 0x7030 0x03 "HOST_TAIL" (.u 32) .rw 0 [] 0,
  ob 0x7030 0x04 "HOST_HEAD" (.u 32) .ro 0 [] 0,
  ob 0x7040 0x01 "FILTER_DROPPED" (.u 32) .ro 0 [] 0,
  ob 0x7040 0x02 "DEPTH_EXCEEDED" (.u 32) .ro 0 [] 0,
  ob 0x7040 0x03 "LEN_ZERO" (.u 32) .ro 0 [] 0,
  ob 0x7040 0x04 "LEN_CONFLICT" (.u 32) .ro 0 [] 0,
  ob 0x7040 0x05 "MIRROR_DROPPED" (.u 32) .ro 0 [] 0,
  ob 0x7040 0x06 "RULE_DROPPED" (.u 32) .ro 0 [] 0,
  ob 0x7040 0x07 "RADIO_NOT_IPV6" (.u 32) .ro 0 [] 0,
  ob 0x7040 0x08 "NO_ROUTE" (.u 32) .ro 0 [] 0,
  ob 0x7040 0x09 "C0_NO_HITCH" (.u 32) .ro 0 [] 0,
  ob 0x7040 0x0A "C0_HINT" (.u 32) .ro 0 [] 0,
  ob 0x7040 0x0B "C0_TOO_LONG" (.u 32) .ro 0 [] 0,
  ob 0x7040 0x0C "RADIO_OVERSIZE" (.u 32) .ro 0 [] 0]

/-- Objects of records 0x7040 to 0x7040. -/
def dict70b : List ObjDesc := [
  ob 0x7040 0x0D "C0_NO_NEXT_HOP" (.u 32) .ro 0 [] 0,
  ob 0x7040 0x0E "C0_QUEUE_REFUSED" (.u 32) .ro 0 [] 0,
  ob 0x7040 0x0F "ENCAP_FAULT" (.u 32) .ro 0 [] 0,
  ob 0x7040 0x10 "HOP_LIMIT" (.u 32) .ro 0 [] 0,
  ob 0x7040 0x11 "NO_LINK" (.u 32) .ro 0 [] 0,
  ob 0x7040 0x12 "NO_NEXT_HOP" (.u 32) .ro 0 [] 0,
  ob 0x7040 0x13 "QUEUE_DISABLED" (.u 32) .ro 0 [] 0,
  ob 0x7040 0x14 "EXCEPTION_DELIVERED" (.u 32) .ro 0 [] 0,
  ob 0x7040 0x15 "EXCEPTION_DROPPED" (.u 32) .ro 0 [] 0,
  ob 0x7040 0x16 "HOST_REFUSED" (.u 32) .ro 0 [] 0,
  ob 0x7040 0x17 "RADIO_HANDED" (.u 32) .ro 0 [] 0]

/-- Objects of the records 0x7000 to 0x70FF. -/
def dict70 : List ObjDesc := dict70a ++ dict70b

/-- Objects of records 0x7100 to 0x7140. -/
def dict71 : List ObjDesc := [
  ob 0x7100 0x01 "MODE" (.u 8) .rws 0 [(0, 5)] 0,
  ob 0x7100 0x02 "FEC" (.u 8) .rws 0 [(0, 3)] 0,
  ob 0x7100 0x03 "MAX_FRAME" (.u 16) .rws 1518 [(1518, 9216)] 0,
  ob 0x7100 0x04 "PORT_MAC" (.oct 6) .rws 0 [] 0,
  ob 0x7100 0x05 "PFC_ENABLE" (.u 8) .rws 255 [] 0,
  ob 0x7100 0x06 "PAUSE_ACCEPT" .bool .rws 0 [] 0,
  ob 0x7100 0x07 "AN_ENABLE" .bool .rws 1 [] 0,
  ob 0x7100 0x08 "OAM_ENABLE" .bool .rws 0 [] 0,
  ob 0x7110 0x01 "LINK" (.u 8) .ro 3 [] 0,
  ob 0x7110 0x02 "RATE_MBPS" (.u 32) .ro 0 [] 0,
  ob 0x7110 0x03 "PAUSED" (.u 8) .ro 0 [] 0,
  ob 0x7110 0x04 "PORT_EVENTS" .seqstat .rw 0 [] 0,
  ob 0x7110 0x05 "GATES" (.u 64) .ro 0xffffffffffffffff [] 2,
  ob 0x7110 0x06 "WINDOW" (.u 8) .ro 0 [] 0,
  ob 0x7140 0x01 "RX_FRAMES" (.u 64) .ro 0 [] 2,
  ob 0x7140 0x02 "RX_OCTETS" (.u 64) .ro 0 [] 2,
  ob 0x7140 0x03 "RX_RUNT" (.u 32) .ro 0 [] 0,
  ob 0x7140 0x04 "RX_FCS_ERR" (.u 32) .ro 0 [] 0,
  ob 0x7140 0x05 "RX_JABBER" (.u 32) .ro 0 [] 0,
  ob 0x7140 0x06 "RX_OVERSIZE" (.u 32) .ro 0 [] 0,
  ob 0x7140 0x07 "TX_FRAMES" (.u 64) .ro 0 [] 2,
  ob 0x7140 0x08 "TX_OCTETS" (.u 64) .ro 0 [] 2,
  ob 0x7140 0x09 "TX_TRUNCATED" (.u 32) .ro 0 [] 0,
  ob 0x7140 0x0A "PAUSE_IGNORED" (.u 32) .ro 0 [] 0,
  ob 0x7140 0x0B "MAC_CONTROL_DROPPED" (.u 32) .ro 0 [] 0,
  ob 0x7140 0x0C "OAM_UNSUPPORTED" (.u 32) .ro 0 [] 0,
  ob 0x7140 0x0D "TX_CUT" (.u 32) .ro 0 [] 0,
  ob 0x7140 0x0E "RX_DISCARDED_RESTART" (.u 32) .ro 0 [] 0,
  ob 0x7140 0x0F "PAUSED_TK" (.oct 64) .ro 0 [] 0,
  ob 0x7140 0x10 "PFC_RX" (.u 32) .ro 0 [] 0,
  ob 0x7140 0x11 "FEC_CORRECTED" (.u 32) .ro 0 [] 0,
  ob 0x7140 0x12 "FEC_UNCORRECTED" (.u 32) .ro 0 [] 0,
  ob 0x7140 0x13 "LINK_DOWNS" (.u 32) .ro 0 [] 0,
  ob 0x7140 0x14 "AN_FAIL" (.u 32) .ro 0 [] 0]

/-- Objects of records 0x7200 to 0x7240. -/
def dict72 : List ObjDesc := [
  ob 0x7200 0x01 "QUEUES" (.dom 1024) .rws 0x4000000000000000000000030000000040000000000000000000000300000000400000000000000000000003000000004000000000000000000000030000000040000000000000000000000300000000400000000000000000000003000000004000000000000000000000030000000040000000000000000000000001000000400000000000000000000003000000004000000000000000000000030000000040000000000000000000000300000000400000000000000000000003000000004000000000000000000000030000000040000000000000000000000300000000400000000000000000000003000000004000000000000000000000030000000040000000000000000000000300000000400000000000000000000003000000004000000000000000000000030000000040000000000000000000000300000000400000000000000000000003000000004000000000000000000000030000000040000000000000000000000300000000400000000000000000000001040000004000000000000000000000030000000040000000000000000000000300000000400000000000000000000003000000004000000000000000000000030000000040000000000000000000000300000000400000000000000000000003000000004000000000000000000000030000000040000000000000000000000300000000400000000000000000000003000000004000000000000000000000030000000040000000000000000000000300000000400000000000000000000003000000004000000000000000000000030000000040000000000000000000000300000000400000000000000000000003000000004000000000000000000000020400000040000000000000000000000300000000400000000000000000000003000000004000000000000000000000030000000040000000000000000000000300000000400000000000000000000003000000004000000000000000000000030000000040000000000000000000000300000000400000000000000000000003000000004000000000000000000000030000000040000000000000000000000300000000400000000000000000000003000000004000000000000000000000030000000040000000000000000000000300000000400000000000000000000003000000004000000000000000000000030000000040000000000000000000000300000000400000000000000000000003000000004000000000000000000000030000000040000000000000000000000300000000400000000000000000000003000000004000000000000000000000030000000040000000000000000000000300000000400000000000000000000003000000004000000000000000000000030800 [] 0,
  ob 0x7210 0x01 "QUEUE_DEPTH" (.dom 512) .ro 0 [] 0,
  ob 0x7210 0x02 "SHAPER_TOKENS" (.dom 256) .ro 0 [] 0,
  ob 0x7240 0x01 "QUEUE_COUNTS" (.dom 2048) .ro 0 [] 0]

/-- Objects of records 0x7800 to 0x7810. -/
def dict78a : List ObjDesc := [
  ob 0x7800 0x01 "TIME_STATE" (.u 8) .ro 0 [] 0,
  ob 0x7800 0x02 "SOURCE_NOW" (.u 8) .ro 0 [] 0,
  ob 0x7800 0x03 "TIME_NOW" .time80 .ro 0 [] 0,
  ob 0x7800 0x04 "OFFSET_NS" (.i 32) .ro 0 [] 0,
  ob 0x7800 0x05 "TRIM_CPPB" (.i 32) .ro 0 [] 0,
  ob 0x7800 0x06 "HOLDOVER_QPPM" (.u 8) .ro 1 [] 0,
  ob 0x7800 0x07 "HOLDOVER_ERR_NS" (.u 32) .ro 0 [] 0,
  ob 0x7800 0x08 "TIME_EVENTS" .seqstat .rw 0 [] 0,
  ob 0x7800 0x09 "LAY_NS32" (.u 32) .ro 0 [] 0,
  ob 0x7800 0x0A "SLOT_REF" (.oct 24) .ro 0 [] 0,
  ob 0x7800 0x0B "ASN_NOW" (.u 64) .ro 0 [] 2,
  ob 0x7801 0x01 "SOURCE_ORDER" (.oct 3) .rws 197121 [] 0,
  ob 0x7801 0x02 "SWITCH_HOLD_S" (.u 16) .rws 10 [(0, 3600)] 0,
  ob 0x7801 0x03 "LOCK_NS" (.u 32) .rws 1000 [(10, 1000000)] 0,
  ob 0x7801 0x04 "LOCK_SAMPLES" (.u 8) .rws 16 [(1, 255)] 0,
  ob 0x7801 0x05 "UNLOCK_NS" (.u 32) .rws 10000 [] 0,
  ob 0x7801 0x06 "STEP_NS" (.u 32) .rws 10000 [] 0,
  ob 0x7801 0x07 "SLEW_PPB" (.u 16) .rws 500 [(10, 5000)] 0,
  ob 0x7801 0x08 "LOOP_TC_S" (.u 16) .rws 16 [(1, 1000)] 0,
  ob 0x7801 0x09 "OSC_STABILITY_PPB" (.u 16) .rws 100 [(1, 10000)] 0,
  ob 0x7801 0x0A "HOLDOVER_MAX_NS" (.u 32) .rws 500000 [(1000, 100000000)] 0,
  ob 0x7801 0x0B "—" (.u 8) .rws 0 [] 0,
  ob 0x7801 0x0C "ANCHOR_ASN" (.u 64) .rws 0 [] 2,
  ob 0x7801 0x0D "ANCHOR_TIME" .time80 .rws 0 [] 0,
  ob 0x7801 0x0E "PARENT_DELAY_NS" (.u 32) .rws 0 [] 0,
  ob 0x7802 0x01 "CLOCK_ROLE" (.u 8) .rws 0 [(0, 2)] 0,
  ob 0x7802 0x02 "DOMAIN" (.u 8) .rws 0 [(0, 127)] 0,
  ob 0x7802 0x03 "PRIORITY1" (.u 8) .rws 128 [] 0,
  ob 0x7802 0x04 "PRIORITY2" (.u 8) .rws 128 [] 0,
  ob 0x7802 0x05 "SLAVE_ONLY" .bool .rws 0 [] 0,
  ob 0x7802 0x06 "UTC_OFFSET_S" (.i 16) .rws 37 [] 0,
  ob 0x7803 0x01 "GM_IDENTITY" (.oct 8) .ro 0 [] 0,
  ob 0x7803 0x02 "STEPS_REMOVED" (.u 16) .ro 0 [] 0,
  ob 0x7803 0x03 "CLOCK_CLASS" (.u 8) .ro 248 [] 0,
  ob 0x7803 0x04 "MEAN_PATH_NS" (.i 32) .ro 0 [] 0,
  ob 0x7803 0x05 "SLAVE_PORT" (.u 8) .ro 255 [] 0,
  ob 0x7810 0x01 "ENABLE" .bool .rws 0 [] 0,
  ob 0x7810 0x02 "TRANSPORT" (.u 8) .rws 0 [(0, 2)] 0,
  ob 0x7810 0x03 "DELAY_MECH" (.u 8) .rws 0 [(0, 1)] 0,
  ob 0x7810 0x04 "ONE_STEP" .bool .rws 0 [] 0]

/-- Objects of records 0x7810 to 0x7848. -/
def dict78b : List ObjDesc := [
  ob 0x7810 0x05 "LOG_SYNC" (.i 8) .rws 0 [(-7, 4)] 0,
  ob 0x7810 0x06 "LOG_ANNOUNCE" (.i 8) .rws 1 [(-3, 4)] 0,
  ob 0x7810 0x07 "ANNOUNCE_TIMEOUT" (.u 8) .rws 3 [(2, 10)] 0,
  ob 0x7810 0x08 "CABLE_ASYM_NS" (.i 32) .rws 0 [] 0,
  ob 0x7810 0x09 "PTP_QUEUE" (.u 8) .rws 40 [(0, 63)] 0,
  ob 0x7810 0x0A "PTP_IPV4" (.u 32) .rws 0 [] 0,
  ob 0x7810 0x0B "PTP_IPV6" (.oct 16) .rws 0 [] 0,
  ob 0x7810 0x0C "PTP_VID" (.u 16) .rws 65535 [] 0,
  ob 0x7820 0x01 "PORT_STATE" (.u 8) .ro 1 [] 0,
  ob 0x7820 0x02 "TX_PATH_NS" (.u 16) .ro 0 [] 0,
  ob 0x7820 0x03 "RX_PATH_NS" (.u 16) .ro 0 [] 0,
  ob 0x7820 0x04 "PEER_DELAY_NS" (.i 32) .ro 0 [] 0,
  ob 0x7830 0x01 "TS_HEAD" (.oct 16) .ro 0 [] 0,
  ob 0x7830 0x02 "TS_POP" (.u 32) .wo 0 [] 0,
  ob 0x7830 0x03 "TS_DEPTH" (.u 8) .ro 0 [] 0,
  ob 0x7830 0x04 "TS_OVERFLOW" (.u 32) .ro 0 [] 0,
  ob 0x7838 0x01 "PPS_ENABLE" .bool .rw 0 [] 0,
  ob 0x7838 0x02 "PPS_EDGE" (.u 8) .rw 0 [(0, 1)] 0,
  ob 0x7838 0x03 "PPS_CABLE_NS" (.i 32) .rw 0 [] 0,
  ob 0x7838 0x04 "PPS_NEXT_S" (.u 64) .wo 0 [] 2,
  ob 0x7838 0x05 "PPS_LAST" .time80 .ro 0 [] 0,
  ob 0x7840 0x01 "PTP_RX" (.u 32) .ro 0 [] 0,
  ob 0x7840 0x02 "PTP_TX" (.u 32) .ro 0 [] 0,
  ob 0x7840 0x03 "PTP_TX_DROPPED" (.u 32) .ro 0 [] 0,
  ob 0x7840 0x04 "PTP_UNSUPPORTED" (.u 32) .ro 0 [] 0,
  ob 0x7840 0x05 "SYNC_SAMPLES" (.u 32) .ro 0 [] 0,
  ob 0x7848 0x01 "SOURCE_SWITCHES" (.u 32) .ro 0 [] 0,
  ob 0x7848 0x02 "HOLDOVER_ENTRIES" (.u 32) .ro 0 [] 0,
  ob 0x7848 0x03 "HOLDOVER_EXPIRIES" (.u 32) .ro 0 [] 0,
  ob 0x7848 0x04 "STEPS" (.u 32) .ro 0 [] 0,
  ob 0x7848 0x05 "GRID_REALIGNS" (.u 32) .ro 0 [] 0,
  ob 0x7848 0x06 "ANCHOR_MOVES" (.u 32) .ro 0 [] 0,
  ob 0x7848 0x07 "OUTLIERS" (.u 32) .ro 0 [] 0,
  ob 0x7848 0x08 "PPS_REJECTED" (.u 32) .ro 0 [] 0,
  ob 0x7848 0x09 "PPS_MISSED" (.u 32) .ro 0 [] 0]

/-- Objects of the records 0x7800 to 0x78FF. -/
def dict78 : List ObjDesc := dict78a ++ dict78b

/-- Objects of records 0x8000 to 0x8040. -/
def dict80 : List ObjDesc := [
  ob 0x8000 0x01 "STEAL_NEAR_NS" (.u 32) .rw 2000 [] 0,
  ob 0x8000 0x02 "STEAL_FAR_NS" (.u 32) .rw 20000 [] 0,
  ob 0x8000 0x03 "SERVICE_LIMIT_US" (.u 32) .rw 0 [] 0,
  ob 0x8000 0x04 "POOL_FREE" (.u 32) .ro 131072 [] 0,
  ob 0x8001 0x01 "FLOW_INDEX" (.u 16) .rw 0 [] 8,
  ob 0x8001 0x02 "FLOW_ENTRY" (.oct 8) .rw 0x100ffff03 [] 8,
  ob 0x8001 0x03 "FLOW_COMMAND" (.u 8) .wo 0 [] 0,
  ob 0x8001 0x04 "FLOW_RESULT" (.u 8) .ro 0 [] 8,
  ob 0x8001 0x05 "FLOW_STATUS" (.oct 16) .ro 0 [] 8,
  ob 0x8002 0x01 "HART_LOAD" (.dom 256) .ro 0 [] 0,
  ob 0x8002 0x02 "CLASS_DEPTH" (.oct 16) .ro 0 [] 0,
  ob 0x8002 0x03 "READY_DEPTH" (.oct 64) .ro 0 [] 0,
  ob 0x8003 0x01 "SCHED_EVENTS" .seqstat .rw 0 [] 0,
  ob 0x8040 0x01 "ITEMS_QUEUED" (.u 32) .ro 0 [] 0,
  ob 0x8040 0x02 "ITEMS_DONE" (.u 32) .ro 0 [] 0,
  ob 0x8040 0x03 "STOLEN" (.u 32) .ro 0 [] 0,
  ob 0x8040 0x04 "REQUEUED" (.u 32) .ro 0 [] 0,
  ob 0x8040 0x05 "CANCELLED_QUEUED" (.u 32) .ro 0 [] 0,
  ob 0x8040 0x06 "CANCELLED_IN_SERVICE" (.u 32) .ro 0 [] 0,
  ob 0x8040 0x07 "FLOW_DISABLED" (.u 32) .ro 0 [] 0,
  ob 0x8040 0x08 "FLOW_FULL" (.u 32) .ro 0 [] 0,
  ob 0x8040 0x09 "POOL_FULL" (.u 32) .ro 0 [] 0,
  ob 0x8040 0x0A "DONE_INVALID" (.u 32) .ro 0 [] 0,
  ob 0x8040 0x0B "DISCARDED_AFTER_CANCEL" (.u 32) .ro 0 [] 0,
  ob 0x8040 0x0C "WINDOW_DEFERRED" (.u 32) .ro 0 [] 0,
  ob 0x8040 0x0D "WINDOW_OVERRUN" (.u 32) .ro 0 [] 0,
  ob 0x8040 0x0E "HOME_MOVES" (.u 32) .ro 0 [] 0,
  ob 0x8040 0x0F "HITCH_DROPPED" (.u 32) .ro 0 [] 0,
  ob 0x8040 0x10 "C0_WINDOWS" (.u 32) .ro 0 [] 0,
  ob 0x8040 0x11 "SERVICE_LIMIT" (.u 32) .ro 0 [] 0]

/-- Objects of records 0x8100 to 0x8140. RECOVERY_IMAGE takes 16,781,312 octets at most: 16 MiB, which Table 2.1 gives a DOM and Table 11.8 the
image, and 4,096 octets for the header, whose size no table gives (DESIGN CHOICE, notes/assumptions/33.md; R43). -/
def dict81 : List ObjDesc := [
  ob 0x8100 0x01 "HART_STATE" (.oct 16) .ro 0x1010101010101010101010101010102 [] 0,
  ob 0x8100 0x02 "HART_ENTRY" (.u 64) .rw 0 [] 2,
  ob 0x8100 0x03 "HART_START" (.u 16) .wo 0 [] 0,
  ob 0x8100 0x04 "WIN_VECTOR" (.u 64) .rw 0 [] 2,
  ob 0x8100 0x05 "BOOT_STATUS" (.u 32) .ro 3 [] 0,
  ob 0x8100 0x06 "WDT_PERIOD_MS" (.u 32) .rw 0 [(0, 0), (10, 600000)] 0,
  ob 0x8100 0x07 "WDT_KICK" (.u 32) .wo 0 [] 0,
  ob 0x8100 0x08 "WDT_REMAIN_MS" (.u 32) .ro 0 [] 0,
  ob 0x8100 0x09 "RECOVERY_IMAGE" (.dom 16781312) .wo 0 [] 1,
  ob 0x8140 0x01 "CACHE_CORRECTED" (.u 32) .ro 0 [] 0,
  ob 0x8140 0x02 "CACHE_UNCORRECTED" (.u 32) .ro 0 [] 0,
  ob 0x8140 0x03 "WINDOW_ABANDONED" (.u 32) .ro 0 [] 0,
  ob 0x8140 0x04 "WDT_PRETIMEOUTS" (.u 32) .ro 0 [] 0]

/-- Objects of records 0x9000 to 0x9003. -/
def dict90 : List ObjDesc := [
  ob 0x9000 0x01 "PAN_POWER" (.oct 16) .ro 0 [] 0,
  ob 0x9000 0x02 "PAN_RETAIN_REQ" (.u 16) .rw 0 [] 0,
  ob 0x9000 0x03 "SCRUB_PERIOD_S" (.u 32) .rw 3600 [(0, 0), (60, 86400)] 0,
  ob 0x9000 0x04 "POISON_SYNDROME" (.u 16) .const 65535 [] 0,
  ob 0x9000 0x05 "ECC_MATRIX" (.oct 288) .const 0 [] 0,
  ob 0x9001 0x01 "PAN_CE" (.dom 64) .ro 0 [] 0,
  ob 0x9001 0x02 "PAN_UE" (.dom 64) .ro 0 [] 0,
  ob 0x9003 0x01 "ERROR_LOG" (.dom 4096) .ro 0 [] 0,
  ob 0x9003 0x02 "ERROR_STATUS" .seqstat .rw 0 [] 0,
  ob 0x9003 0x03 "ERROR_COUNT" (.u 32) .ro 0 [] 0,
  ob 0x9003 0x04 "UE_CONSUMED" (.u 32) .ro 0 [] 0]

/-- Objects of records 0x9100 to 0x9140. -/
def dict91 : List ObjDesc := [
  ob 0x9100 0x01 "DEVICE_WIDTH" (.u 8) .rws 0 [] 0,
  ob 0x9100 0x02 "DENSITY" (.u 8) .rws 0 [] 0,
  ob 0x9100 0x03 "RANKS" (.u 8) .rws 1 [] 0,
  ob 0x9100 0x04 "TIMING_PS" (.oct 32) .rws 0x13881d4c3a981d4c09c4132409c42710b2b67d0035b635b6271035b6 [] 0,
  ob 0x9101 0x01 "CH_COMMAND" (.u 32) .wo 0 [] 0,
  ob 0x9101 0x02 "CH_RESULT" (.u 8) .ro 0 [] 8,
  ob 0x9101 0x03 "CH_STATE" (.u 8) .ro 0 [] 0,
  ob 0x9101 0x04 "RATE_NOW" (.u 8) .ro 0 [] 0,
  ob 0x9101 0x05 "SR_IDLE_NS" (.u 32) .rw 0 [(0, 0), (1000, 100000000)] 0,
  ob 0x9101 0x06 "ORDER_COMPAT" .bool .rw 0 [] 0,
  ob 0x9101 0x07 "READ_AGE_NS" (.u 32) .rw 2000 [(100, 100000)] 0,
  ob 0x9101 0x08 "ZQ_PERIOD_MS" (.u 16) .rw 128 [(16, 1024)] 0,
  ob 0x9101 0x09 "FITTED_BYTES" (.u 64) .ro 0 [] 2,
  ob 0x9101 0x0A "SCRUB_PERIOD_S" (.u 32) .rw 86400 [(0, 0), (3600, 604800)] 0,
  ob 0x9102 0x01 "TRAIN_TABLE" (.dom 1536) .rw 0 [] 0,
  ob 0x9102 0x02 "EYE_WIDTH" (.dom 576) .ro 0 [] 0,
  ob 0x9140 0x01 "READS" (.u 64) .ro 0 [] 2,
  ob 0x9140 0x02 "WRITES" (.u 64) .ro 0 [] 2,
  ob 0x9140 0x03 "CORRECTED" (.u 32) .ro 0 [] 0,
  ob 0x9140 0x04 "UNCORRECTABLE" (.u 32) .ro 0 [] 0,
  ob 0x9140 0x05 "RMW" (.u 32) .ro 0 [] 0,
  ob 0x9140 0x06 "WQ_DRAINS" (.u 32) .ro 0 [] 0,
  ob 0x9140 0x07 "WQ_FULL_STALLS" (.u 32) .ro 0 [] 0,
  ob 0x9140 0x08 "REFRESHES" (.u 32) .ro 0 [] 0,
  ob 0x9140 0x09 "MAINT_WINDOWS" (.u 32) .ro 0 [] 0,
  ob 0x9140 0x0A "COMPAT_HOLDS" (.u 32) .ro 0 [] 0,
  ob 0x9140 0x0B "ZQ_RUNS" (.u 32) .ro 0 [] 0,
  ob 0x9140 0x0C "REFRESH_SKIPPED" (.u 32) .ro 0 [] 0,
  ob 0x9140 0x0D "ZQ_OVERDUE" (.u 32) .ro 0 [] 0,
  ob 0x9140 0x0E "SR_ENTRIES" (.u 32) .ro 0 [] 0,
  ob 0x9140 0x0F "SR_LATE_REQUEST" (.u 32) .ro 0 [] 0,
  ob 0x9140 0x10 "FREQ_CHANGES" (.u 32) .ro 0 [] 0,
  ob 0x9140 0x11 "BUSY_TRAINING" (.u 32) .ro 0 [] 0,
  ob 0x9140 0x12 "TRAIN_ABORTED" (.u 32) .ro 0 [] 0,
  ob 0x9140 0x13 "KEY_READS_HELD" (.u 32) .ro 0 [] 0,
  ob 0x9140 0x14 "INIT_FAIL" (.u 32) .ro 0 [] 0]

/-- Objects of records 0x9300 to 0x9340. -/
def dict93 : List ObjDesc := [
  ob 0x9300 0x01 "TRAIN_COMMAND" (.u 32) .wo 0 [] 0,
  ob 0x9300 0x02 "TRAIN_STATUS" .seqstat .rw 0 [] 0,
  ob 0x9300 0x03 "TRAIN_REFUSE" (.u 8) .ro 0 [] 8,
  ob 0x9300 0x04 "TRAIN_RUNS" (.dom 1440) .ro 0 [] 0,
  ob 0x9300 0x05 "PATTERN_KIND" (.u 8) .rw 1 [(0, 3)] 0,
  ob 0x9300 0x06 "PATTERN" (.oct 64) .rw 0 [] 0,
  ob 0x9340 0x01 "TRAIN_STEPS" (.u 32) .ro 0 [] 0,
  ob 0x9340 0x02 "TRAIN_FAILS" (.u 32) .ro 0 [] 0,
  ob 0x9340 0x03 "TRAIN_RERUNS" (.u 32) .ro 0 [] 0]

/-- Objects of records 0xA000 to 0xA005. -/
def dictA0 : List ObjDesc := [
  ob 0xA000 0x01 "SNAP_COMMAND" (.u 8) .wo 0 [] 0,
  ob 0xA000 0x02 "SNAP_EVERY_SLOTS" (.u 16) .rw 0 [] 0,
  ob 0xA000 0x03 "EXPORT_PERIOD_MS" (.u 32) .rw 0 [(0, 0), (100, 3600000)] 0,
  ob 0xA003 0x01 "HOLD" (.oct 512) .ro 0 [] 0,
  ob 0xA003 0x02 "HOLD_INFO" (.oct 32) .ro 0 [] 0,
  ob 0xA004 0x01 "COUNTER_EVENTS" .seqstat .rw 0 [] 0,
  ob 0xA004 0x02 "OVF_MAP" (.oct 8) .ro 0 [] 0,
  ob 0xA005 0x01 "EXPORT_RING" (.dom 8704) .ro 0 [] 0,
  ob 0xA005 0x02 "EXPORT_SKIPPED" (.u 32) .ro 0 [] 0]

/-- Objects of records 0xA100 to 0xA140. -/
def dictA1 : List ObjDesc := [
  ob 0xA100 0x01 "TEST_LOG" (.dom 8192) .ro 0 [] 0,
  ob 0xA100 0x02 "TEST_EVENTS" .seqstat .rw 0 [] 0,
  ob 0xA100 0x03 "LAST_TESTED" (.dom 8960) .ro 0 [] 0,
  ob 0xA101 0x01 "TEST_REQUEST" (.u 32) .wo 0 [] 1,
  ob 0xA101 0x02 "REQUEST_RESULT" (.u 8) .ro 0 [] 8,
  ob 0xA101 0x03 "TEST_PROGRAMS" (.dom 256) .const 0 [] 0,
  ob 0xA140 0x01 "RUNS" (.u 32) .ro 0 [] 0,
  ob 0xA140 0x02 "PASSES" (.u 32) .ro 0 [] 0,
  ob 0xA140 0x03 "FAILS" (.u 32) .ro 0 [] 0,
  ob 0xA140 0x04 "INCOMPLETE" (.u 32) .ro 0 [] 0,
  ob 0xA140 0x05 "CANCELLED" (.u 32) .ro 0 [] 0,
  ob 0xA140 0x06 "SKIPPED" (.u 32) .ro 0 [] 0]

/-- The rows of the records that share the upper octet of the index. -/
def dictPage (hi : Nat) : List ObjDesc :=
  match hi with
  | 0x10 => dict10
  | 0x11 => dict11
  | 0x12 => dict12
  | 0x18 => dict18
  | 0x20 => dict20
  | 0x21 => dict21
  | 0x22 => dict22
  | 0x30 => dict30
  | 0x31 => dict31
  | 0x40 => dict40
  | 0x43 => dict43
  | 0x44 => dict44
  | 0x50 => dict50
  | 0x51 => dict51
  | 0x52 => dict52
  | 0x60 => dict60
  | 0x61 => dict61
  | 0x62 => dict62
  | 0x68 => dict68
  | 0x69 => dict69
  | 0x70 => dict70
  | 0x71 => dict71
  | 0x72 => dict72
  | 0x78 => dict78
  | 0x80 => dict80
  | 0x81 => dict81
  | 0x90 => dict90
  | 0x91 => dict91
  | 0x93 => dict93
  | 0xA0 => dictA0
  | 0xA1 => dictA1
  | _ => []

end Sys2Proof.Machine
end

