-- ==== Sys2Proof/Machine/Names.lean ====
section
/-!
DEFINITION. The dictionary's objects by name: the key index * 256 + sub-index of each (R40). Where a record repeats for a
transceiver, a port or a DRAM channel, the name takes its number (a repeat lies 0x100 indices on for transceivers and
channels, one index on for ports).
-/
namespace Sys2Proof.Machine.O

/-- `1000.01` VENDOR. -/
abbrev VENDOR : Nat := 0x100001
/-- `1000.02` PART. -/
abbrev PART : Nat := 0x100002
/-- `1000.03` GRADE. -/
abbrev GRADE : Nat := 0x100003
/-- `1000.04` DIE_REVISION. -/
abbrev DIE_REVISION : Nat := 0x100004
/-- `1000.05` COMPAT_LEVEL. -/
abbrev COMPAT_LEVEL : Nat := 0x100005
/-- `1000.06` CONTRACT_VERSION. -/
abbrev CONTRACT_VERSION : Nat := 0x100006
/-- `1000.07` SERIAL_NUMBER. -/
abbrev SERIAL_NUMBER : Nat := 0x100007
/-- `1000.08` MGMT_MAC. -/
abbrev MGMT_MAC : Nat := 0x100008
/-- `1000.09` DICT_EDITION. -/
abbrev DICT_EDITION : Nat := 0x100009
/-- `1000.0A` UPTIME_MS. -/
abbrev UPTIME_MS : Nat := 0x10000A
/-- `1000.0B` RESET_CAUSE. -/
abbrev RESET_CAUSE : Nat := 0x10000B
/-- `1100.01` NODE_ID. -/
abbrev NODE_ID : Nat := 0x110001
/-- `1100.02` NODE_ID_LEFT. -/
abbrev NODE_ID_LEFT : Nat := 0x110002
/-- `1101.01` NOM_BRP. -/
abbrev NOM_BRP : Nat := 0x110101
/-- `1101.02` NOM_TSEG1. -/
abbrev NOM_TSEG1 : Nat := 0x110102
/-- `1101.03` NOM_TSEG2. -/
abbrev NOM_TSEG2 : Nat := 0x110103
/-- `1101.04` NOM_SJW. -/
abbrev NOM_SJW : Nat := 0x110104
/-- `1101.05` DATA_BRP. -/
abbrev DATA_BRP : Nat := 0x110105
/-- `1101.06` DATA_TSEG1. -/
abbrev DATA_TSEG1 : Nat := 0x110106
/-- `1101.07` DATA_TSEG2. -/
abbrev DATA_TSEG2 : Nat := 0x110107
/-- `1101.08` DATA_SJW. -/
abbrev DATA_SJW : Nat := 0x110108
/-- `1101.09` TDC_OFFSET. -/
abbrev TDC_OFFSET : Nat := 0x110109
/-- `1101.0A` TDC_ENABLE. -/
abbrev TDC_ENABLE : Nat := 0x11010A
/-- `1102.01` UDP_PORT. -/
abbrev UDP_PORT : Nat := 0x110201
/-- `1102.02` IPV4_ADDR. -/
abbrev IPV4_ADDR : Nat := 0x110202
/-- `1102.03` IPV4_MASK. -/
abbrev IPV4_MASK : Nat := 0x110203
/-- `1102.04` IPV6_ADDR. -/
abbrev IPV6_ADDR : Nat := 0x110204
/-- `1102.05` IPV6_PREFIX. -/
abbrev IPV6_PREFIX : Nat := 0x110205
/-- `1103.01` HEARTBEAT_MS. -/
abbrev HEARTBEAT_MS : Nat := 0x110301
/-- `1103.02` SVC_IDLE_S. -/
abbrev SVC_IDLE_S : Nat := 0x110302
/-- `1103.03` SVC_HOLDER. -/
abbrev SVC_HOLDER : Nat := 0x110303
/-- `1103.04` SVC_DENIALS. -/
abbrev SVC_DENIALS : Nat := 0x110304
/-- `1103.05` SVC_LOCK_S. -/
abbrev SVC_LOCK_S : Nat := 0x110305
/-- `1103.06` SVC_CHALLENGE. -/
abbrev SVC_CHALLENGE : Nat := 0x110306
/-- `1103.07` SVC_PROOF. -/
abbrev SVC_PROOF : Nat := 0x110307
/-- `1103.08` SVC_CLOSE. -/
abbrev SVC_CLOSE : Nat := 0x110308
/-- `1104.01` CAN_RX. -/
abbrev CAN_RX : Nat := 0x110401
/-- `1104.02` CAN_TX. -/
abbrev CAN_TX : Nat := 0x110402
/-- `1104.03` CAN_IGNORED. -/
abbrev CAN_IGNORED : Nat := 0x110403
/-- `1104.04` CAN_BUSOFF. -/
abbrev CAN_BUSOFF : Nat := 0x110404
/-- `1104.05` ABORTS_SENT. -/
abbrev ABORTS_SENT : Nat := 0x110405
/-- `1104.06` ABORTS_RECEIVED. -/
abbrev ABORTS_RECEIVED : Nat := 0x110406
/-- `1104.07` MGMT_DROPPED. -/
abbrev MGMT_DROPPED : Nat := 0x110407
/-- `1104.08` UDP_RX. -/
abbrev UDP_RX : Nat := 0x110408
/-- `1200.01` FAULT_COUNT. -/
abbrev FAULT_COUNT : Nat := 0x120001
/-- `1200.02` FAULT_STATUS. -/
abbrev FAULT_STATUS : Nat := 0x120002
/-- `1200.03` FAULT_LOG. -/
abbrev FAULT_LOG : Nat := 0x120003
/-- `1800.01` OTP_STATUS. -/
abbrev OTP_STATUS : Nat := 0x180001
/-- `1800.02` OTP_PROGRAMS. -/
abbrev OTP_PROGRAMS : Nat := 0x180002
/-- `1800.03` OTP_FAULTS. -/
abbrev OTP_FAULTS : Nat := 0x180003
/-- `1800.04` SPARES_LEFT. -/
abbrev SPARES_LEFT : Nat := 0x180004
/-- `1800.05` VOIDED. -/
abbrev VOIDED : Nat := 0x180005
/-- `1801.01` LIFECYCLE. -/
abbrev LIFECYCLE : Nat := 0x180101
/-- `1801.02` LIFECYCLE_LEFT. -/
abbrev LIFECYCLE_LEFT : Nat := 0x180102
/-- `1801.03` LIFECYCLE_NOW. -/
abbrev LIFECYCLE_NOW : Nat := 0x180103
/-- `1802.01` REGION_PROFILE. -/
abbrev REGION_PROFILE : Nat := 0x180201
/-- `1802.02` REGION_LEFT. -/
abbrev REGION_LEFT : Nat := 0x180202
/-- `1803.01` ROOT_ROTATE. -/
abbrev ROOT_ROTATE : Nat := 0x180301
/-- `1803.02` ROOT_LEFT. -/
abbrev ROOT_LEFT : Nat := 0x180302
/-- `1804.01` BOOT_KEY_HASH. -/
abbrev BOOT_KEY_HASH : Nat := 0x180401
/-- `1804.02` BOOT_KEY_READ. -/
abbrev BOOT_KEY_READ : Nat := 0x180402
/-- `2000.01` REF_HZ. -/
abbrev REF_HZ : Nat := 0x200001
/-- `2000.02` ROOT_STATE. -/
abbrev ROOT_STATE : Nat := 0x200002
/-- `2000.03` CLOCK_HZ. -/
abbrev CLOCK_HZ : Nat := 0x200003
/-- `2000.04` XTAL_OK. -/
abbrev XTAL_OK : Nat := 0x200004
/-- `2000.05` ROOT_UNLOCKS. -/
abbrev ROOT_UNLOCKS : Nat := 0x200005
/-- `2100.01` DOMAIN_STATE. -/
abbrev DOMAIN_STATE : Nat := 0x210001
/-- `2100.02` DOMAIN_REQ. -/
abbrev DOMAIN_REQ : Nat := 0x210002
/-- `2100.03` REQ_RESULT. -/
abbrev REQ_RESULT : Nat := 0x210003
/-- `2100.04` TIMERS. -/
abbrev TIMERS : Nat := 0x210004
/-- `2100.05` SLEEP_REQ. -/
abbrev SLEEP_REQ : Nat := 0x210005
/-- `2100.06` WAKE_MASK. -/
abbrev WAKE_MASK : Nat := 0x210006
/-- `2100.07` WAKE_AFTER_S. -/
abbrev WAKE_AFTER_S : Nat := 0x210007
/-- `2102.01` REFUSALS. -/
abbrev REFUSALS : Nat := 0x210201
/-- `2102.02` WAKES. -/
abbrev WAKES : Nat := 0x210202
/-- `2104.01` POWER_FAULT. -/
abbrev POWER_FAULT : Nat := 0x210401
/-- `2104.02` FAULT_RECORD. -/
abbrev FAULT_RECORD : Nat := 0x210402
/-- `2104.03` FAULT_DOMAINS. -/
abbrev FAULT_DOMAINS : Nat := 0x210403
/-- `2104.04` FAULT_CLEAR. -/
abbrev FAULT_CLEAR : Nat := 0x210404
/-- `2105.01` FAULT_N_ROUTE. -/
abbrev FAULT_N_ROUTE : Nat := 0x210501
/-- `2105.02` FAULT_N_ACTIVE. -/
abbrev FAULT_N_ACTIVE : Nat := 0x210502
/-- `2105.03` FAULT_N_LATCH. -/
abbrev FAULT_N_LATCH : Nat := 0x210503
/-- `2200.01` STAGE_NOW. -/
abbrev STAGE_NOW : Nat := 0x220001
/-- `2200.02` VIN_MV. -/
abbrev VIN_MV : Nat := 0x220002
/-- `2200.03` STAGE_EVENTS. -/
abbrev STAGE_EVENTS : Nat := 0x220003
/-- `2200.04` STAGE_FORCE. -/
abbrev STAGE_FORCE : Nat := 0x220004
/-- `2200.05` VIN_MIN_MV. -/
abbrev VIN_MIN_MV : Nat := 0x220005
/-- `2201.01` S1_MV. -/
abbrev S1_MV : Nat := 0x220101
/-- `2201.02` S2_MV. -/
abbrev S2_MV : Nat := 0x220102
/-- `2201.03` S3_MV. -/
abbrev S3_MV : Nat := 0x220103
/-- `2201.04` S4_MV. -/
abbrev S4_MV : Nat := 0x220104
/-- `2201.05` S5_MV. -/
abbrev S5_MV : Nat := 0x220105
/-- `2201.06` HYST_MV. -/
abbrev HYST_MV : Nat := 0x220106
/-- `2201.07` RISE_HOLD_MS. -/
abbrev RISE_HOLD_MS : Nat := 0x220107
/-- `2201.08` DEBOUNCE. -/
abbrev DEBOUNCE : Nat := 0x220108
/-- `2201.09` RESTART_MV. -/
abbrev RESTART_MV : Nat := 0x220109
/-- `2201.0A` RESTART_S. -/
abbrev RESTART_S : Nat := 0x22010A
/-- `2201.0B` PMBUS_ENABLE. -/
abbrev PMBUS_ENABLE : Nat := 0x22010B
/-- `2201.0C` PMBUS_ADDR. -/
abbrev PMBUS_ADDR : Nat := 0x22010C
/-- `2201.0D` GAIN_TRIM. -/
abbrev GAIN_TRIM : Nat := 0x22010D
/-- `2202.01` STAGE_ENTRIES. -/
abbrev STAGE_ENTRIES : Nat := 0x220201
/-- `2202.02` STAGE_TIME_S. -/
abbrev STAGE_TIME_S : Nat := 0x220202
/-- `2202.03` PMBUS_ERRORS. -/
abbrev PMBUS_ERRORS : Nat := 0x220203
/-- `2202.04` RESTARTS. -/
abbrev SUP_RESTARTS : Nat := 0x220204
/-- `2202.05` GASPS_SENT. -/
abbrev GASPS_SENT : Nat := 0x220205
/-- `2202.06` GASPS_NOT_SENT. -/
abbrev GASPS_NOT_SENT : Nat := 0x220206
/-- `2203.01` JOURNAL_BASE. -/
abbrev JOURNAL_BASE : Nat := 0x220301
/-- `2203.02` JOURNAL_LAST. -/
abbrev JOURNAL_LAST : Nat := 0x220302
/-- `2203.03` GASP_COUNT. -/
abbrev GASP_COUNT : Nat := 0x220303
/-- `2203.04` JOURNAL_ENABLE. -/
abbrev JOURNAL_ENABLE : Nat := 0x220304
/-- `2203.05` SUSPEND_OP. -/
abbrev SUSPEND_OP : Nat := 0x220305
/-- `3000.01` LAY_COMMAND. -/
abbrev LAY_COMMAND : Nat := 0x300001
/-- `3000.02` LAY_STATUS. -/
abbrev LAY_STATUS : Nat := 0x300002
/-- `3000.03` REJECT_REASON. -/
abbrev REJECT_REASON : Nat := 0x300003
/-- `3000.04` REJECT_WORD. -/
abbrev REJECT_WORD : Nat := 0x300004
/-- `3000.05` REJECT_ITEM. -/
abbrev REJECT_ITEM : Nat := 0x300005
/-- `3000.06` WARNINGS. -/
abbrev WARNINGS : Nat := 0x300006
/-- `3000.07` SWAP_ASN. -/
abbrev SWAP_ASN : Nat := 0x300007
/-- `3000.08` RUNNING_BANK. -/
abbrev RUNNING_BANK : Nat := 0x300008
/-- `3000.09` RUNNING_SECTION. -/
abbrev RUNNING_SECTION : Nat := 0x300009
/-- `3000.0A` DEGRADED. -/
abbrev DEGRADED : Nat := 0x30000A
/-- `3000.0B` RUNNING_BUILD_ID. -/
abbrev RUNNING_BUILD_ID : Nat := 0x30000B
/-- `3000.0C` RUNNING_CRC. -/
abbrev RUNNING_CRC : Nat := 0x30000C
/-- `3000.0D` SLOT_POS. -/
abbrev SLOT_POS : Nat := 0x30000D
/-- `3000.0E` REFRESH_RATE. -/
abbrev REFRESH_RATE : Nat := 0x30000E
/-- `3000.0F` REJECT_DETAIL. -/
abbrev REJECT_DETAIL : Nat := 0x30000F
/-- `3001.01` STANDBY_IMAGE. -/
abbrev STANDBY_IMAGE : Nat := 0x300101
/-- `3001.02` RUNNING_IMAGE. -/
abbrev RUNNING_IMAGE : Nat := 0x300102
/-- `3002.01` SIG_PUBKEY. -/
abbrev SIG_PUBKEY : Nat := 0x300201
/-- `3002.02` REQUIRE_SIG. -/
abbrev REQUIRE_SIG : Nat := 0x300202
/-- `3003.01` NEED_TABLE. -/
abbrev NEED_TABLE : Nat := 0x300301
/-- `3004.01` HITCH_RECORDS. -/
abbrev HITCH_RECORDS : Nat := 0x300401
/-- `3004.02` HITCH_CLEAR. -/
abbrev HITCH_CLEAR : Nat := 0x300402
/-- `3004.03` BOUND_STATUS. -/
abbrev BOUND_STATUS : Nat := 0x300403
/-- `3004.04` LAST_EXCESS_HITCH. -/
abbrev LAST_EXCESS_HITCH : Nat := 0x300404
/-- `3004.05` LAST_EXCESS_TK. -/
abbrev LAST_EXCESS_TK : Nat := 0x300405
/-- `3005.01` SWAPS. -/
abbrev SWAPS : Nat := 0x300501
/-- `3005.02` REJECTS. -/
abbrev REJECTS : Nat := 0x300502
/-- `3005.03` STAGE_SWAPS. -/
abbrev STAGE_SWAPS : Nat := 0x300503
/-- `3005.04` STAGE_SKIPPED. -/
abbrev STAGE_SKIPPED : Nat := 0x300504
/-- `3005.05` DEGRADED_ENTRIES. -/
abbrev DEGRADED_ENTRIES : Nat := 0x300505
/-- `3005.06` TEST_CANCELLED. -/
abbrev TEST_CANCELLED : Nat := 0x300506
/-- `3005.07` SWAP_ABANDONED. -/
abbrev SWAP_ABANDONED : Nat := 0x300507
/-- `3100.01` PLACEMENT_ENABLE. -/
abbrev PLACEMENT_ENABLE : Nat := 0x310001
/-- `3100.02` TRIGGER_MASK. -/
abbrev TRIGGER_MASK : Nat := 0x310002
/-- `3100.03` DECISION_LEAD_TK. -/
abbrev DECISION_LEAD_TK : Nat := 0x310003
/-- `3101.01` MAP_TABLE. -/
abbrev MAP_TABLE : Nat := 0x310101
/-- `3101.02` RETIRED. -/
abbrev RETIRED : Nat := 0x310102
/-- `3101.03` PAN_STATE. -/
abbrev PAN_STATE : Nat := 0x310103
/-- `3101.04` RETIRED_CLEAR. -/
abbrev RETIRED_CLEAR : Nat := 0x310104
/-- `3102.01` FORBID. -/
abbrev FORBID : Nat := 0x310201
/-- `3102.02` PAN_RESERVE. -/
abbrev PAN_RESERVE : Nat := 0x310202
/-- `3102.03` THERMAL_HIGH_C. -/
abbrev THERMAL_HIGH_C : Nat := 0x310203
/-- `3102.04` THERMAL_LOW_C. -/
abbrev THERMAL_LOW_C : Nat := 0x310204
/-- `3102.05` ECC_RATE_LIMIT. -/
abbrev ECC_RATE_LIMIT : Nat := 0x310205
/-- `3102.06` PROMOTE_FRAMES. -/
abbrev PROMOTE_FRAMES : Nat := 0x310206
/-- `3102.07` PROMOTE_WINDOW_S. -/
abbrev PROMOTE_WINDOW_S : Nat := 0x310207
/-- `3102.08` DEMOTE_IDLE_S. -/
abbrev DEMOTE_IDLE_S : Nat := 0x310208
/-- `3102.09` MIGRATE_MIBPS. -/
abbrev MIGRATE_MIBPS : Nat := 0x310209
/-- `3102.0A` MIN_DWELL_S. -/
abbrev MIN_DWELL_S : Nat := 0x31020A
/-- `3102.0B` LOAD_SPREAD_PCT. -/
abbrev LOAD_SPREAD_PCT : Nat := 0x31020B
/-- `3103.01` JOURNAL. -/
abbrev JOURNAL : Nat := 0x310301
/-- `3103.02` JOURNAL_STATUS. -/
abbrev JOURNAL_STATUS : Nat := 0x310302
/-- `3103.03` JOURNAL_COUNT. -/
abbrev JOURNAL_COUNT : Nat := 0x310303
/-- `3104.01` WHY_QUERY. -/
abbrev WHY_QUERY : Nat := 0x310401
/-- `3104.02` WHY_RESULT. -/
abbrev WHY_RESULT : Nat := 0x310402
/-- `3104.03` WHERE. -/
abbrev WHERE : Nat := 0x310403
/-- `3105.01` REMAPS. -/
abbrev REMAPS : Nat := 0x310501
/-- `3105.02` RETIREMENTS. -/
abbrev RETIREMENTS : Nat := 0x310502
/-- `3105.03` MIGRATIONS. -/
abbrev MIGRATIONS : Nat := 0x310503
/-- `3105.04` DEFERRED. -/
abbrev DEFERRED : Nat := 0x310504
/-- `3105.05` TEST_NOT_CLEAR. -/
abbrev TEST_NOT_CLEAR : Nat := 0x310505
/-- `3105.06` ENTRY_UNREACHABLE. -/
abbrev ENTRY_UNREACHABLE : Nat := 0x310506
/-- `3105.07` SPARE_SERVED. -/
abbrev SPARE_SERVED : Nat := 0x310507
/-- `3105.08` FORBIDS_LIFTED. -/
abbrev FORBIDS_LIFTED : Nat := 0x310508
/-- `3105.09` PIN_MISSING. -/
abbrev PIN_MISSING : Nat := 0x310509
/-- `3105.0A` UNMAPPED_SKIPPED. -/
abbrev UNMAPPED_SKIPPED : Nat := 0x31050A
/-- `3106.01` TIER_FORCE. -/
abbrev TIER_FORCE : Nat := 0x310601
/-- `4000.01` TRX_STATE. -/
abbrev TRX_STATE (t : Nat) : Nat := 0x400001 + t * 65536
/-- `4000.02` TRX_EVENTS. -/
abbrev TRX_EVENTS (t : Nat) : Nat := 0x400002 + t * 65536
/-- `4000.03` CHANNEL. -/
abbrev CHANNEL (t : Nat) : Nat := 0x400003 + t * 65536
/-- `4000.04` PATH. -/
abbrev PATH (t : Nat) : Nat := 0x400004 + t * 65536
/-- `4000.05` N_INT. -/
abbrev N_INT (t : Nat) : Nat := 0x400005 + t * 65536
/-- `4000.06` N_FRAC. -/
abbrev N_FRAC (t : Nat) : Nat := 0x400006 + t * 65536
/-- `4000.07` VCO_BAND. -/
abbrev VCO_BAND (t : Nat) : Nat := 0x400007 + t * 65536
/-- `4000.08` VTUNE. -/
abbrev VTUNE (t : Nat) : Nat := 0x400008 + t * 65536
/-- `4000.09` CP_I. -/
abbrev CP_I (t : Nat) : Nat := 0x400009 + t * 65536
/-- `4000.0A` DIE_TEMP_C. -/
abbrev DIE_TEMP_C (t : Nat) : Nat := 0x40000A + t * 65536
/-- `4000.0B` MANUAL_HOP. -/
abbrev MANUAL_HOP (t : Nat) : Nat := 0x40000B + t * 65536
/-- `4000.0C` TX_INHIBIT_CLEAR. -/
abbrev TX_INHIBIT_CLEAR (t : Nat) : Nat := 0x40000C + t * 65536
/-- `4001.01` TX_POWER_QDBM. -/
abbrev TX_POWER_QDBM (t : Nat) : Nat := 0x400101 + t * 65536
/-- `4001.02` RAMP_TK. -/
abbrev RAMP_TK (t : Nat) : Nat := 0x400102 + t * 65536
/-- `4001.03` PA_LEAD_TK. -/
abbrev PA_LEAD_TK (t : Nat) : Nat := 0x400103 + t * 65536
/-- `4001.04` PA_LAG_TK. -/
abbrev PA_LAG_TK (t : Nat) : Nat := 0x400104 + t * 65536
/-- `4001.05` TRSW_LAG_TK. -/
abbrev TRSW_LAG_TK (t : Nat) : Nat := 0x400105 + t * 65536
/-- `4001.06` FIR_COEF. -/
abbrev FIR_COEF (t : Nat) : Nat := 0x400106 + t * 65536
/-- `4001.07` FIR_MAP. -/
abbrev FIR_MAP (t : Nat) : Nat := 0x400107 + t * 65536
/-- `4002.01` AGC_MODE. -/
abbrev AGC_MODE (t : Nat) : Nat := 0x400201 + t * 65536
/-- `4002.02` FIXED_GAIN_STEP. -/
abbrev FIXED_GAIN_STEP (t : Nat) : Nat := 0x400202 + t * 65536
/-- `4002.03` AGC_TARGET_DBFS. -/
abbrev AGC_TARGET_DBFS (t : Nat) : Nat := 0x400203 + t * 65536
/-- `4003.01` CAL_COMMAND. -/
abbrev CAL_COMMAND (t : Nat) : Nat := 0x400301 + t * 65536
/-- `4003.02` CAL_STATUS. -/
abbrev CAL_STATUS (t : Nat) : Nat := 0x400302 + t * 65536
/-- `4003.03` CAL_PERIOD_S. -/
abbrev CAL_PERIOD_S (t : Nat) : Nat := 0x400303 + t * 65536
/-- `4003.04` CAL_TEMP_DELTA_C. -/
abbrev CAL_TEMP_DELTA_C (t : Nat) : Nat := 0x400304 + t * 65536
/-- `4003.05` CAL_FAILS. -/
abbrev CAL_FAILS (t : Nat) : Nat := 0x400305 + t * 65536
/-- `4003.06` CAL_RUNS. -/
abbrev CAL_RUNS (t : Nat) : Nat := 0x400306 + t * 65536
/-- `4003.07` SYNTH_STALE_C. -/
abbrev SYNTH_STALE_C (t : Nat) : Nat := 0x400307 + t * 65536
/-- `4004.01` RX1_IMAGE_DB. -/
abbrev RX1_IMAGE_DB (t : Nat) : Nat := 0x400401 + t * 65536
/-- `4004.02` RX2_IMAGE_DB. -/
abbrev RX2_IMAGE_DB (t : Nat) : Nat := 0x400402 + t * 65536
/-- `4004.03` TX_LO_LEAK_DBC. -/
abbrev TX_LO_LEAK_DBC (t : Nat) : Nat := 0x400403 + t * 65536
/-- `4004.04` TX_IMAGE_DB. -/
abbrev TX_IMAGE_DB (t : Nat) : Nat := 0x400404 + t * 65536
/-- `4004.05` RX1_DC_DBFS. -/
abbrev RX1_DC_DBFS (t : Nat) : Nat := 0x400405 + t * 65536
/-- `4004.06` RX2_DC_DBFS. -/
abbrev RX2_DC_DBFS (t : Nat) : Nat := 0x400406 + t * 65536
/-- `4004.07` CAL_AGE_S. -/
abbrev CAL_AGE_S (t : Nat) : Nat := 0x400407 + t * 65536
/-- `4004.08` TX_TRIM_QDB. -/
abbrev TX_TRIM_QDB (t : Nat) : Nat := 0x400408 + t * 65536
/-- `4004.09` FWD_PWR_QDBM. -/
abbrev FWD_PWR_QDBM (t : Nat) : Nat := 0x400409 + t * 65536
/-- `4005.01` TUNER_PRESETS. -/
abbrev TUNER_PRESETS (t : Nat) : Nat := 0x400501 + t * 65536
/-- `4005.02` TUNER_CODES. -/
abbrev TUNER_CODES (t : Nat) : Nat := 0x400502 + t * 65536
/-- `4005.03` TUNER_PRESET_NOW. -/
abbrev TUNER_PRESET_NOW (t : Nat) : Nat := 0x400503 + t * 65536
/-- `4005.04` RL_LAST_QDB. -/
abbrev RL_LAST_QDB (t : Nat) : Nat := 0x400504 + t * 65536
/-- `4006.01` RL_WARN. -/
abbrev RL_WARN (t : Nat) : Nat := 0x400601 + t * 65536
/-- `4006.02` RL_BACKOFF. -/
abbrev RL_BACKOFF (t : Nat) : Nat := 0x400602 + t * 65536
/-- `4006.03` RL_INHIBIT. -/
abbrev RL_INHIBIT (t : Nat) : Nat := 0x400603 + t * 65536
/-- `4006.04` BACKOFF_QDB. -/
abbrev BACKOFF_QDB (t : Nat) : Nat := 0x400604 + t * 65536
/-- `4006.05` AUTO_LIMIT. -/
abbrev AUTO_LIMIT (t : Nat) : Nat := 0x400605 + t * 65536
/-- `4006.06` EXT_TUNER. -/
abbrev EXT_TUNER (t : Nat) : Nat := 0x400606 + t * 65536
/-- `4006.07` EXT_ADDR. -/
abbrev EXT_ADDR (t : Nat) : Nat := 0x400607 + t * 65536
/-- `4007.01` TX_STARTED. -/
abbrev TX_STARTED (t : Nat) : Nat := 0x400701 + t * 65536
/-- `4007.02` TX_LATE_LOCK. -/
abbrev TX_LATE_LOCK (t : Nat) : Nat := 0x400702 + t * 65536
/-- `4007.03` TX_NO_FIT. -/
abbrev TX_NO_FIT (t : Nat) : Nat := 0x400703 + t * 65536
/-- `4007.04` TX_WRONG_PATH. -/
abbrev TX_WRONG_PATH (t : Nat) : Nat := 0x400704 + t * 65536
/-- `4007.05` RX_LATE_LOCK. -/
abbrev RX_LATE_LOCK (t : Nat) : Nat := 0x400705 + t * 65536
/-- `4007.06` RX_WRONG_PATH. -/
abbrev RX_WRONG_PATH (t : Nat) : Nat := 0x400706 + t * 65536
/-- `4007.07` HOP_MISS. -/
abbrev HOP_MISS (t : Nat) : Nat := 0x400707 + t * 65536
/-- `4007.08` LOCK_LOST. -/
abbrev LOCK_LOST (t : Nat) : Nat := 0x400708 + t * 65536
/-- `4007.09` RECAL_DONE. -/
abbrev RECAL_DONE (t : Nat) : Nat := 0x400709 + t * 65536
/-- `4007.0A` SYNTH_FAULT. -/
abbrev SYNTH_FAULT (t : Nat) : Nat := 0x40070A + t * 65536
/-- `4007.0B` MASK_ABORT. -/
abbrev MASK_ABORT (t : Nat) : Nat := 0x40070B + t * 65536
/-- `4007.0C` POWER_TRIM. -/
abbrev POWER_TRIM (t : Nat) : Nat := 0x40070C + t * 65536
/-- `4007.0D` DUTY_BLOCK. -/
abbrev DUTY_BLOCK (t : Nat) : Nat := 0x40070D + t * 65536
/-- `4007.0E` REG_MASK_BLOCK. -/
abbrev REG_MASK_BLOCK (t : Nat) : Nat := 0x40070E + t * 65536
/-- `4007.0F` TUNER_WARN. -/
abbrev TUNER_WARN (t : Nat) : Nat := 0x40070F + t * 65536
/-- `4007.10` TUNER_BACKOFF. -/
abbrev TUNER_BACKOFF (t : Nat) : Nat := 0x400710 + t * 65536
/-- `4007.11` TX_INHIBITED. -/
abbrev TX_INHIBITED (t : Nat) : Nat := 0x400711 + t * 65536
/-- `4007.12` PLY_ABANDONED. -/
abbrev PLY_ABANDONED (t : Nat) : Nat := 0x400712 + t * 65536
/-- `4007.13` TX_CUT. -/
abbrev TRX_TX_CUT (t : Nat) : Nat := 0x400713 + t * 65536
/-- `4300.01` PROFILE. -/
abbrev PROFILE : Nat := 0x430001
/-- `4300.02` PROFILE_ID. -/
abbrev PROFILE_ID : Nat := 0x430002
/-- `4300.03` PROFILE_PENDING. -/
abbrev PROFILE_PENDING : Nat := 0x430003
/-- `4300.04` DUTY_USED. -/
abbrev DUTY_USED : Nat := 0x430004
/-- `4300.05` TX_LIMIT_A_QDBM. -/
abbrev TX_LIMIT_A_QDBM : Nat := 0x430005
/-- `4300.06` TX_LIMIT_B_QDBM. -/
abbrev TX_LIMIT_B_QDBM : Nat := 0x430006
/-- `4300.07` TX_LIMIT_C_QDBM. -/
abbrev TX_LIMIT_C_QDBM : Nat := 0x430007
/-- `4400.01` CHAN_PLAN. -/
abbrev CHAN_PLAN (t : Nat) : Nat := 0x440001 + t * 256
/-- `4400.02` CAL_TABLE. -/
abbrev CAL_TABLE (t : Nat) : Nat := 0x440002 + t * 256
/-- `4400.03` CAL_INVALIDATE. -/
abbrev CAL_INVALIDATE (t : Nat) : Nat := 0x440003 + t * 256
/-- `5000.01` STREAM_TABLE. -/
abbrev STREAM_TABLE : Nat := 0x500001
/-- `5000.02` CAPTURE_MARGIN_QDB. -/
abbrev CAPTURE_MARGIN_QDB : Nat := 0x500002
/-- `5000.03` CAPTURE_ENABLE. -/
abbrev CAPTURE_ENABLE : Nat := 0x500003
/-- `5001.01` RAKE_STREAM_COUNTS. -/
abbrev RAKE_STREAM_COUNTS : Nat := 0x500101
/-- `5001.02` RAKE_DETECTIONS. -/
abbrev RAKE_DETECTIONS : Nat := 0x500102
/-- `5001.03` RAKE_UNSERVED. -/
abbrev RAKE_UNSERVED : Nat := 0x500103
/-- `5001.04` RAKE_OVERLAP_IGNORED. -/
abbrev RAKE_OVERLAP_IGNORED : Nat := 0x500104
/-- `5001.05` STREAM_VALID. -/
abbrev STREAM_VALID : Nat := 0x500105
/-- `5100.01` PROFILES. -/
abbrev PROFILES : Nat := 0x510001
/-- `5101.01` LANE_STATE. -/
abbrev LANE_STATE : Nat := 0x510101
/-- `5102.01` QUALITY_TAP. -/
abbrev QUALITY_TAP : Nat := 0x510201
/-- `5102.02` QUALITY_RING. -/
abbrev QUALITY_RING : Nat := 0x510202
/-- `5103.01` LANE_EVENTS. -/
abbrev LANE_EVENTS : Nat := 0x510301
/-- `5140.01` LANE_FRAMES. -/
abbrev LANE_FRAMES : Nat := 0x514001
/-- `5140.02` LANE_LEN_ZERO. -/
abbrev LANE_LEN_ZERO : Nat := 0x514002
/-- `5140.03` LANE_PHR_FAIL. -/
abbrev LANE_PHR_FAIL : Nat := 0x514003
/-- `5140.04` LANE_LEN_SHORT. -/
abbrev LANE_LEN_SHORT : Nat := 0x514004
/-- `5140.05` LANE_LEN_OVER. -/
abbrev LANE_LEN_OVER : Nat := 0x514005
/-- `5140.06` LANE_MS_UNSUPPORTED. -/
abbrev LANE_MS_UNSUPPORTED : Nat := 0x514006
/-- `5140.07` LANE_SFD_TIMEOUT. -/
abbrev LANE_SFD_TIMEOUT : Nat := 0x514007
/-- `5140.08` LANE_FALSE_PREEMPTED. -/
abbrev LANE_FALSE_PREEMPTED : Nat := 0x514008
/-- `5140.09` LANE_WINDOW_CUT. -/
abbrev LANE_WINDOW_CUT : Nat := 0x514009
/-- `5140.0A` LANE_STREAM_INVALID. -/
abbrev LANE_STREAM_INVALID : Nat := 0x51400A
/-- `5140.0B` LANE_SHED. -/
abbrev LANE_SHED : Nat := 0x51400B
/-- `5140.0C` CAPTURE_TAKEN. -/
abbrev CAPTURE_TAKEN : Nat := 0x51400C
/-- `5140.0D` CAPTURE_NEW_LOST. -/
abbrev CAPTURE_NEW_LOST : Nat := 0x51400D
/-- `5140.0E` CAPTURE_OLD_LOST. -/
abbrev CAPTURE_OLD_LOST : Nat := 0x51400E
/-- `5140.0F` PROFILE_MISMATCH. -/
abbrev PROFILE_MISMATCH : Nat := 0x51400F
/-- `5140.10` STREAM_DISABLED. -/
abbrev STREAM_DISABLED : Nat := 0x514010
/-- `5140.11` HEADER_TO_BIGHT. -/
abbrev HEADER_TO_BIGHT : Nat := 0x514011
/-- `5200.01` PLY_LINKS. -/
abbrev PLY_LINKS : Nat := 0x520001
/-- `5201.01` LINK_STATUS. -/
abbrev LINK_STATUS : Nat := 0x520101
/-- `5202.01` TX_LOADING. -/
abbrev TX_LOADING : Nat := 0x520201
/-- `5202.02` RX_LOADING. -/
abbrev RX_LOADING : Nat := 0x520202
/-- `5202.03` LAST_SOUND_SNR. -/
abbrev LAST_SOUND_SNR : Nat := 0x520203
/-- `5203.01` SOUND_COMMAND. -/
abbrev SOUND_COMMAND : Nat := 0x520301
/-- `5203.02` FALLBACK_COMMAND. -/
abbrev FALLBACK_COMMAND : Nat := 0x520302
/-- `5240.01` BURSTS_RX. -/
abbrev BURSTS_RX : Nat := 0x524001
/-- `5240.02` HEADER_FAIL. -/
abbrev HEADER_FAIL : Nat := 0x524002
/-- `5240.03` LDPC_FAIL. -/
abbrev LDPC_FAIL : Nat := 0x524003
/-- `5240.04` UNKNOWN_LOADING. -/
abbrev UNKNOWN_LOADING : Nat := 0x524004
/-- `5240.05` SEGMENT_LOST. -/
abbrev SEGMENT_LOST : Nat := 0x524005
/-- `5240.06` SOUNDINGS_TX. -/
abbrev SOUNDINGS_TX : Nat := 0x524006
/-- `5240.07` SOUNDINGS_RX. -/
abbrev SOUNDINGS_RX : Nat := 0x524007
/-- `5240.08` LOADING_TX. -/
abbrev LOADING_TX : Nat := 0x524008
/-- `5240.09` FALLBACKS. -/
abbrev FALLBACKS : Nat := 0x524009
/-- `5240.0A` LOADING_BAD. -/
abbrev LOADING_BAD : Nat := 0x52400A
/-- `5240.0B` PLY_LEN_ZERO. -/
abbrev PLY_LEN_ZERO : Nat := 0x52400B
/-- `6000.01` PAN_ID. -/
abbrev PAN_ID : Nat := 0x600001
/-- `6000.02` SHORT_ADDR. -/
abbrev SHORT_ADDR : Nat := 0x600002
/-- `6000.03` EUI64. -/
abbrev EUI64 : Nat := 0x600003
/-- `6000.04` MAX_RETRIES. -/
abbrev MAX_RETRIES : Nat := 0x600004
/-- `6000.05` LIFETIME_C0_MS. -/
abbrev LIFETIME_C0_MS : Nat := 0x600005
/-- `6000.06` LIFETIME_C1_MS. -/
abbrev LIFETIME_C1_MS : Nat := 0x600006
/-- `6000.07` LIFETIME_C2_MS. -/
abbrev LIFETIME_C2_MS : Nat := 0x600007
/-- `6000.08` LIFETIME_C3_MS. -/
abbrev LIFETIME_C3_MS : Nat := 0x600008
/-- `6000.09` G_MIN_TK. -/
abbrev G_MIN_TK : Nat := 0x600009
/-- `6000.0A` G_MAX_TK. -/
abbrev G_MAX_TK : Nat := 0x60000A
/-- `6000.0B` LOCKED_DRIFT_QPPM. -/
abbrev LOCKED_DRIFT_QPPM : Nat := 0x60000B
/-- `6000.0C` DEFAULT_DRIFT_QPPM. -/
abbrev DEFAULT_DRIFT_QPPM : Nat := 0x60000C
/-- `6000.0D` MIN_BE. -/
abbrev MIN_BE : Nat := 0x60000D
/-- `6000.0E` MAX_BE. -/
abbrev MAX_BE : Nat := 0x60000E
/-- `6000.0F` DL_QUEUE_MAX. -/
abbrev DL_QUEUE_MAX : Nat := 0x60000F
/-- `6000.10` JOIN_ENABLE. -/
abbrev JOIN_ENABLE : Nat := 0x600010
/-- `6000.11` JOIN_FLOW. -/
abbrev JOIN_FLOW : Nat := 0x600011
/-- `6000.12` JOIN_RATE. -/
abbrev JOIN_RATE : Nat := 0x600012
/-- `6000.13` CSL_MAX_WAKEUPS. -/
abbrev CSL_MAX_WAKEUPS : Nat := 0x600013
/-- `6001.01` HOP_SEQUENCE. -/
abbrev HOP_SEQUENCE : Nat := 0x600101
/-- `6001.02` JOIN_METRIC. -/
abbrev JOIN_METRIC : Nat := 0x600102
/-- `6001.03` EB_TRAILER_IES. -/
abbrev EB_TRAILER_IES : Nat := 0x600103
/-- `6001.04` VENDOR_OUI. -/
abbrev VENDOR_OUI : Nat := 0x600104
/-- `6002.01` TEMPLATES. -/
abbrev TEMPLATES : Nat := 0x600201
/-- `6003.01` CELL_TABLE. -/
abbrev CELL_TABLE : Nat := 0x600301
/-- `6004.01` COMPLETION_RING. -/
abbrev COMPLETION_RING : Nat := 0x600401
/-- `6004.02` COMPLETION_STATUS. -/
abbrev COMPLETION_STATUS : Nat := 0x600402
/-- `6005.01` CONTEXTS. -/
abbrev CONTEXTS : Nat := 0x600501
/-- `6005.02` REASM_TIMEOUT_S. -/
abbrev REASM_TIMEOUT_S : Nat := 0x600502
/-- `6005.03` REASM_MAX. -/
abbrev REASM_MAX : Nat := 0x600503
/-- `6005.04` REASM_PER_SENSOR. -/
abbrev REASM_PER_SENSOR : Nat := 0x600504
/-- `6040.01` RX_ACCEPTED. -/
abbrev RX_ACCEPTED : Nat := 0x604001
/-- `6040.02` FCS_FAIL. -/
abbrev FCS_FAIL : Nat := 0x604002
/-- `6040.03` NOT_FOR_US. -/
abbrev NOT_FOR_US : Nat := 0x604003
/-- `6040.04` FRAME_UNSUPPORTED. -/
abbrev FRAME_UNSUPPORTED : Nat := 0x604004
/-- `6040.05` UNKNOWN_SOURCE. -/
abbrev UNKNOWN_SOURCE : Nat := 0x604005
/-- `6040.06` DUPLICATE. -/
abbrev DUPLICATE : Nat := 0x604006
/-- `6040.07` TAG_FAIL. -/
abbrev TAG_FAIL : Nat := 0x604007
/-- `6040.08` REPLAY. -/
abbrev REPLAY : Nat := 0x604008
/-- `6040.09` SEC_LEVEL_MISMATCH. -/
abbrev SEC_LEVEL_MISMATCH : Nat := 0x604009
/-- `6040.0A` CLASS_DEMOTED. -/
abbrev CLASS_DEMOTED : Nat := 0x60400A
/-- `6040.0B` ACKS_SENT. -/
abbrev ACKS_SENT : Nat := 0x60400B
/-- `6040.0C` ACK_TOO_LATE. -/
abbrev ACK_TOO_LATE : Nat := 0x60400C
/-- `6040.0D` OUTSIDE_GUARD. -/
abbrev OUTSIDE_GUARD : Nat := 0x60400D
/-- `6040.0E` CELL_UNTYPED. -/
abbrev CELL_UNTYPED : Nat := 0x60400E
/-- `6040.0F` HOP_MISMATCH. -/
abbrev HOP_MISMATCH : Nat := 0x60400F
/-- `6040.10` WRONG_CELL. -/
abbrev WRONG_CELL : Nat := 0x604010
/-- `6040.11` TX_DATA. -/
abbrev TX_DATA : Nat := 0x604011
/-- `6040.12` RETRIES. -/
abbrev RETRIES : Nat := 0x604012
/-- `6040.13` NO_ACK. -/
abbrev NO_ACK : Nat := 0x604013
/-- `6040.14` UPPER_TIMEOUT. -/
abbrev UPPER_TIMEOUT : Nat := 0x604014
/-- `6040.15` LATE_ACK. -/
abbrev LATE_ACK : Nat := 0x604015
/-- `6040.16` DL_QUEUE_FULL. -/
abbrev DL_QUEUE_FULL : Nat := 0x604016
/-- `6040.17` DL_NO_SENSOR. -/
abbrev DL_NO_SENSOR : Nat := 0x604017
/-- `6040.18` CSL_TRAINS. -/
abbrev CSL_TRAINS : Nat := 0x604018
/-- `6040.19` CSL_NO_FIT. -/
abbrev CSL_NO_FIT : Nat := 0x604019
/-- `6040.1A` REASM_TIMEOUT. -/
abbrev REASM_TIMEOUT : Nat := 0x60401A
/-- `6040.1B` REASM_CONFLICT. -/
abbrev REASM_CONFLICT : Nat := 0x60401B
/-- `6040.1C` REASM_OVERFLOW. -/
abbrev REASM_OVERFLOW : Nat := 0x60401C
/-- `6040.1D` LOWPAN_FAIL. -/
abbrev LOWPAN_FAIL : Nat := 0x60401D
/-- `6040.1E` DL_TOO_BIG. -/
abbrev DL_TOO_BIG : Nat := 0x60401E
/-- `6040.1F` JOIN_DELIVERED. -/
abbrev JOIN_DELIVERED : Nat := 0x60401F
/-- `6040.20` JOIN_DROPPED. -/
abbrev JOIN_DROPPED : Nat := 0x604020
/-- `6040.21` SEQ_SUPPRESSED. -/
abbrev SEQ_SUPPRESSED : Nat := 0x604021
/-- `6040.22` EB_SENT. -/
abbrev EB_SENT : Nat := 0x604022
/-- `6040.23` TX_MISSED_CELL. -/
abbrev TX_MISSED_CELL : Nat := 0x604023
/-- `6100.01` SENSOR_TABLE. -/
abbrev SENSOR_TABLE : Nat := 0x610001
/-- `6100.02` SENSOR_INDEX. -/
abbrev SENSOR_INDEX : Nat := 0x610002
/-- `6100.03` SENSOR_ENTRY. -/
abbrev SENSOR_ENTRY : Nat := 0x610003
/-- `6100.04` SENSOR_COMMAND. -/
abbrev SENSOR_COMMAND : Nat := 0x610004
/-- `6100.05` SENSOR_RESULT. -/
abbrev SENSOR_RESULT : Nat := 0x610005
/-- `6140.01` REGISTERED. -/
abbrev REGISTERED : Nat := 0x614001
/-- `6140.02` ADDED. -/
abbrev ADDED : Nat := 0x614002
/-- `6140.03` REMOVED. -/
abbrev REMOVED : Nat := 0x614003
/-- `6140.04` ENTRY_LOST. -/
abbrev ENTRY_LOST : Nat := 0x614004
/-- `6200.01` RELAY_MODE. -/
abbrev RELAY_MODE : Nat := 0x620001
/-- `6200.02` PARENTS. -/
abbrev PARENTS : Nat := 0x620002
/-- `6200.03` PARENT_DRIFT_QPPM. -/
abbrev PARENT_DRIFT_QPPM : Nat := 0x620003
/-- `6200.04` RELAY_QUEUE_MAX_KIB. -/
abbrev RELAY_QUEUE_MAX_KIB : Nat := 0x620004
/-- `6200.05` LISTEN_SLOTFRAMES. -/
abbrev LISTEN_SLOTFRAMES : Nat := 0x620005
/-- `6200.06` PLY_KEY_SLOTS. -/
abbrev PLY_KEY_SLOTS : Nat := 0x620006
/-- `6201.01` RELAY_STATE. -/
abbrev RELAY_STATE : Nat := 0x620101
/-- `6201.02` CURRENT_PARENT. -/
abbrev CURRENT_PARENT : Nat := 0x620102
/-- `6201.03` MISSED_NOW. -/
abbrev MISSED_NOW : Nat := 0x620103
/-- `6201.04` LAST_EB_ASN. -/
abbrev LAST_EB_ASN : Nat := 0x620104
/-- `6240.01` EB_RX. -/
abbrev EB_RX : Nat := 0x624001
/-- `6240.02` EB_MISSED. -/
abbrev EB_MISSED : Nat := 0x624002
/-- `6240.03` PARENT_LOST. -/
abbrev PARENT_LOST : Nat := 0x624003
/-- `6240.04` RESYNC. -/
abbrev RESYNC : Nat := 0x624004
/-- `6240.05` ASN_STEPS. -/
abbrev ASN_STEPS : Nat := 0x624005
/-- `6240.06` RELAY_DROPPED. -/
abbrev RELAY_DROPPED : Nat := 0x624006
/-- `6800.01` ENGINE_STATE. -/
abbrev ENGINE_STATE : Nat := 0x680001
/-- `6800.02` JOBS_WAITING. -/
abbrev JOBS_WAITING : Nat := 0x680002
/-- `6800.03` SUSPENDED. -/
abbrev SUSPENDED : Nat := 0x680003
/-- `6800.04` BLOCK_OPS. -/
abbrev BLOCK_OPS : Nat := 0x680004
/-- `6801.01` EARLY_RELEASE. -/
abbrev EARLY_RELEASE : Nat := 0x680101
/-- `6801.02` POISON_FREE. -/
abbrev POISON_FREE : Nat := 0x680102
/-- `6802.01` CIPHER_EVENTS. -/
abbrev CIPHER_EVENTS : Nat := 0x680201
/-- `6840.01` JOBS_DONE. -/
abbrev JOBS_DONE : Nat := 0x684001
/-- `6840.02` AUTH_FAIL. -/
abbrev AUTH_FAIL : Nat := 0x684002
/-- `6840.03` PREEMPTIONS. -/
abbrev PREEMPTIONS : Nat := 0x684003
/-- `6840.04` RESUMES. -/
abbrev RESUMES : Nat := 0x684004
/-- `6840.05` RESTARTS. -/
abbrev CPH_RESTARTS : Nat := 0x684005
/-- `6840.06` JOB_REFUSED. -/
abbrev JOB_REFUSED : Nat := 0x684006
/-- `6840.07` KEY_UNAVAILABLE. -/
abbrev KEY_UNAVAILABLE : Nat := 0x684007
/-- `6840.08` KEY_KIND. -/
abbrev KEY_KIND : Nat := 0x684008
/-- `6840.09` LENGTH_FAULT. -/
abbrev LENGTH_FAULT : Nat := 0x684009
/-- `6840.0A` BITTERN_JOBS. -/
abbrev BITTERN_JOBS : Nat := 0x68400A
/-- `6840.0B` ZEROIZED. -/
abbrev ZEROIZED : Nat := 0x68400B
/-- `6840.0C` EARLY_SKIPPED. -/
abbrev EARLY_SKIPPED : Nat := 0x68400C
/-- `6840.0D` CANCELLED. -/
abbrev CPH_CANCELLED : Nat := 0x68400D
/-- `6840.0E` C0_INPUT_WAIT. -/
abbrev C0_INPUT_WAIT : Nat := 0x68400E
/-- `6900.01` IMPORT_PUBKEY. -/
abbrev IMPORT_PUBKEY : Nat := 0x690001
/-- `6900.02` KEY_IMPORT. -/
abbrev KEY_IMPORT : Nat := 0x690002
/-- `6900.03` IMPORT_STATUS. -/
abbrev IMPORT_STATUS : Nat := 0x690003
/-- `6900.04` IMPORT_RESULTS. -/
abbrev IMPORT_RESULTS : Nat := 0x690004
/-- `6900.05` KEY_DELETE. -/
abbrev KEY_DELETE : Nat := 0x690005
/-- `6900.06` SLOT_QUERY. -/
abbrev SLOT_QUERY : Nat := 0x690006
/-- `6900.07` SLOT_INFO. -/
abbrev SLOT_INFO : Nat := 0x690007
/-- `6900.08` ROOT_GENERATION. -/
abbrev ROOT_GENERATION : Nat := 0x690008
/-- `6900.09` REWRAP_STATUS. -/
abbrev REWRAP_STATUS : Nat := 0x690009
/-- `6900.0A` REWRAP_DONE. -/
abbrev REWRAP_DONE : Nat := 0x69000A
/-- `6900.0B` STORE_BASE. -/
abbrev STORE_BASE : Nat := 0x69000B
/-- `6901.01` CACHE_USED. -/
abbrev CACHE_USED : Nat := 0x690101
/-- `6901.02` CACHE_PINNED. -/
abbrev CACHE_PINNED : Nat := 0x690102
/-- `6901.03` CACHE_CAPACITY. -/
abbrev CACHE_CAPACITY : Nat := 0x690103
/-- `6901.04` CACHE_BANKS. -/
abbrev CACHE_BANKS : Nat := 0x690104
/-- `6940.01` FETCHES. -/
abbrev FETCHES : Nat := 0x694001
/-- `6940.02` FETCH_SHED. -/
abbrev FETCH_SHED : Nat := 0x694002
/-- `6940.03` UNWRAP_FAIL. -/
abbrev UNWRAP_FAIL : Nat := 0x694003
/-- `6940.04` EVICTIONS. -/
abbrev EVICTIONS : Nat := 0x694004
/-- `6940.05` IMPORTED. -/
abbrev IMPORTED : Nat := 0x694005
/-- `6940.06` IMPORT_REFUSED. -/
abbrev IMPORT_REFUSED : Nat := 0x694006
/-- `6940.07` DELETED. -/
abbrev DELETED : Nat := 0x694007
/-- `6940.08` CACHE_ECC. -/
abbrev CACHE_ECC : Nat := 0x694008
/-- `6940.09` LANYARD_ERRORS. -/
abbrev LANYARD_ERRORS : Nat := 0x694009
/-- `7000.01` STAG_TPID. -/
abbrev STAG_TPID : Nat := 0x700001
/-- `7000.02` STAG_ALT_TPID. -/
abbrev STAG_ALT_TPID : Nat := 0x700002
/-- `7000.03` VXLAN_PORT. -/
abbrev VXLAN_PORT : Nat := 0x700003
/-- `7000.04` OPAQUE_NODES. -/
abbrev OPAQUE_NODES : Nat := 0x700004
/-- `7000.05` DEPTH_POLICY. -/
abbrev DEPTH_POLICY : Nat := 0x700005
/-- `7000.06` LEN_MIRROR. -/
abbrev LEN_MIRROR : Nat := 0x700006
/-- `7001.01` CLASS_MAP. -/
abbrev CLASS_MAP : Nat := 0x700101
/-- `7001.02` PCP_TO_CLASS. -/
abbrev PCP_TO_CLASS : Nat := 0x700102
/-- `7003.01` FILTERS. -/
abbrev FILTERS : Nat := 0x700301
/-- `7004.01` NEXT_HOPS. -/
abbrev NEXT_HOPS : Nat := 0x700401
/-- `7004.02` TUNNEL_TEMPLATES. -/
abbrev TUNNEL_TEMPLATES : Nat := 0x700402
/-- `7004.03` HITCH_NEXT_HOP. -/
abbrev HITCH_NEXT_HOP : Nat := 0x700403
/-- `7004.04` DEFAULT_UPLINK_NEXT_HOP. -/
abbrev DEFAULT_UPLINK_NEXT_HOP : Nat := 0x700404
/-- `7010.01` RULE_INDEX. -/
abbrev RULE_INDEX : Nat := 0x701001
/-- `7010.02` RULE_DATA. -/
abbrev RULE_DATA : Nat := 0x701002
/-- `7010.03` RULE_COMMAND. -/
abbrev RULE_COMMAND : Nat := 0x701003
/-- `7010.04` RULE_RESULT. -/
abbrev RULE_RESULT : Nat := 0x701004
/-- `7010.05` RULE_VALID_NOW. -/
abbrev RULE_VALID_NOW : Nat := 0x701005
/-- `7010.06` RULES_VALID. -/
abbrev RULES_VALID : Nat := 0x701006
/-- `7010.07` RULE_TABLE. -/
abbrev RULE_TABLE : Nat := 0x701007
/-- `7011.01` RULE_HITS. -/
abbrev RULE_HITS : Nat := 0x701101
/-- `7011.02` FILTER_HITS. -/
abbrev FILTER_HITS : Nat := 0x701102
/-- `7020.01` EXCEPTION_FLOW. -/
abbrev EXCEPTION_FLOW : Nat := 0x702001
/-- `7020.02` EXCEPTION_MAX_KIB. -/
abbrev EXCEPTION_MAX_KIB : Nat := 0x702002
/-- `7030.01` HOST_RING_BASE. -/
abbrev HOST_RING_BASE : Nat := 0x703001
/-- `7030.02` HOST_RING_SIZE. -/
abbrev HOST_RING_SIZE : Nat := 0x703002
/-- `7030.03` HOST_TAIL. -/
abbrev HOST_TAIL : Nat := 0x703003
/-- `7030.04` HOST_HEAD. -/
abbrev HOST_HEAD : Nat := 0x703004
/-- `7040.01` FILTER_DROPPED. -/
abbrev FILTER_DROPPED : Nat := 0x704001
/-- `7040.02` DEPTH_EXCEEDED. -/
abbrev DEPTH_EXCEEDED : Nat := 0x704002
/-- `7040.03` LEN_ZERO. -/
abbrev LEN_ZERO : Nat := 0x704003
/-- `7040.04` LEN_CONFLICT. -/
abbrev LEN_CONFLICT : Nat := 0x704004
/-- `7040.05` MIRROR_DROPPED. -/
abbrev MIRROR_DROPPED : Nat := 0x704005
/-- `7040.06` RULE_DROPPED. -/
abbrev RULE_DROPPED : Nat := 0x704006
/-- `7040.07` RADIO_NOT_IPV6. -/
abbrev RADIO_NOT_IPV6 : Nat := 0x704007
/-- `7040.08` NO_ROUTE. -/
abbrev NO_ROUTE : Nat := 0x704008
/-- `7040.09` C0_NO_HITCH. -/
abbrev C0_NO_HITCH : Nat := 0x704009
/-- `7040.0A` C0_HINT. -/
abbrev C0_HINT : Nat := 0x70400A
/-- `7040.0B` C0_TOO_LONG. -/
abbrev C0_TOO_LONG : Nat := 0x70400B
/-- `7040.0C` RADIO_OVERSIZE. -/
abbrev RADIO_OVERSIZE : Nat := 0x70400C
/-- `7040.0D` C0_NO_NEXT_HOP. -/
abbrev C0_NO_NEXT_HOP : Nat := 0x70400D
/-- `7040.0E` C0_QUEUE_REFUSED. -/
abbrev C0_QUEUE_REFUSED : Nat := 0x70400E
/-- `7040.0F` ENCAP_FAULT. -/
abbrev ENCAP_FAULT : Nat := 0x70400F
/-- `7040.10` HOP_LIMIT. -/
abbrev HOP_LIMIT : Nat := 0x704010
/-- `7040.11` NO_LINK. -/
abbrev NO_LINK : Nat := 0x704011
/-- `7040.12` NO_NEXT_HOP. -/
abbrev NO_NEXT_HOP : Nat := 0x704012
/-- `7040.13` QUEUE_DISABLED. -/
abbrev QUEUE_DISABLED : Nat := 0x704013
/-- `7040.14` EXCEPTION_DELIVERED. -/
abbrev EXCEPTION_DELIVERED : Nat := 0x704014
/-- `7040.15` EXCEPTION_DROPPED. -/
abbrev EXCEPTION_DROPPED : Nat := 0x704015
/-- `7040.16` HOST_REFUSED. -/
abbrev HOST_REFUSED : Nat := 0x704016
/-- `7040.17` RADIO_HANDED. -/
abbrev RADIO_HANDED : Nat := 0x704017
/-- `7100.01` MODE. -/
abbrev MODE (p : Nat) : Nat := 0x710001 + p * 256
/-- `7100.02` FEC. -/
abbrev FEC (p : Nat) : Nat := 0x710002 + p * 256
/-- `7100.03` MAX_FRAME. -/
abbrev MAX_FRAME (p : Nat) : Nat := 0x710003 + p * 256
/-- `7100.04` PORT_MAC. -/
abbrev PORT_MAC (p : Nat) : Nat := 0x710004 + p * 256
/-- `7100.05` PFC_ENABLE. -/
abbrev PFC_ENABLE (p : Nat) : Nat := 0x710005 + p * 256
/-- `7100.06` PAUSE_ACCEPT. -/
abbrev PAUSE_ACCEPT (p : Nat) : Nat := 0x710006 + p * 256
/-- `7100.07` AN_ENABLE. -/
abbrev AN_ENABLE (p : Nat) : Nat := 0x710007 + p * 256
/-- `7100.08` OAM_ENABLE. -/
abbrev OAM_ENABLE (p : Nat) : Nat := 0x710008 + p * 256
/-- `7110.01` LINK. -/
abbrev LINK (p : Nat) : Nat := 0x711001 + p * 256
/-- `7110.02` RATE_MBPS. -/
abbrev RATE_MBPS (p : Nat) : Nat := 0x711002 + p * 256
/-- `7110.03` PAUSED. -/
abbrev PAUSED (p : Nat) : Nat := 0x711003 + p * 256
/-- `7110.04` PORT_EVENTS. -/
abbrev PORT_EVENTS (p : Nat) : Nat := 0x711004 + p * 256
/-- `7110.05` GATES. -/
abbrev GATES (p : Nat) : Nat := 0x711005 + p * 256
/-- `7110.06` WINDOW. -/
abbrev WINDOW (p : Nat) : Nat := 0x711006 + p * 256
/-- `7140.01` RX_FRAMES. -/
abbrev RX_FRAMES (p : Nat) : Nat := 0x714001 + p * 256
/-- `7140.02` RX_OCTETS. -/
abbrev RX_OCTETS (p : Nat) : Nat := 0x714002 + p * 256
/-- `7140.03` RX_RUNT. -/
abbrev RX_RUNT (p : Nat) : Nat := 0x714003 + p * 256
/-- `7140.04` RX_FCS_ERR. -/
abbrev RX_FCS_ERR (p : Nat) : Nat := 0x714004 + p * 256
/-- `7140.05` RX_JABBER. -/
abbrev RX_JABBER (p : Nat) : Nat := 0x714005 + p * 256
/-- `7140.06` RX_OVERSIZE. -/
abbrev RX_OVERSIZE (p : Nat) : Nat := 0x714006 + p * 256
/-- `7140.07` TX_FRAMES. -/
abbrev TX_FRAMES (p : Nat) : Nat := 0x714007 + p * 256
/-- `7140.08` TX_OCTETS. -/
abbrev TX_OCTETS (p : Nat) : Nat := 0x714008 + p * 256
/-- `7140.09` TX_TRUNCATED. -/
abbrev TX_TRUNCATED (p : Nat) : Nat := 0x714009 + p * 256
/-- `7140.0A` PAUSE_IGNORED. -/
abbrev PAUSE_IGNORED (p : Nat) : Nat := 0x71400A + p * 256
/-- `7140.0B` MAC_CONTROL_DROPPED. -/
abbrev MAC_CONTROL_DROPPED (p : Nat) : Nat := 0x71400B + p * 256
/-- `7140.0C` OAM_UNSUPPORTED. -/
abbrev OAM_UNSUPPORTED (p : Nat) : Nat := 0x71400C + p * 256
/-- `7140.0D` TX_CUT. -/
abbrev PORT_TX_CUT (p : Nat) : Nat := 0x71400D + p * 256
/-- `7140.0E` RX_DISCARDED_RESTART. -/
abbrev RX_DISCARDED_RESTART (p : Nat) : Nat := 0x71400E + p * 256
/-- `7140.0F` PAUSED_TK. -/
abbrev PAUSED_TK (p : Nat) : Nat := 0x71400F + p * 256
/-- `7140.10` PFC_RX. -/
abbrev PFC_RX (p : Nat) : Nat := 0x714010 + p * 256
/-- `7140.11` FEC_CORRECTED. -/
abbrev FEC_CORRECTED (p : Nat) : Nat := 0x714011 + p * 256
/-- `7140.12` FEC_UNCORRECTED. -/
abbrev FEC_UNCORRECTED (p : Nat) : Nat := 0x714012 + p * 256
/-- `7140.13` LINK_DOWNS. -/
abbrev LINK_DOWNS (p : Nat) : Nat := 0x714013 + p * 256
/-- `7140.14` AN_FAIL. -/
abbrev AN_FAIL (p : Nat) : Nat := 0x714014 + p * 256
/-- `7200.01` QUEUES. -/
abbrev QUEUES (p : Nat) : Nat := 0x720001 + p * 256
/-- `7210.01` QUEUE_DEPTH. -/
abbrev QUEUE_DEPTH (p : Nat) : Nat := 0x721001 + p * 256
/-- `7210.02` SHAPER_TOKENS. -/
abbrev SHAPER_TOKENS (p : Nat) : Nat := 0x721002 + p * 256
/-- `7240.01` QUEUE_COUNTS. -/
abbrev QUEUE_COUNTS (p : Nat) : Nat := 0x724001 + p * 256
/-- `7800.01` TIME_STATE. -/
abbrev TIME_STATE : Nat := 0x780001
/-- `7800.02` SOURCE_NOW. -/
abbrev SOURCE_NOW : Nat := 0x780002
/-- `7800.03` TIME_NOW. -/
abbrev TIME_NOW : Nat := 0x780003
/-- `7800.04` OFFSET_NS. -/
abbrev OFFSET_NS : Nat := 0x780004
/-- `7800.05` TRIM_CPPB. -/
abbrev TRIM_CPPB : Nat := 0x780005
/-- `7800.06` HOLDOVER_QPPM. -/
abbrev HOLDOVER_QPPM : Nat := 0x780006
/-- `7800.07` HOLDOVER_ERR_NS. -/
abbrev HOLDOVER_ERR_NS : Nat := 0x780007
/-- `7800.08` TIME_EVENTS. -/
abbrev TIME_EVENTS : Nat := 0x780008
/-- `7800.09` LAY_NS32. -/
abbrev LAY_NS32 : Nat := 0x780009
/-- `7800.0A` SLOT_REF. -/
abbrev SLOT_REF : Nat := 0x78000A
/-- `7800.0B` ASN_NOW. -/
abbrev ASN_NOW : Nat := 0x78000B
/-- `7801.01` SOURCE_ORDER. -/
abbrev SOURCE_ORDER : Nat := 0x780101
/-- `7801.02` SWITCH_HOLD_S. -/
abbrev SWITCH_HOLD_S : Nat := 0x780102
/-- `7801.03` LOCK_NS. -/
abbrev LOCK_NS : Nat := 0x780103
/-- `7801.04` LOCK_SAMPLES. -/
abbrev LOCK_SAMPLES : Nat := 0x780104
/-- `7801.05` UNLOCK_NS. -/
abbrev UNLOCK_NS : Nat := 0x780105
/-- `7801.06` STEP_NS. -/
abbrev STEP_NS : Nat := 0x780106
/-- `7801.07` SLEW_PPB. -/
abbrev SLEW_PPB : Nat := 0x780107
/-- `7801.08` LOOP_TC_S. -/
abbrev LOOP_TC_S : Nat := 0x780108
/-- `7801.09` OSC_STABILITY_PPB. -/
abbrev OSC_STABILITY_PPB : Nat := 0x780109
/-- `7801.0A` HOLDOVER_MAX_NS. -/
abbrev HOLDOVER_MAX_NS : Nat := 0x78010A
/-- `7801.0B` RESERVED. -/
abbrev RESERVED : Nat := 0x78010B
/-- `7801.0C` ANCHOR_ASN. -/
abbrev ANCHOR_ASN : Nat := 0x78010C
/-- `7801.0D` ANCHOR_TIME. -/
abbrev ANCHOR_TIME : Nat := 0x78010D
/-- `7801.0E` PARENT_DELAY_NS. -/
abbrev PARENT_DELAY_NS : Nat := 0x78010E
/-- `7802.01` CLOCK_ROLE. -/
abbrev CLOCK_ROLE : Nat := 0x780201
/-- `7802.02` DOMAIN. -/
abbrev DOMAIN : Nat := 0x780202
/-- `7802.03` PRIORITY1. -/
abbrev PRIORITY1 : Nat := 0x780203
/-- `7802.04` PRIORITY2. -/
abbrev PRIORITY2 : Nat := 0x780204
/-- `7802.05` SLAVE_ONLY. -/
abbrev SLAVE_ONLY : Nat := 0x780205
/-- `7802.06` UTC_OFFSET_S. -/
abbrev UTC_OFFSET_S : Nat := 0x780206
/-- `7803.01` GM_IDENTITY. -/
abbrev GM_IDENTITY : Nat := 0x780301
/-- `7803.02` STEPS_REMOVED. -/
abbrev STEPS_REMOVED : Nat := 0x780302
/-- `7803.03` CLOCK_CLASS. -/
abbrev CLOCK_CLASS : Nat := 0x780303
/-- `7803.04` MEAN_PATH_NS. -/
abbrev MEAN_PATH_NS : Nat := 0x780304
/-- `7803.05` SLAVE_PORT. -/
abbrev SLAVE_PORT : Nat := 0x780305
/-- `7810.01` ENABLE. -/
abbrev ENABLE (p : Nat) : Nat := 0x781001 + p * 256
/-- `7810.02` TRANSPORT. -/
abbrev TRANSPORT (p : Nat) : Nat := 0x781002 + p * 256
/-- `7810.03` DELAY_MECH. -/
abbrev DELAY_MECH (p : Nat) : Nat := 0x781003 + p * 256
/-- `7810.04` ONE_STEP. -/
abbrev ONE_STEP (p : Nat) : Nat := 0x781004 + p * 256
/-- `7810.05` LOG_SYNC. -/
abbrev LOG_SYNC (p : Nat) : Nat := 0x781005 + p * 256
/-- `7810.06` LOG_ANNOUNCE. -/
abbrev LOG_ANNOUNCE (p : Nat) : Nat := 0x781006 + p * 256
/-- `7810.07` ANNOUNCE_TIMEOUT. -/
abbrev ANNOUNCE_TIMEOUT (p : Nat) : Nat := 0x781007 + p * 256
/-- `7810.08` CABLE_ASYM_NS. -/
abbrev CABLE_ASYM_NS (p : Nat) : Nat := 0x781008 + p * 256
/-- `7810.09` PTP_QUEUE. -/
abbrev PTP_QUEUE (p : Nat) : Nat := 0x781009 + p * 256
/-- `7810.0A` PTP_IPV4. -/
abbrev PTP_IPV4 (p : Nat) : Nat := 0x78100A + p * 256
/-- `7810.0B` PTP_IPV6. -/
abbrev PTP_IPV6 (p : Nat) : Nat := 0x78100B + p * 256
/-- `7810.0C` PTP_VID. -/
abbrev PTP_VID (p : Nat) : Nat := 0x78100C + p * 256
/-- `7820.01` PORT_STATE. -/
abbrev PORT_STATE (p : Nat) : Nat := 0x782001 + p * 256
/-- `7820.02` TX_PATH_NS. -/
abbrev TX_PATH_NS (p : Nat) : Nat := 0x782002 + p * 256
/-- `7820.03` RX_PATH_NS. -/
abbrev RX_PATH_NS (p : Nat) : Nat := 0x782003 + p * 256
/-- `7820.04` PEER_DELAY_NS. -/
abbrev PEER_DELAY_NS (p : Nat) : Nat := 0x782004 + p * 256
/-- `7830.01` TS_HEAD. -/
abbrev TS_HEAD (p : Nat) : Nat := 0x783001 + p * 256
/-- `7830.02` TS_POP. -/
abbrev TS_POP (p : Nat) : Nat := 0x783002 + p * 256
/-- `7830.03` TS_DEPTH. -/
abbrev TS_DEPTH (p : Nat) : Nat := 0x783003 + p * 256
/-- `7830.04` TS_OVERFLOW. -/
abbrev TS_OVERFLOW (p : Nat) : Nat := 0x783004 + p * 256
/-- `7838.01` PPS_ENABLE. -/
abbrev PPS_ENABLE : Nat := 0x783801
/-- `7838.02` PPS_EDGE. -/
abbrev PPS_EDGE : Nat := 0x783802
/-- `7838.03` PPS_CABLE_NS. -/
abbrev PPS_CABLE_NS : Nat := 0x783803
/-- `7838.04` PPS_NEXT_S. -/
abbrev PPS_NEXT_S : Nat := 0x783804
/-- `7838.05` PPS_LAST. -/
abbrev PPS_LAST : Nat := 0x783805
/-- `7840.01` PTP_RX. -/
abbrev PTP_RX (p : Nat) : Nat := 0x784001 + p * 256
/-- `7840.02` PTP_TX. -/
abbrev PTP_TX (p : Nat) : Nat := 0x784002 + p * 256
/-- `7840.03` PTP_TX_DROPPED. -/
abbrev PTP_TX_DROPPED (p : Nat) : Nat := 0x784003 + p * 256
/-- `7840.04` PTP_UNSUPPORTED. -/
abbrev PTP_UNSUPPORTED (p : Nat) : Nat := 0x784004 + p * 256
/-- `7840.05` SYNC_SAMPLES. -/
abbrev SYNC_SAMPLES (p : Nat) : Nat := 0x784005 + p * 256
/-- `7848.01` SOURCE_SWITCHES. -/
abbrev SOURCE_SWITCHES : Nat := 0x784801
/-- `7848.02` HOLDOVER_ENTRIES. -/
abbrev HOLDOVER_ENTRIES : Nat := 0x784802
/-- `7848.03` HOLDOVER_EXPIRIES. -/
abbrev HOLDOVER_EXPIRIES : Nat := 0x784803
/-- `7848.04` STEPS. -/
abbrev STEPS : Nat := 0x784804
/-- `7848.05` GRID_REALIGNS. -/
abbrev GRID_REALIGNS : Nat := 0x784805
/-- `7848.06` ANCHOR_MOVES. -/
abbrev ANCHOR_MOVES : Nat := 0x784806
/-- `7848.07` OUTLIERS. -/
abbrev OUTLIERS : Nat := 0x784807
/-- `7848.08` PPS_REJECTED. -/
abbrev PPS_REJECTED : Nat := 0x784808
/-- `7848.09` PPS_MISSED. -/
abbrev PPS_MISSED : Nat := 0x784809
/-- `8000.01` STEAL_NEAR_NS. -/
abbrev STEAL_NEAR_NS : Nat := 0x800001
/-- `8000.02` STEAL_FAR_NS. -/
abbrev STEAL_FAR_NS : Nat := 0x800002
/-- `8000.03` SERVICE_LIMIT_US. -/
abbrev SERVICE_LIMIT_US : Nat := 0x800003
/-- `8000.04` POOL_FREE. -/
abbrev POOL_FREE : Nat := 0x800004
/-- `8001.01` FLOW_INDEX. -/
abbrev FLOW_INDEX : Nat := 0x800101
/-- `8001.02` FLOW_ENTRY. -/
abbrev FLOW_ENTRY : Nat := 0x800102
/-- `8001.03` FLOW_COMMAND. -/
abbrev FLOW_COMMAND : Nat := 0x800103
/-- `8001.04` FLOW_RESULT. -/
abbrev FLOW_RESULT : Nat := 0x800104
/-- `8001.05` FLOW_STATUS. -/
abbrev FLOW_STATUS : Nat := 0x800105
/-- `8002.01` HART_LOAD. -/
abbrev HART_LOAD : Nat := 0x800201
/-- `8002.02` CLASS_DEPTH. -/
abbrev CLASS_DEPTH : Nat := 0x800202
/-- `8002.03` READY_DEPTH. -/
abbrev READY_DEPTH : Nat := 0x800203
/-- `8003.01` SCHED_EVENTS. -/
abbrev SCHED_EVENTS : Nat := 0x800301
/-- `8040.01` ITEMS_QUEUED. -/
abbrev ITEMS_QUEUED : Nat := 0x804001
/-- `8040.02` ITEMS_DONE. -/
abbrev ITEMS_DONE : Nat := 0x804002
/-- `8040.03` STOLEN. -/
abbrev STOLEN : Nat := 0x804003
/-- `8040.04` REQUEUED. -/
abbrev REQUEUED : Nat := 0x804004
/-- `8040.05` CANCELLED_QUEUED. -/
abbrev CANCELLED_QUEUED : Nat := 0x804005
/-- `8040.06` CANCELLED_IN_SERVICE. -/
abbrev CANCELLED_IN_SERVICE : Nat := 0x804006
/-- `8040.07` FLOW_DISABLED. -/
abbrev FLOW_DISABLED : Nat := 0x804007
/-- `8040.08` FLOW_FULL. -/
abbrev FLOW_FULL : Nat := 0x804008
/-- `8040.09` POOL_FULL. -/
abbrev POOL_FULL : Nat := 0x804009
/-- `8040.0A` DONE_INVALID. -/
abbrev DONE_INVALID : Nat := 0x80400A
/-- `8040.0B` DISCARDED_AFTER_CANCEL. -/
abbrev DISCARDED_AFTER_CANCEL : Nat := 0x80400B
/-- `8040.0C` WINDOW_DEFERRED. -/
abbrev WINDOW_DEFERRED : Nat := 0x80400C
/-- `8040.0D` WINDOW_OVERRUN. -/
abbrev WINDOW_OVERRUN : Nat := 0x80400D
/-- `8040.0E` HOME_MOVES. -/
abbrev HOME_MOVES : Nat := 0x80400E
/-- `8040.0F` HITCH_DROPPED. -/
abbrev HITCH_DROPPED : Nat := 0x80400F
/-- `8040.10` C0_WINDOWS. -/
abbrev C0_WINDOWS : Nat := 0x804010
/-- `8040.11` SERVICE_LIMIT. -/
abbrev SERVICE_LIMIT : Nat := 0x804011
/-- `8100.01` HART_STATE. -/
abbrev HART_STATE : Nat := 0x810001
/-- `8100.02` HART_ENTRY. -/
abbrev HART_ENTRY : Nat := 0x810002
/-- `8100.03` HART_START. -/
abbrev HART_START : Nat := 0x810003
/-- `8100.04` WIN_VECTOR. -/
abbrev WIN_VECTOR : Nat := 0x810004
/-- `8100.05` BOOT_STATUS. -/
abbrev BOOT_STATUS : Nat := 0x810005
/-- `8100.06` WDT_PERIOD_MS. -/
abbrev WDT_PERIOD_MS : Nat := 0x810006
/-- `8100.07` WDT_KICK. -/
abbrev WDT_KICK : Nat := 0x810007
/-- `8100.08` WDT_REMAIN_MS. -/
abbrev WDT_REMAIN_MS : Nat := 0x810008
/-- `8100.09` RECOVERY_IMAGE. -/
abbrev RECOVERY_IMAGE : Nat := 0x810009
/-- `8140.01` CACHE_CORRECTED. -/
abbrev CACHE_CORRECTED : Nat := 0x814001
/-- `8140.02` CACHE_UNCORRECTED. -/
abbrev CACHE_UNCORRECTED : Nat := 0x814002
/-- `8140.03` WINDOW_ABANDONED. -/
abbrev WINDOW_ABANDONED : Nat := 0x814003
/-- `8140.04` WDT_PRETIMEOUTS. -/
abbrev WDT_PRETIMEOUTS : Nat := 0x814004
/-- `9000.01` PAN_POWER. -/
abbrev PAN_POWER : Nat := 0x900001
/-- `9000.02` PAN_RETAIN_REQ. -/
abbrev PAN_RETAIN_REQ : Nat := 0x900002
/-- `9000.03` SCRUB_PERIOD_S. -/
abbrev MEM_SCRUB_PERIOD_S : Nat := 0x900003
/-- `9000.04` POISON_SYNDROME. -/
abbrev POISON_SYNDROME : Nat := 0x900004
/-- `9000.05` ECC_MATRIX. -/
abbrev ECC_MATRIX : Nat := 0x900005
/-- `9001.01` PAN_CE. -/
abbrev PAN_CE : Nat := 0x900101
/-- `9001.02` PAN_UE. -/
abbrev PAN_UE : Nat := 0x900102
/-- `9003.01` ERROR_LOG. -/
abbrev ERROR_LOG : Nat := 0x900301
/-- `9003.02` ERROR_STATUS. -/
abbrev ERROR_STATUS : Nat := 0x900302
/-- `9003.03` ERROR_COUNT. -/
abbrev ERROR_COUNT : Nat := 0x900303
/-- `9003.04` UE_CONSUMED. -/
abbrev UE_CONSUMED : Nat := 0x900304
/-- `9100.01` DEVICE_WIDTH. -/
abbrev DEVICE_WIDTH (c : Nat) : Nat := 0x910001 + c * 65536
/-- `9100.02` DENSITY. -/
abbrev DENSITY (c : Nat) : Nat := 0x910002 + c * 65536
/-- `9100.03` RANKS. -/
abbrev RANKS (c : Nat) : Nat := 0x910003 + c * 65536
/-- `9100.04` TIMING_PS. -/
abbrev TIMING_PS (c : Nat) : Nat := 0x910004 + c * 65536
/-- `9101.01` CH_COMMAND. -/
abbrev CH_COMMAND (c : Nat) : Nat := 0x910101 + c * 65536
/-- `9101.02` CH_RESULT. -/
abbrev CH_RESULT (c : Nat) : Nat := 0x910102 + c * 65536
/-- `9101.03` CH_STATE. -/
abbrev CH_STATE (c : Nat) : Nat := 0x910103 + c * 65536
/-- `9101.04` RATE_NOW. -/
abbrev RATE_NOW (c : Nat) : Nat := 0x910104 + c * 65536
/-- `9101.05` SR_IDLE_NS. -/
abbrev SR_IDLE_NS (c : Nat) : Nat := 0x910105 + c * 65536
/-- `9101.06` ORDER_COMPAT. -/
abbrev ORDER_COMPAT (c : Nat) : Nat := 0x910106 + c * 65536
/-- `9101.07` READ_AGE_NS. -/
abbrev READ_AGE_NS (c : Nat) : Nat := 0x910107 + c * 65536
/-- `9101.08` ZQ_PERIOD_MS. -/
abbrev ZQ_PERIOD_MS (c : Nat) : Nat := 0x910108 + c * 65536
/-- `9101.09` FITTED_BYTES. -/
abbrev FITTED_BYTES (c : Nat) : Nat := 0x910109 + c * 65536
/-- `9101.0A` SCRUB_PERIOD_S. -/
abbrev CH_SCRUB_PERIOD_S (c : Nat) : Nat := 0x91010A + c * 65536
/-- `9102.01` TRAIN_TABLE. -/
abbrev TRAIN_TABLE (c : Nat) : Nat := 0x910201 + c * 65536
/-- `9102.02` EYE_WIDTH. -/
abbrev EYE_WIDTH (c : Nat) : Nat := 0x910202 + c * 65536
/-- `9140.01` READS. -/
abbrev READS (c : Nat) : Nat := 0x914001 + c * 65536
/-- `9140.02` WRITES. -/
abbrev WRITES (c : Nat) : Nat := 0x914002 + c * 65536
/-- `9140.03` CORRECTED. -/
abbrev CORRECTED (c : Nat) : Nat := 0x914003 + c * 65536
/-- `9140.04` UNCORRECTABLE. -/
abbrev UNCORRECTABLE (c : Nat) : Nat := 0x914004 + c * 65536
/-- `9140.05` RMW. -/
abbrev RMW (c : Nat) : Nat := 0x914005 + c * 65536
/-- `9140.06` WQ_DRAINS. -/
abbrev WQ_DRAINS (c : Nat) : Nat := 0x914006 + c * 65536
/-- `9140.07` WQ_FULL_STALLS. -/
abbrev WQ_FULL_STALLS (c : Nat) : Nat := 0x914007 + c * 65536
/-- `9140.08` REFRESHES. -/
abbrev REFRESHES (c : Nat) : Nat := 0x914008 + c * 65536
/-- `9140.09` MAINT_WINDOWS. -/
abbrev MAINT_WINDOWS (c : Nat) : Nat := 0x914009 + c * 65536
/-- `9140.0A` COMPAT_HOLDS. -/
abbrev COMPAT_HOLDS (c : Nat) : Nat := 0x91400A + c * 65536
/-- `9140.0B` ZQ_RUNS. -/
abbrev ZQ_RUNS (c : Nat) : Nat := 0x91400B + c * 65536
/-- `9140.0C` REFRESH_SKIPPED. -/
abbrev REFRESH_SKIPPED (c : Nat) : Nat := 0x91400C + c * 65536
/-- `9140.0D` ZQ_OVERDUE. -/
abbrev ZQ_OVERDUE (c : Nat) : Nat := 0x91400D + c * 65536
/-- `9140.0E` SR_ENTRIES. -/
abbrev SR_ENTRIES (c : Nat) : Nat := 0x91400E + c * 65536
/-- `9140.0F` SR_LATE_REQUEST. -/
abbrev SR_LATE_REQUEST (c : Nat) : Nat := 0x91400F + c * 65536
/-- `9140.10` FREQ_CHANGES. -/
abbrev FREQ_CHANGES (c : Nat) : Nat := 0x914010 + c * 65536
/-- `9140.11` BUSY_TRAINING. -/
abbrev BUSY_TRAINING (c : Nat) : Nat := 0x914011 + c * 65536
/-- `9140.12` TRAIN_ABORTED. -/
abbrev TRAIN_ABORTED (c : Nat) : Nat := 0x914012 + c * 65536
/-- `9140.13` KEY_READS_HELD. -/
abbrev KEY_READS_HELD (c : Nat) : Nat := 0x914013 + c * 65536
/-- `9140.14` INIT_FAIL. -/
abbrev INIT_FAIL (c : Nat) : Nat := 0x914014 + c * 65536
/-- `9300.01` TRAIN_COMMAND. -/
abbrev TRAIN_COMMAND : Nat := 0x930001
/-- `9300.02` TRAIN_STATUS. -/
abbrev TRAIN_STATUS : Nat := 0x930002
/-- `9300.03` TRAIN_REFUSE. -/
abbrev TRAIN_REFUSE : Nat := 0x930003
/-- `9300.04` TRAIN_RUNS. -/
abbrev TRAIN_RUNS : Nat := 0x930004
/-- `9300.05` PATTERN_KIND. -/
abbrev PATTERN_KIND : Nat := 0x930005
/-- `9300.06` PATTERN. -/
abbrev PATTERN : Nat := 0x930006
/-- `9340.01` TRAIN_STEPS. -/
abbrev TRAIN_STEPS : Nat := 0x934001
/-- `9340.02` TRAIN_FAILS. -/
abbrev TRAIN_FAILS : Nat := 0x934002
/-- `9340.03` TRAIN_RERUNS. -/
abbrev TRAIN_RERUNS : Nat := 0x934003
/-- `A000.01` SNAP_COMMAND. -/
abbrev SNAP_COMMAND : Nat := 0xA00001
/-- `A000.02` SNAP_EVERY_SLOTS. -/
abbrev SNAP_EVERY_SLOTS : Nat := 0xA00002
/-- `A000.03` EXPORT_PERIOD_MS. -/
abbrev EXPORT_PERIOD_MS : Nat := 0xA00003
/-- `A001.01` SELECT. -/
abbrev SELECT (n : Nat) : Nat := 0xA00101 + n * 1
/-- `A002.01` COUNT. -/
abbrev COUNT (n : Nat) : Nat := 0xA00201 + n * 1
/-- `A003.01` HOLD. -/
abbrev HOLD : Nat := 0xA00301
/-- `A003.02` HOLD_INFO. -/
abbrev HOLD_INFO : Nat := 0xA00302
/-- `A004.01` COUNTER_EVENTS. -/
abbrev COUNTER_EVENTS : Nat := 0xA00401
/-- `A004.02` OVF_MAP. -/
abbrev OVF_MAP : Nat := 0xA00402
/-- `A005.01` EXPORT_RING. -/
abbrev EXPORT_RING : Nat := 0xA00501
/-- `A005.02` EXPORT_SKIPPED. -/
abbrev EXPORT_SKIPPED : Nat := 0xA00502
/-- `A100.01` TEST_LOG. -/
abbrev TEST_LOG : Nat := 0xA10001
/-- `A100.02` TEST_EVENTS. -/
abbrev TEST_EVENTS : Nat := 0xA10002
/-- `A100.03` LAST_TESTED. -/
abbrev LAST_TESTED : Nat := 0xA10003
/-- `A101.01` TEST_REQUEST. -/
abbrev TEST_REQUEST : Nat := 0xA10101
/-- `A101.02` REQUEST_RESULT. -/
abbrev REQUEST_RESULT : Nat := 0xA10102
/-- `A101.03` TEST_PROGRAMS. -/
abbrev TEST_PROGRAMS : Nat := 0xA10103
/-- `A140.01` RUNS. -/
abbrev RUNS : Nat := 0xA14001
/-- `A140.02` PASSES. -/
abbrev PASSES : Nat := 0xA14002
/-- `A140.03` FAILS. -/
abbrev FAILS : Nat := 0xA14003
/-- `A140.04` INCOMPLETE. -/
abbrev INCOMPLETE : Nat := 0xA14004
/-- `A140.05` CANCELLED. -/
abbrev TEST_CANCELLED_A140 : Nat := 0xA14005
/-- `A140.06` SKIPPED. -/
abbrev SKIPPED : Nat := 0xA14006

end Sys2Proof.Machine.O
end

