-- ==== Sys2Proof/Machine/State.lean ====
section
/-!
DEFINITION. The state of the block: the queue of waiting commands, the clock, the object dictionary, and one record for each
chapter's parts. Plain data. Tables list what differs from reset: an object, resource or entry that a table does not list is as
reset leaves it.
-/
namespace Sys2Proof.Machine

/-- Why a step can stop with a fault. Every command of this block ends in a next state; the one fault is for a state that no
run from reset reaches. -/
inductive Fault where
  /-- Raised by no meaning of this model; kept so that the type is not empty. Safe: nothing raises it. -/
  | none
deriving DecidableEq, Repr

/-- Why a command can be refused. -/
inductive Refusal where
  /-- Raised by the arm of a command that has no meaning yet. Safe: the run stops. -/
  | notModelled (mnemonic : String)
deriving DecidableEq, Repr

/-- The state. -/
structure State where
  /-- The commands that are waiting, first in, first out. -/
  pending : List Instr
  /-- The lay tick reached. -/
  now : Tick
  /-- The tick of the last release of RESET_N, from which uptime counts. -/
  resetAt : Tick
  /-- Values of objects by key (index * 256 + sub-index); an object not listed holds its default (R5). -/
  objs : List (Nat × Nat)
  /-- The objects as they stood at the last SLOW edge (R60). -/
  objsEdge : List (Nat × Nat)
  /-- Lengths in octets of variable-length objects, 0 where not listed. -/
  lens : List (Nat × Nat)
  /-- Shadow values of RWS objects that differ from the active ones (R50). -/
  shadow : List (Nat × Nat)
  /-- Lengths of variable-length shadow values. -/
  shadowLens : List (Nat × Nat)
  /-- Values of objects held per requester: requester, key, value. -/
  preq : List (Req × Nat × Nat)
  /-- Ownership of the shadow groups by record index (R53). -/
  groups : List (Nat × Group)
  /-- What the last command made leave the block. -/
  out : List OutEvent
  /-- The MODEL's own field: draws of open values and random numbers so far. -/
  freeCtr : Nat
  /-- The dictionary engine and its transports (02). -/
  jot : Jot
  /-- The lay engine (03). -/
  lay : Lay
  /-- Placement and the splicer (04). -/
  plc : Place
  /-- The transceivers (05). -/
  radio : Radio
  /-- The rake, the lanes and the ply links (06). -/
  rx : Rx
  /-- The air MAC (07). -/
  mac : Mac
  /-- The cipher bank and the key store (08). -/
  cph : Cph
  /-- The router and the ports (09). -/
  eth : Eth
  /-- The time unit (10). -/
  tim : Tim
  /-- The cores and the task scheduler (11). -/
  cores : Cores
  /-- The brine pool and the DRAM channels (12). -/
  mem : Mem
  /-- The power controller and the supply monitor (13). -/
  pwr : Power
  /-- Counters and self-test (14). -/
  ctr : Ctr
  /-- Non-volatile storage (15). -/
  otp : Otp
  /-- Pins beside the objects (16). -/
  pins : Pins
deriving DecidableEq, Repr

/-- The dictionary engine after reset: no transfer, no client, no session (R81), empty logs. -/
def Jot.reset : Jot :=
  { xfers := [], busOff := false, clients := [], heartbeatAt := 0, csr := [], cells := [], moves := [], slow := [], faults := [],
    svc := { holder := none, lastReq := 0, challenges := [], denials := 0, lockUntil := none, lockLen := 0 } }

/-- The lay engine after reset: both banks empty, bank 0 standby, the boot lay (R11, §5), the conditions TIME and PORT_DOWN not met (R365, R320). -/
def Lay.reset : Lay :=
  { bank0 := { words := [], written := 0 }, bank1 := { words := [], written := 0 }, standby := 0, verifyAt := none,
    armedAt := 0, stopPending := false, asn := 0, slotAt := 0, slotEnd := none, presented := [], res := [], hitches := [], stopped := [],
    conds := [(4, 0), (3, 0), (3, 1), (3, 2), (3, 3)].map (fun c =>
      { cause := c.1, scope := c.2, start := 0, stop := none }),
    ends := [], skipStage := 0 }

/-- Placement after reset: nothing mapped, placed or journaled. -/
def Place.reset : Place :=
  { map := [], ref := [], probation := [], journal := [], testing := [], unmapped := [], loc := [], placed := [], moved := [], migrations := [],
    decisions := [], hotRegions := [], regionTemp := [], panErrors := [], panEmptyAt := [], loadAt := 0,
    emptiedAt := none, evac := [], tested := [], pinRun := [], pinStandby := [], ineligible := [],
    leaving := [] }

/-- A transceiver in OFF (R162); its die temperature reads 0 until a reading comes (`4000.0A`). -/
def Trx.reset : Trx :=
  { locked := false, tune := none, seeking := false, losses := (0, 0), rxSingle := false, rxOpen := false, txOpen := false,
    rxSilent := false, streamsAt := none, blocked := false, gainStep := 0, agcPower := none, tx := none, swUntil := 0,
    paUntil := 0,
    tuner := { measuring := false, bank := 0, up := true, trial := none, lastRl := none, preset := 0, backoff := false },
    faults := 0, dieTemp := 0, calQueue := [], calRun := none, gapEnd := 0, rxIqAt := none, rxIqTemp := 0,
    calPeriodAt := 0, corr := [], corrNext := [], planNext := none }

/-- The radios after reset, with the region profile built in until OTP is read (R197). -/
def Radio.reset : Radio :=
  { trxs := [], profile := 0, profileNext := none, dutySec := 0, dutyAt := 0, duty := [] }

/-- The receive path after reset. -/
def Rx.reset : Rx := { lanes := [], back := [], ghosts := [], gangsOut := [], quality := [], links := [] }

/-- The air MAC after reset: no sensor, no datagram. -/
def Mac.reset : Mac :=
  { sensors := [], lost := [], updates := [], up := [], acks := [], ackUp := [], ackGone := [], down := [], flights := [], backoff := [],
    reasm := [], ring := [], nextNum := 0, nextId := 0, join := (0, 0), heard := [], ply := [], plyUp := [], ebSeen := none, ebMissed := [],
    listenSince := 0, adopt := none }

/-- The cipher bank and key store after reset: no job, no key, bank 16 of the cache spare (R304). -/
def Cph.reset : Cph :=
  { jobs := [], nextJob := 0, reserve := [], preempt := [], poisoned := [], zeroed := [], notes := [], cache := [], fetches := [],
    pinned := [], pinWait := [], spareBank := some 16, bankTested := [], bankTest := none, importLeft := [], importPoint := [], rewrapFrom := none }

/-- A port after reset. -/
def Port.reset : Port :=
  { queues := [], tx := none, freeAt := 0, pauses := [], heldAt := [], tokens := [], closes := none, oamRemote := [],
    restartAt := 0 }

/-- The router after reset: no rule, no frame. -/
def Eth.reset : Eth :=
  { ports := [], rules := [], parse := [], excBufs := [], nextNum := 0, hostSeq := 0, ident := [], oamAt := 0, past := [] }

/-- A source that is not qualified. -/
def TimeSource.reset : TimeSource := { qualified := false, qualAt := 0, progress := 0, last := 0 }

/-- A PTP port after reset. -/
def PtpPort.reset : PtpPort :=
  { foreign := [], master := 0, since := 0, syncAt := 0, announceAt := 0, reqAt := 0, syncSeq := 0, announceSeq := 0, reqSeq := 0,
    sync := none, last := none, req := none, presp := none, delay := none }

/-- The time unit after reset: network time zero (R358, VDD_AON newly applied), FREERUN. -/
def Tim.reset : Tim :=
  { base := 0, coarse := none, sources := [], good := 0, bad := 0, lastGood := 0, growFrom := none, ppsLock := false,
    ppsAt := none, ppsCount := false, ppsRow := 0, ppsNext := none, ptp := [], tsq := [] }

/-- A hart before its start (R380): compare register all ones (R383), no interrupt, no window. -/
def Hart.reset : Hart :=
  { cmp := 2 ^ 64 - 1, cmpAt := 0, went := false, sip := 0, fired := 0, pc := 0, priv := 3, a0 := 0, a1 := 0, workIrqEn := false, enqArg := 0, enqResult := 0,
    getArg := 0, cancelSeq := 0, cancelPending := false, winEpc := 0, winStatus := 0, winInfo := 0, window := none,
    deferred := none, back := 0, busy := 0, done := 0, waitSum := 0, waitCnt := 0, waitMax := 0, load := 0 }

/-- The core complex after reset. -/
def Cores.reset : Cores :=
  { harts := [], plic := { prio := [], enable := [], threshold := [], claimed := [] }, flows := [], homeRest := 0, queued := [], serving := [], kept := [], nextSeq := 1, badLines := [], c0Flows := [], loadAt := 0,
    wdtAt := 0, wdtWarned := false, wdtIrq := false }

/-- A DRAM rank without window or calibration. -/
def RankState.reset : RankState := { refreshOpen := false, maintUntil := none, lastZq := 0, overdue := 0 }

/-- A DRAM channel after reset: OFF, nothing trained. -/
def Chan.reset : Chan :=
  { back := 3, idle := false, ranks := [RankState.reset, RankState.reset], training := none, results := [], inForce := [],
    toForce := [], eyes := [], rq := [], wq := [], input := [], nextSeq := 0, draining := false, rows := [], srAt := 0, change := none,
    lastRequest := 0 }

/-- Memory after reset: nothing listed, so every octet of it reads 0 (R413; for DRAM a DESIGN CHOICE, notes/assumptions/9.md). -/
def Mem.reset : Mem := { cells := [], poison := [], flips := [], wrecked := [], errors := [], scrub := [], chans := [] }

/-- The power controller at the release of RESET_N (R463, R513): every domain but AON is OFF and the restart hold runs. -/
def Power.reset : Power :=
  { parts := [], wakes := [], queue := [], boot := false, relock := false, entering := [], pendingReq := [], idleAt := [], samples := [], pmbus := none,
    pmbusFails := 0, rise := 0, stageAt := 0, stageTk := [0, 0, 0, 0, 0], history := [], s5 := none,
    hold := some { afterS5 := false, since := none }, sleepAt := none, flash := [], xtalFail := false, shallower := false, verifyWaits := [] }

/-- Counters at zero and no test (R469). -/
def Ctr.reset : Ctr :=
  { counts := [], seen := [], ev := [], snapSeq := 0, ring := [], exportAt := 0, log := [], logCount := 0, tests := [], reinit := [],
    last := [] }

/-- OTP as Vilhild ships the device: MANUFACTURE, nothing programmed in the areas that firmware writes (R491, R497). -/
def Otp.reset : Otp := { areas := [], job := none }

/-- The straps low (crystal, single-lane flash, no test mode), RESET_N high, no link on the management port. -/
def Pins.reset : Pins := { powered := true, xtal := false, qspi := false, testEn := false, low := none, mgmtUp := false, starting := none }

/-- The block right after RESET_N is released at power-on: every object at its default but RESET_CAUSE (`1000.0B`), which reports POR,
every domain but AON off, the restart hold running (R463, R513), the queue empty. -/
def State.reset : State :=
  { pending := [], now := 0, resetAt := 0, objs := [(0x10000B, 0x10001)], objsEdge := [], lens := [], shadow := [], shadowLens := [],
    preq := [], groups := [], out := [], freeCtr := 0,
    jot := Jot.reset,
    lay := Lay.reset,
    plc := Place.reset,
    radio := Radio.reset,
    rx := Rx.reset,
    mac := Mac.reset,
    cph := Cph.reset,
    eth := Eth.reset,
    tim := Tim.reset,
    cores := Cores.reset,
    mem := Mem.reset,
    pwr := Power.reset,
    ctr := Ctr.reset,
    otp := Otp.reset,
    pins := Pins.reset }

end Sys2Proof.Machine
end

