-- ==== Sys2Proof/Machine/Ops.lean ====
section
/-!
DEFINITION. The named operations every meaning is built of: the clock, the objects of the dictionary by key, event words,
counters, outputs, the access-fault log, the placement journal, hitch records, the conditions of Table 1.9 and FAULT_N.
-/
namespace Sys2Proof.Machine

/-! ## Time -/

/-- One SLOW period, 31.25 µs, in ticks (R60). -/
def slowTk : Nat := 6250

/-- One millisecond in ticks. -/
def msTk : Nat := 200000

/-- One second in ticks. -/
def secTk : Nat := 200000000

/-- Microseconds since the release of RESET_N. -/
def State.uptimeUs (s : State) : Nat := (s.now - s.resetAt) / 200

/-- Milliseconds since the release of RESET_N (`1000.0A`). -/
def State.uptimeMs (s : State) : Nat := (s.now - s.resetAt) / msTk

/-! ## Objects -/

/-- The index whose row of DictTable describes a record: transceivers and channels repeat 0x100 apart, channel plans and
ports one apart. -/
def baseIndex (i : Nat) : Nat :=
  let hi := i / 256
  if hi = 0x41 ∨ hi = 0x42 then 0x4000 + i % 256
  else if 0x4400 ≤ i ∧ i ≤ 0x4402 then 0x4400
  else if hi = 0x92 then i - 0x100
  else if (hi = 0x71 ∨ hi = 0x72 ∨ hi = 0x78) ∧ i % 16 ≤ 3 ∧ ¬ (hi = 0x78 ∧ i % 256 < 16) then i - i % 16
  else i

/-- The table row of the object with a key. -/
def descOf (k : Nat) : Option ObjDesc :=
  let i := baseIndex (k / 256)
  (dictPage (i / 256)).find? (fun d => d.index == i && d.sub == k % 256)

/-- A MAC address (octet 0 first on the wire and lowest in the number) advanced by `n`. -/
def macPlus (m n : Nat) : Nat := ofOctets (beOctets ((beField (octets m 6) 0 6 + n) % 2 ^ 48) 6)

/-- The default of an object (R5), with the two that depend on the grade and those fixed per device (Config). -/
def dflt (k : Nat) : Nat :=
  if k = O.GRADE then Config.grade
  else if k = O.DIE_REVISION then Config.dieRevision
  else if k = O.SERIAL_NUMBER then Config.serialNumber
  else if k = O.MGMT_MAC then Config.mgmtMac
  else if k = O.PORT_MAC 0 then macPlus Config.mgmtMac 1
  else if k = O.PORT_MAC 1 then macPlus Config.mgmtMac 2
  else if k = O.PORT_MAC 2 then macPlus Config.mgmtMac 3
  else if k = O.PORT_MAC 3 then macPlus Config.mgmtMac 4
  else if k = O.VENDOR_OUI then Config.vendorOui
  else if k = O.ECC_MATRIX then Config.eccMatrix
  else if k = O.EUI64 then Config.eui64
  else if k = O.IMPORT_PUBKEY then publicKey Config.importPrivate
  else if k = O.THERMAL_HIGH_C ∧ Config.grade = 2 then 105
  else if k = O.THERMAL_LOW_C ∧ Config.grade = 2 then 95
  else match descOf k with
    | some d => d.dflt
    | none => 0

/-- The value an object holds. -/
def State.rd (s : State) (k : Nat) : Nat := (look s.objs k).getD (dflt k)

/-- An object's value replaced. -/
def State.wr (s : State) (k v : Nat) : State := { s with objs := put s.objs k v }

/-- The length of a variable-length object, 0 until it is written. -/
def State.len (s : State) (k : Nat) : Nat := lookD s.lens k 0

/-- A variable-length object replaced, with its length. -/
def State.wrLen (s : State) (k len v : Nat) : State :=
  { s with objs := put s.objs k v, lens := put s.lens k len }

/-- A BOOL object is 1, or a bit of an object is set. -/
def State.flag (s : State) (k : Nat) (n : Nat := 0) : Bool := bitAt (s.rd k) n

/-- A signed object of `w` bits. -/
def State.rdI (s : State) (k w : Nat) : Int := toInt w (s.rd k)

/-- A signed object written. -/
def State.wrI (s : State) (k w : Nat) (v : Int) : State := s.wr k (ofInt w v)

/-- One octet of an OCT or DOM object. -/
def State.oct (s : State) (k i : Nat) : Nat := octet (s.rd k) i

/-- One octet of an OCT object replaced. -/
def State.wrOct (s : State) (k i v : Nat) : State := s.wr k (setOctet (s.rd k) i v)

/-- A field of an object replaced. -/
def State.wrBits (s : State) (k lo n v : Nat) : State := s.wr k (setBits (s.rd k) lo n v)

/-- A U32 counter advanced by `n`, wrapping at 2^32. -/
def State.bumpBy (s : State) (k n : Nat) : State := s.wr k ((s.rd k + n) % 2 ^ 32)

/-- A U32 counter advanced by one. -/
def State.bump (s : State) (k : Nat) : State := s.bumpBy k 1

/-- A U32 counter that saturates (Table 2.14). -/
def State.bumpSat (s : State) (k : Nat) : State := s.wr k (min (2 ^ 32 - 1) (s.rd k + 1))

/-- An element of an array of U32 counters in an OCT or DOM object advanced by one, wrapping. -/
def State.bumpAt (s : State) (k i : Nat) : State :=
  s.wrBits k (32 * i) 32 (bits (s.rd k) (32 * i) 32 + 1)

/-- A SEQSTAT value after an event: SEQ advances by one modulo 65,536 and the event's bit is set (R58). -/
def seqEvent (v bit : Nat) : Nat := setBit (setBits v 16 16 (bits v 16 16 + 1)) bit

/-- An event of a SEQSTAT object (R58). -/
def State.raiseEv (s : State) (k bit : Nat) : State := s.wr k (seqEvent (s.rd k) bit)

/-- A state field of a SEQSTAT value: SEQ advances when the field changes (R58). -/
def seqState (v lo n x : Nat) : Nat :=
  if bits v lo n = x then v else setBits (setBits v 16 16 (bits v 16 16 + 1)) lo n x

/-- A state field of a SEQSTAT object set. -/
def State.setSt (s : State) (k lo n x : Nat) : State := s.wr k (seqState (s.rd k) lo n x)

/-- The state field [15:12] of a SEQSTAT object. -/
def State.stOf (s : State) (k : Nat) : Nat := bits (s.rd k) 12 4

/-- Who holds per-requester values: the requester without the tag of one request. -/
def reqWho (r : Req) : Req := { r with tag := 0 }

/-- A per-requester object as one requester reads it. -/
def State.rdReq (s : State) (r : Req) (k : Nat) : Nat :=
  match s.preq.find? (fun e => e.1 == reqWho r && e.2.1 == k) with
  | some e => e.2.2
  | none => dflt k

/-- A per-requester object set for one requester. -/
def State.wrReq (s : State) (r : Req) (k v : Nat) : State :=
  { s with preq := (s.preq.filter (fun e => !(e.1 == reqWho r && e.2.1 == k))) ++ [(reqWho r, k, v)] }

/-- A U64 counter advanced by `n`, wrapping at 2^64. -/
def State.bump64 (s : State) (k n : Nat) : State := s.wr k ((s.rd k + n) % 2 ^ 64)

/-! ## The event counters (14, §1) -/

/-- The state with its counters changed. -/
def State.onCtr (s : State) (f : Ctr → Ctr) : State := { s with ctr := f s.ctr }

/-- An event of a source of Table 14.2 that no object counts. -/
def State.event (s : State) (src : Nat) : State := s.onCtr (fun c => { c with ev := modify c.ev src 0 (· + 1) })

/-- The sum of `n` fields of `w` bits of an object, `step` octets apart from octet `at_`. -/
def State.sumOf (s : State) (k n at_ step w : Nat) : Nat :=
  (List.range n).foldl (fun v i => v + bits (s.rd k) (8 * (at_ + step * i)) w) 0

/-- Key of sub-index `k` of a record. -/
def recKey (index k : Nat) : Nat := index * 256 + k

/-- What the counted objects and events of a source (Table 14.2) stand at; `none` for a reserved source. A source that lasts in time
reads 0 here. -/
def State.reading (s : State) (src : Nat) : Option Nat :=
  let g := src / 32
  let k := src % 32
  let ev := lookD s.ctr.ev src 0
  if g = 0 then
    match k with
    | 5 => some (s.rd O.STAGE_SKIPPED)
    | 6 => some (s.rd O.UNMAPPED_SKIPPED)
    | 7 => some (s.rd O.REMAPS)
    | 8 => some (s.rd O.MIGRATIONS)
    | 10 => some (s.rd O.ABORTS_SENT)
    | 17 => some (s.rd (recKey 0xA140 1))
    | 18 => some (s.rd (recKey 0xA140 3))
    | 19 => some (s.rd (recKey 0xA140 6))
    | _ => if k ≤ 16 then some ev else none
  else if g ≤ 3 then
    let x := 0x4000 + 0x100 * (g - 1)
    if k = 0 then some ev
    else if k ≤ 19 then some (s.rd (recKey (x + 7) k))
    else if k = 20 then some (s.rd (recKey (x + 3) 6))
    else if k = 21 then some (s.rd (recKey (x + 3) 5))
    else if k ≤ 23 then some 0 else none
  else if g = 4 then
    if 1 ≤ k ∧ k ≤ 17 then some (s.rd (recKey 0x5140 k))
    else match k with
      | 18 => some (s.rd (recKey 0x5001 2))
      | 19 => some (s.rd (recKey 0x5001 3))
      | 20 => some (s.rd (recKey 0x5001 4))
      | 21 => some (s.rd O.SWAP_ABANDONED)
      | 22 => some (s.rd O.SPARE_SERVED)
      | _ => none
  else if g = 5 then (if 1 ≤ k ∧ k ≤ 11 then some (s.rd (recKey 0x5240 k)) else none)
  else if g = 6 then (if 1 ≤ k then some (s.rd (recKey 0x6040 k)) else none)
  else if g = 7 then
    if k ≤ 3 then some (s.rd (recKey 0x6040 (0x20 + k)))
    else if 8 ≤ k ∧ k ≤ 13 then some (s.rd (recKey 0x6240 (k - 7)))
    else if 16 ≤ k ∧ k ≤ 18 then some (s.rd (recKey 0x6140 (k - 14)))
    else none
  else if g = 8 then
    if 1 ≤ k ∧ k ≤ 14 then some (s.rd (recKey 0x6840 k))
    else if 16 ≤ k ∧ k ≤ 24 then some (s.rd (recKey 0x6940 (k - 15)))
    else if k = 25 then some (s.rd (recKey 0x6800 4))
    else none
  else if g = 9 then (if 1 ≤ k ∧ k ≤ 23 then some (s.rd (recKey 0x7040 k)) else none)
  else if g ≤ 13 then
    let p := g - 10
    if 1 ≤ k ∧ k ≤ 20 then some (if k = 15 then 0 else s.rd (recKey (0x7140 + p) k))
    else match k with
      | 21 => some (s.sumOf (O.QUEUE_COUNTS p) 64 0 32 64)
      | 22 => some (s.sumOf (O.QUEUE_COUNTS p) 64 8 32 64)
      | 23 => some (s.sumOf (O.QUEUE_COUNTS p) 64 16 32 32)
      | 24 => some (s.sumOf (O.QUEUE_COUNTS p) 64 24 32 32)
      | 25 => some (s.rd (recKey (0x7830 + p) 4))
      | 26 => some (s.rd (recKey (0x7840 + p) 1))
      | _ => none
  else if g = 14 then
    if k < 16 then some (s.rd (recKey (0x9140 + 0x100 * (k / 8)) ([1, 2, 3, 4, 8, 0xE, 7, 0x13].getD (k % 8) 1)))
    else match k with
      | 16 => some (s.sumOf O.PAN_CE 16 0 4 32)
      | 17 => some (s.sumOf O.PAN_UE 16 0 4 32)
      | 18 => some (s.rd O.UE_CONSUMED)
      | 20 => some (s.rd (recKey 0x9340 1))
      | 21 => some (s.rd (recKey 0x9340 2))
      | _ => none
  else
    if 1 ≤ k ∧ k ≤ 17 then some (s.rd (recKey 0x8040 k))
    else if 18 ≤ k ∧ k ≤ 20 then some (s.rd (recKey 0x8140 (k - 17)))
    else match k with
      | 21 => some (s.sumOf O.WAKES 16 0 4 32)
      | 22 => some (s.sumOf O.REFUSALS 16 0 16 32 + s.sumOf O.REFUSALS 16 4 16 32)
      | 23 => some ev
      | 24 => some ev
      | _ => none

/-- Events from now to tick `t` of a source that lasts in time (Table 14.2): FAB cycles, ticks, ticks with a C0 head frame held by pause alone,
with a transmission in progress, with an RX window open, with a priority paused. -/
def State.lasting (s : State) (src t : Nat) : Nat :=
  let g := src / 32
  let k := src % 32
  let span := fun (a b : Nat) => min b t - max a s.now
  let most := fun (l : List Nat) => l.foldl max 0
  if src = 1 then 4 * span 0 t
  else if src = 2 then span 0 t
  else if src = 16 then
    most (s.eth.ports.map (fun p => most (p.2.heldAt.map (fun h => span h.2 (most (p.2.pauses.map (fun x => x.2.2)))))))
  else if 1 ≤ g ∧ g ≤ 3 then
    match look s.radio.trxs (g - 1) with
    | some x =>
      if k = 22 then match x.tx with
        | some r => if r.ended then 0 else span r.at_ r.ends
        | none => 0
      else if k = 23 ∧ x.rxOpen then span 0 t else 0
    | none => 0
  else if 10 ≤ g ∧ g ≤ 13 ∧ k = 15 then
    match look s.eth.ports (g - 10) with
    | some p => most (p.pauses.map (fun x => span 0 x.2.2))
    | none => 0
  else 0

/-- The source's domain or part is ON or IDLE (R465). -/
def State.sourceUp (s : State) (src : Nat) : Bool :=
  let up := fun (n : Nat) => decide (octet (s.rd O.DOMAIN_STATE) n ≤ 1)
  let g := src / 32
  up 8 &&
  (if 1 ≤ g ∧ g ≤ 3 then up (g + 1)
   else if g = 4 then up 5
   else if g = 8 then up 9
   else if g = 9 then up 10
   else if 10 ≤ g ∧ g ≤ 13 then up 11 && lookD s.pwr.parts (16 * 12 + (g - 10)) 0 == 0
   else if g = 14 ∧ src % 32 < 16 then up 12 && lookD s.pwr.parts (16 * 13 + src % 32 / 8) 0 == 0
   else if g = 14 ∧ src % 32 < 18 then up 15
   else true)

/-- SELECT of counter `n` (R467). -/
def State.selectOf (s : State) (n : Nat) : Nat := s.rd (recKey 0xA001 (n + 1))

/-- A counter advanced by some events: it wraps, or stops at its end with SATURATE, and says so (R470). -/
def State.countBy (s : State) (n d : Nat) : State :=
  let top := 2 ^ 48
  let c := lookD s.ctr.counts n 0
  let v := c + d
  let sat := bitAt (s.selectOf n) 13
  let v1 := if sat then min (top - 1) v else v % top
  let past : Bool := if sat then decide (c < top - 1 ∧ top - 1 ≤ v) else decide (top ≤ v)
  let s1 := s.onCtr (fun x => { x with counts := put x.counts n v1 })
  if past then (s1.wr O.OVF_MAP (setBit (s1.rd O.OVF_MAP) n)).raiseEv O.COUNTER_EVENTS 0 else s1

/-- A counter's source read up to tick `t`: its events since the last reading are counted where it is enabled (R465). -/
def State.countSync (s : State) (t n : Nat) : State :=
  let sel := s.selectOf n
  let src := sel % 512
  if !bitAt sel 12 then s
  else
    let r := (s.reading src).getD 0
    let was := lookD s.ctr.seen n r
    let d := (r + 2 ^ 32 - was % 2 ^ 32) % 2 ^ 32 + s.lasting src t
    let s1 := s.onCtr (fun x => { x with seen := put x.seen n r })
    if d = 0 ∨ !s.sourceUp src then s1 else s1.countBy n d

/-- Every enabled counter brought up to tick `t`. -/
def State.countAll (s : State) (t : Nat) : State :=
  if s.objs.any (fun e => e.1 / 256 == 0xA001) then (List.range 64).foldl (fun s n => s.countSync t n) s else s

/-! ## The clock -/

/-- The active sources of FAULT_N (Table 13.6): WAKE_FAULT of any domain or part, TX_INHIBIT and DEGRADED as states, the others latched. -/
def State.faultNActive (s : State) : Nat :=
  let wake : Bool := (List.range 16).any (fun n => octet (s.rd O.DOMAIN_STATE) n == 6) || s.pwr.parts.any (fun p => p.2 == 6)
  let inhibit : Bool := (List.range 3).any (fun x => bitAt (s.rd (O.TRX_EVENTS x)) 7)
  putBit (putBit (putBit (s.rd O.FAULT_N_LATCH &&& 0xCE) 0 wake) 4 inhibit) 5 (bitAt (s.rd O.DEGRADED) 0)

/-- FAULT_N is driven low: a routed source is active (R454), or the oscillator has failed (R437). -/
def State.faultNLow (s : State) : Bool := s.pwr.xtalFail || s.faultNActive &&& s.rd O.FAULT_N_ROUTE != 0

/-- The slow copies are refreshed (R60). -/
def State.edgeNow (s : State) : State := { s with objsEdge := put s.objs O.FAULT_N_ACTIVE s.faultNActive }

/-! ## Outputs and open values -/

/-- The command makes something leave the block. -/
def State.emit (s : State) (e : OutEvent) : State := { s with out := s.out ++ [e] }

/-- The next open value (Config.freeValue), and the state with the draw counted. -/
def State.free (s : State) : Nat × State := (Config.freeValue s.freeCtr, { s with freeCtr := s.freeCtr + 1 })

/-- The next random number (Config.random), and the state with the draw counted. -/
def State.draw (s : State) : Nat × State := (Config.random s.freeCtr, { s with freeCtr := s.freeCtr + 1 })

/-! ## Parts of the state -/

/-- The state with its lay engine changed. -/
def State.onLay (s : State) (f : Lay → Lay) : State := { s with lay := f s.lay }

/-- The state with placement changed. -/
def State.onPlc (s : State) (f : Place → Place) : State := { s with plc := f s.plc }

/-- The state with the power controller changed. -/
def State.onPwr (s : State) (f : Power → Power) : State := { s with pwr := f s.pwr }

/-- The state with the memory changed. -/
def State.onMem (s : State) (f : Mem → Mem) : State := { s with mem := f s.mem }

/-- The state with the core complex changed. -/
def State.onCores (s : State) (f : Cores → Cores) : State := { s with cores := f s.cores }

/-- The state with the dictionary engine changed. -/
def State.onJot (s : State) (f : Jot → Jot) : State := { s with jot := f s.jot }

/-! ## Supply stage and domains -/

/-- The supply stage (`2200.01`). -/
def State.stage (s : State) : Nat := s.rd O.STAGE_NOW

/-- State of a power domain, Table 13.3: 0 ON, 1 IDLE, 2 DOZE, 3 OFF, 4 WAKING, 5 ENTERING, 6 WAKE_FAULT. -/
def State.domain (s : State) (n : Nat) : Nat := s.oct O.DOMAIN_STATE n

/-- A domain is ON or IDLE. -/
def State.domainUp (s : State) (n : Nat) : Bool := decide (s.domain n ≤ 1)

/-- Key of part `p` of domain `n` in the power controller's tables. -/
def partKey (n p : Nat) : Nat := 16 * (n + 1) + p

/-- A part of a domain with a switch of its own is powered. -/
def State.partUp (s : State) (n p : Nat) : Bool := s.domainUp n && lookD s.pwr.parts (partKey n p) 0 == 0

/-! ## The access-fault log (R90) -/

/-- The code of Table 2.12. -/
def Abort.code : Abort → Nat
  | .timeout => 0x05010001
  | .badCommand => 0x05010002
  | .badSegment => 0x05010003
  | .tagReused => 0x05010004
  | .tooManyTransfers => 0x05010005
  | .badCount => 0x05010006
  | .useSegmented => 0x05010007
  | .readWo => 0x06010001
  | .writeRo => 0x06010002
  | .limitExhausted => 0x06010003
  | .svcRequired => 0x06010004
  | .lifecycle => 0x06010005
  | .shadowOwned => 0x06010006
  | .shadowBusy => 0x06010007
  | .seqStale => 0x06010008
  | .narrowWrite => 0x06010010
  | .unaligned => 0x06010011
  | .badWidth => 0x06010012
  | .transferBusy => 0x06010013
  | .badBuffer => 0x06010014
  | .noObject => 0x06020000
  | .noSubindex => 0x06020011
  | .commitRefused => 0x06060001
  | .lengthMismatch => 0x06070010
  | .tooLong => 0x06070012
  | .svcBusy => 0x06080001
  | .svcDenied => 0x06080002
  | .svcLocked => 0x06080003
  | .valueRange => 0x06090030
  | .domainOff => 0x08000020
  | .transportReset => 0x08000023
  | .otpFault => 0x08000024
  | .noRegion => 0x08000030
  | .beyondCapacity => 0x08000031
  | .shedMemory => 0x08000032
  | .panOff => 0x08000033
  | .readOnlyRegion => 0x08000034

/-- An entry goes into the ring of 64, the oldest giving way to it, and is counted (R90). -/
def State.logFault (s : State) (code address transport access source : Nat) : State :=
  let s1 := if s.jot.faults.length < 64 then s else s.raiseEv O.FAULT_STATUS 1
  let e : FaultEntry :=
    { code := code, address := address, transport := transport, access := access, source := source,
      uptimeUs := s.uptimeUs % 2 ^ 40 }
  (((s1.onJot (fun j => { j with faults := pushRing 64 j.faults e })).raiseEv O.FAULT_STATUS 0).bumpSat O.FAULT_COUNT).event 11

/-- A bus error of a core access (R37): logged as another core access, and given to the hart. -/
def State.coreError (s : State) (a : Abort) (hart addr access : Nat) : State :=
  (s.logFault a.code addr 3 access hart).emit (.busError hart addr)

/-! ## The placement journal (Table 4.2) -/

/-- A decision recorded in the journal ring of 4,096 entries (R155). -/
def State.journal (s : State) (asn cause action cls logical old new obj objKind detail : Nat) : State :=
  let e : JEntry :=
    { seq := s.rd O.JOURNAL_COUNT, asn := asn, cause := cause, action := action, cls := cls, logical := logical,
      old := old, new := new, obj := obj, objKind := objKind, detail := detail % 256, uptimeUs := s.uptimeUs }
  let s1 := if s.plc.journal.length < 4096 then s else s.raiseEv O.JOURNAL_STATUS 1
  let s2 := if action = 2 then s1.raiseEv O.JOURNAL_STATUS 2 else s1
  let s3 := if action = 8 then s2.raiseEv O.JOURNAL_STATUS 3 else s2
  ((s3.onPlc (fun p => { p with journal := pushRing 4096 p.journal e })).raiseEv O.JOURNAL_STATUS 0).bump O.JOURNAL_COUNT

/-- "None" in the LOGICAL, OLD and NEW fields of a journal entry. -/
def noId : Nat := 0xFFF

/-! ## Hitch records and the conditions of the bound (01, §4) -/

/-- A record with every count at zero. -/
def HitchRec.zero : HitchRec :=
  { frames := 0, susp := List.replicate 9 0, paused := 0, lost := 0, maxTk := 0, excess := 0, dropped := 0 }

/-- A hitch's record changed. -/
def State.onHitch (s : State) (h : Nat) (f : HitchRec → HitchRec) : State :=
  s.onLay (fun l => { l with hitches := modify l.hitches h HitchRec.zero f })

/-- A frame of the hitch counts under a suspension cause (R32, R34). -/
def State.hitchSuspend (s : State) (h cause : Nat) : State :=
  (s.onHitch h (fun r => { r with susp := r.susp.set (cause - 1) (((r.susp.getD (cause - 1) 0) + 1) % 2 ^ 32) })).raiseEv
    O.BOUND_STATUS 1 |>.event 13

/-- A condition of Table 1.9 begins to fail for a scope. -/
def State.condBegin (s : State) (cause scope : Nat) : State :=
  if s.lay.conds.any (fun c => c.cause == cause && c.scope == scope && c.stop.isNone) then s
  else s.onLay (fun l =>
    { l with conds := l.conds ++ [{ cause := cause, scope := scope, start := s.now, stop := none }] })

/-- A condition of Table 1.9 holds again for a scope from this tick on. -/
def State.condEnd (s : State) (cause scope : Nat) : State :=
  s.onLay (fun l =>
    { l with conds := l.conds.map (fun c =>
        if c.cause == cause && c.scope == scope && c.stop.isNone then { c with stop := some s.now } else c) })

/-- A condition fails at this tick alone (LAY_SWAP, R32). -/
def State.condInstant (s : State) (cause : Nat) : State :=
  s.onLay (fun l =>
    { l with conds := l.conds ++ [{ cause := cause, scope := 0, start := s.now, stop := some (s.now + 1) }] })

/-- The first tick of `[a, b]` at which a span's condition fails. -/
def CondSpan.first (c : CondSpan) (a b : Nat) : Option Nat :=
  let t := max c.start a
  if b < t then none
  else match c.stop with
    | none => some t
    | some e => if t < e then some t else none

/-- The order in which causes met at one tick are counted: LAY_SWAP first, then the lowest code (R32). -/
def causeRank (c : Nat) : Nat := if c = 5 then 0 else c

/-- The first cause of the spans a hitch answers to that is met in `[a, b]` (R32), each span with what it fails first. -/
def firstCause (spans : List CondSpan) (hits : CondSpan → Bool) (a b : Nat) : Option Nat :=
  let met := spans.filterMap (fun c => if hits c then (c.first a b).map (fun t => (t, c.cause)) else none)
  (met.foldl (fun (best : Option (Nat × Nat)) (x : Nat × Nat) =>
    match best with
    | none => some x
    | some y =>
      if x.1 < y.1 ∨ (x.1 = y.1 ∧ causeRank x.2 < causeRank y.2) then some x else some y) none).map (fun y => y.2)

/-- A latched source of FAULT_N has its event (Table 13.6). -/
def State.faultN (s : State) (bit : Nat) : State := s.raiseEv O.FAULT_N_LATCH bit

/-! ## The bound of a hitch (01, §4) -/

/-- A condition's failure concerns a hitch (Table 1.9). -/
def HitchKey.meets (k : HitchKey) (c : CondSpan) : Bool :=
  match c.cause with
  | 1 => c.scope == k.num
  | 2 => decide (k.shed ≤ c.scope)
  | 3 => k.port == some c.scope
  | 7 => k.classes.contains c.scope
  | _ => true

/-- The first cause of Table 1.9 that a hitch's frame meets at a tick from `a` to `b` (R32). -/
def State.causeIn (s : State) (k : HitchKey) (a b : Nat) : Option Nat := firstCause s.lay.conds k.meets a b

/-- The bound of a direction in ticks (R29, R30). -/
def boundTk (down : Bool) : Nat := if down then 160000 else 240000

/-- A hitch's frame that began at tick `a` reaches its end point at tick `b`, `paused` ticks of the interval excluded by R31: it counts under
the first cause met, or its interval is held to the bound (R32, R34, R35). -/
def State.hitchClose (s : State) (k : HitchKey) (a b paused : Nat) : State :=
  match s.causeIn k a b with
  | some c => s.hitchSuspend k.num c
  | none =>
    let d := b - a - paused
    let s1 := s.onHitch k.num (fun r => { r with maxTk := max r.maxTk d })
    if d ≤ boundTk k.down then s1
    else
      (((((s1.onHitch k.num (fun r => { r with excess := (r.excess + 1) % 2 ^ 32 })).raiseEv O.BOUND_STATUS 0).wr
        O.LAST_EXCESS_HITCH k.num).wr O.LAST_EXCESS_TK (d % 2 ^ 32)).faultN 2).event 14

/-- The hitch frames whose end points have passed are judged (R29, R28). -/
def State.judgeEnds (s : State) : State :=
  let (past, ahead) := s.lay.ends.partition (fun e => decide (e.due < s.now))
  past.foldl (fun s e => s.hitchClose e.key e.at_ e.due e.paused) (s.onLay (fun l => { l with ends := ahead }))

/-! ## The clock moves on -/

/-- The clock stands at tick `n`, the outputs of the command before are done with, and the slow copies are refreshed where a SLOW edge has come
(R60). -/
def State.clockAt (s : State) (n : Tick) : State :=
  { s with
    now := n
    out := []
    objsEdge := if s.now / slowTk < n / slowTk then put s.objs O.FAULT_N_ACTIVE s.faultNActive else s.objsEdge }

/-- The clock of the block moves on to tick `t`, never back: the event counters have counted up to it, and hitch frames whose end points
it passes are judged. -/
def State.tickTo (s : State) (t : Tick) : State :=
  let n := max s.now t
  ((s.countAll n).clockAt n).judgeEnds

end Sys2Proof.Machine
end

