-- ==== Sys2Proof/Machine/LayBase.lean ====
section
/-!
DEFINITION. What the running lay is (03, §5), where its slot stands, its hitches, and the judgement of class-0 frames against the
bound (01, §4). Every part of the block that asks about the lay asks here.
-/
namespace Sys2Proof.Machine

/-- The boot lay runs (R11). -/
def State.bootLay (s : State) : Bool := s.rd O.RUNNING_BANK == 0xFF

/-- The words of a bank. -/
def State.bank (s : State) (b : Nat) : Bank := if b = 0 then s.lay.bank0 else s.lay.bank1

/-- A bank replaced. -/
def State.setBank (s : State) (b : Nat) (x : Bank) : State :=
  s.onLay (fun l => if b = 0 then { l with bank0 := x } else { l with bank1 := x })

/-- The words of the running image, none under the boot lay. -/
def State.runWords (s : State) : List Nat := if s.bootLay then [] else (s.bank (s.rd O.RUNNING_BANK)).words

/-- The lay engine is at work: it is powered and no S5 sequence has stopped it (R462). -/
def State.laySteps (s : State) : Bool := s.domainUp 8 && s.pwr.s5.isNone

/-- A compiled lay runs. -/
def State.layRuns (s : State) : Bool := !s.bootLay && s.laySteps

/-- The section that runs (`3000.09`). -/
def State.runSec (s : State) : Nat := s.rd O.RUNNING_SECTION

/-- SLOT_TK of the running lay (R11 for the boot lay). -/
def State.slotTk (s : State) : Nat := if s.bootLay then 2000000 else imgSlotTk s.runWords

/-- SLOTFRAME_LEN of the running lay. -/
def State.frameLen (s : State) : Nat := if s.bootLay then 1 else max 1 (imgFrameLen s.runWords)

/-- The slot position of the current slot (R95). -/
def State.slotPos (s : State) : Nat := s.lay.asn % s.frameLen

/-- The start of the next slot (R95, R360). -/
def State.nextSlotAt (s : State) : Nat := s.lay.slotEnd.getD (s.lay.slotAt + s.slotTk)

/-- The words of a standby image that is VERIFIED or ARMED. -/
def State.standbyWords (s : State) : Option (List Nat) :=
  let st := s.stOf O.LAY_STATUS
  if st = 3 ∨ st = 5 then some (s.bank s.lay.standby).words else none

/-- The images that placement and the commit checks hold to: the running one and a VERIFIED or ARMED standby one. -/
def State.heldImages (s : State) : List (List Nat) :=
  (if s.bootLay then [] else [s.runWords]) ++ s.standbyWords.toList

/-- Sensors named by the hitches of an image. -/
def hitchSensorsOf (ws : List Nat) : List Nat := sortNub ((allHitches ws).map (fun i => i.sensor))

/-- The sensors that hitches of the running image and of a VERIFIED or ARMED standby image name. -/
def State.hitchSensors (s : State) : List Nat := sortNub (s.heldImages.flatMap hitchSensorsOf)

/-- The hitches of the running image. -/
def State.runHitches (s : State) : List HitchInfo := allHitches s.runWords

/-- The hitch of the running image that binds a sensor in one direction. -/
def State.hitchFor (s : State) (sensor : Nat) (down : Bool) : Option HitchInfo :=
  s.runHitches.find? (fun i => i.sensor == sensor && i.down == down)

/-- A hitch by its number: of the running image, or under the boot lay of the image that ran before a STOP. -/
def State.hitchNum (s : State) (h : Nat) : Option HitchInfo :=
  s.runHitches.find? (fun i => i.num == h) <|> (s.lay.stopped.map (fun x => x.1)).find? (fun i => i.num == h)

/-- The physical member that serves a logical ID in the current slot; an ID outside the placed pools serves itself (R133). -/
def State.memberOf (s : State) (id : Nat) : Option Nat := if poolOf id = 0 then some id else look s.plc.map id

/-- The logical ID that a physical member serves in the current slot. -/
def State.logicalOf (s : State) (m : Nat) : Option Nat := (s.plc.map.find? (fun e => e.2 == m)).map (fun e => e.1)

/-- An uplink hitch leaves over a ply link (R28). -/
def plyEgress (ws : List Nat) (i : HitchInfo) : Bool :=
  !i.down && (taggedOf ws 0 i.num).any (fun e => eKind e.w == 1 && eAction e.w == 2)

/-- The classes of the resources a hitch's tagged entries use. -/
def hitchClasses (ws : List Nat) (i : HitchInfo) : List Nat :=
  (taggedOf ws 0 i.num).filterMap (fun e => classOf ws e.id)

/-- What the conditions of Table 1.9 hold against a hitch of an image. -/
def hitchKeyOf (ws : List Nat) (i : HitchInfo) : HitchKey :=
  { num := i.num, down := i.down, shed := min 5 (hitchShedAt ws i), port := if plyEgress ws i then none else some i.port,
    classes := hitchClasses ws i }

/-- What the conditions hold against a hitch that `hitchNum` names. -/
def State.hitchKey (s : State) (i : HitchInfo) : HitchKey :=
  match s.lay.stopped.find? (fun x => x.1 == i) with
  | some x => x.2
  | none => hitchKeyOf s.runWords i

/-- The first cause of Table 1.9 that a hitch's frame meets from tick `a` to now (R32). -/
def State.causeSince (s : State) (i : HitchInfo) (a : Nat) : Option Nat := s.causeIn (s.hitchKey i) a s.now

/-- A frame is identified as a hitch's and counts as carried (R34). -/
def State.hitchCarry (s : State) (h : Nat) : State :=
  (s.onHitch h (fun r => { r with frames := (r.frames + 1) % 2 ^ 64 })).event 12

/-- A hitch's frame that began at tick `a` reaches its end point at tick `b`, now or ahead: it is judged once that tick has passed. -/
def State.hitchEnd (s : State) (i : HitchInfo) (a b paused : Nat) : State :=
  s.onLay (fun l => { l with ends := l.ends ++ [{ key := s.hitchKey i, at_ := a, due := b, paused := paused }] })

/-- A hitch's frame that began at tick `a` is lost before its end point: under the first cause met, or as dropped (R34). -/
def State.hitchLose (s : State) (i : HitchInfo) (a : Nat) : State :=
  match s.causeSince i a with
  | some c => s.hitchSuspend i.num c
  | none => s.onHitch i.num (fun r => { r with dropped := (r.dropped + 1) % 2 ^ 32 })

/-- A hitch's frame counts under a cause of its own (OVERSIZE, TASK_OVERRUN), unless it met another one before. -/
def State.hitchCause (s : State) (i : HitchInfo) (a cause : Nat) : State :=
  s.hitchSuspend i.num ((s.causeSince i a).getD cause)

/-- A resource is isolated for a test or being reinitialized after one (R477, R481). -/
def State.underTest (s : State) (id : Nat) : Bool :=
  s.ctr.tests.any (fun t => t.member == id) || s.ctr.reinit.any (fun t => t.member == id)

/-- A hitch reception is lost under the capture rule (R23). -/
def State.hitchLostRx (s : State) (h : Nat) : State :=
  ((s.onHitch h (fun r => { r with lost := (r.lost + 1) % 2 ^ 32 })).raiseEv O.BOUND_STATUS 2).event 15

end Sys2Proof.Machine
end

