-- ==== Sys2Proof/Machine/Place.lean ====
section
/-!
DEFINITION. Placement and the splicer (04): members and their numbers, availability (R125), eligibility (R134), the mapping built at
a slot boundary (R135) with its journal entries (R155), retirement (R145), and the pans with the migrations of the objects they hold
(R148, R152).
-/
namespace Sys2Proof.Machine

/-! ## Members -/

/-- The bit of a lane, engine or hart in RETIRED and FORBID (Table 4.5), from its resource ID. -/
def memberBit (id : Nat) : Nat :=
  if id < 0x400 then id - 0x100 else if id < 0x420 then 768 + (id - 0x400) else 800 + (id - 0x420)

/-- The resource ID of a bit of RETIRED. -/
def bitMember (b : Nat) : Nat := if b < 768 then 0x100 + b else if b < 800 then 0x400 + (b - 768) else 0x420 + (b - 800)

/-- The part with a power switch of its own that a resource lies in (Table 13.2): domain and part. -/
def partOf (id : Nat) : Option (Nat × Nat) :=
  if 0x410 ≤ id ∧ id ≤ 0x41F then some (9, 0)
  else if 0x424 ≤ id ∧ id ≤ 0x427 then some (13, 1)
  else if 0x430 ≤ id ∧ id ≤ 0x433 then some (11, id - 0x430)
  else if id = 0x438 ∨ id = 0x439 ∨ id = 0x458 then some (12, 0)
  else if id = 0x43A ∨ id = 0x43B ∨ id = 0x459 then some (12, 1)
  else if 0x440 ≤ id ∧ id ≤ 0x44F then some (15, id - 0x440)
  else if 0x450 ≤ id ∧ id ≤ 0x452 then some (5, id - 0x450)
  else none

/-- A resource's domain or part is in WAKE_FAULT. -/
def State.idFault (s : State) (id : Nat) : Bool :=
  (match domainOf id with
   | some d => s.domain d == 6
   | none => false) ||
  (match partOf id with
   | some (d, p) => lookD s.pwr.parts (partKey d p) 0 == 6
   | none => false)

/-- A resource's domain, and its part where it has one, is powered now. -/
def State.idPowered (s : State) (id : Nat) : Bool :=
  (match domainOf id with
   | some d => s.domainUp d
   | none => false) &&
  (match partOf id with
   | some (d, p) => s.partUp d p
   | none => true)

/-- A domain in IDLE is ON again: work, an access or an entry has come (Table 13.3). -/
def State.idleWake (s : State) (n : Nat) : State :=
  if s.domain n = 1 then ((s.wrOct O.DOMAIN_STATE n 0).bumpAt O.WAKES n).onPwr (fun p => { p with idleAt := del p.idleAt n }) else s

/-- A resource is shed for an entry that stage `at_` sheds first (R127, R150, R449): by the stage, or its domain or part has no power. -/
def State.shedHere (s : State) (id at_ : Nat) : Bool :=
  decide (at_ ≤ max s.stage s.lay.skipStage) || !s.idPowered id || s.idFault id

/-- An entry comes to the resource `id`, on which stage `at_` is the first to shed it: its domain leaves IDLE. -/
def State.entryWake (s : State) (id : Nat) : State := match domainOf id with
  | some d => s.idleWake d
  | none => s

/-- An entry of a kind that the boot lay does not hold: it acts while a compiled lay runs (R11); on a shed resource it is skipped and
counted (R127). -/
def State.entryOn (s : State) (id at_ : Nat) (act : State → State) : State :=
  if !s.layRuns then s
  else if (s.entryWake id).shedHere id at_ then (s.entryWake id).bump O.STAGE_SKIPPED
  else act (s.entryWake id)

/-- A member is retired. -/
def State.retired (s : State) (id : Nat) : Bool := poolOf id != 0 && bitAt (s.rd O.RETIRED) (memberBit id)

/-- A member serves nothing but tests: retired, or on probation (R146). -/
def State.barred (s : State) (id : Nat) : Bool := s.retired id || s.plc.probation.contains id

/-- A member is forbidden (R157). -/
def State.forbidden (s : State) (id : Nat) : Bool := poolOf id != 0 && bitAt (s.rd O.FORBID) (memberBit id)

/-- A member gets no work that no lay entry schedules: it is forbidden or about to be (R157, R158), or chosen for a test (R147). -/
def State.memberBarred (s : State) (id : Nat) : Bool :=
  s.forbidden id || s.plc.leaving.contains id || s.plc.testing.contains id

/-- A member is available for a section of stage `sec` (R125). -/
def State.available (s : State) (sec id : Nat) : Bool :=
  decide (sec < shedAt id) && !s.idFault id && !s.retired id && !s.plc.probation.contains id

/-- The available members of a class for a section. -/
def State.availableIn (s : State) (ws : List Nat) (sec cls : Nat) : Nat :=
  ((membersOf ws cls).filter (s.available sec)).length

/-- The first class of an image whose need in a section exceeds its available members. -/
def State.shortClass (s : State) (ws : List Nat) (sec : Nat) : Option Nat :=
  (classesOf ws).find? (fun c => decide (s.availableIn ws sec c < needOf ws sec c))

/-! ## Triggers (Table 4.1) -/

/-- An optional trigger is enabled: PLACEMENT_ENABLE and its bit of TRIGGER_MASK. -/
def State.triggerOn (s : State) (bit : Nat) : Bool := s.flag O.PLACEMENT_ENABLE && s.flag O.TRIGGER_MASK bit

/-- The temperature region a member is judged by (R143): 0 DEMOD-L, 1 DEMOD-H, 2 CIPHER, 3 CORE-01, 4 CORE-23. -/
def regionOf (id : Nat) : Nat :=
  if id < 0x280 then 0 else if id < 0x400 then 1 else if id < 0x420 then 2 else if id < 0x428 then 3 else 4

/-- How late a member is taken among eligible ones (R143 orders 5 and 6): first those the next deeper stage sheds, then those of a
hot region. -/
def State.lateness (s : State) (id : Nat) : Nat :=
  (if s.triggerOn 5 && decide (1 ≤ s.stage) && decide (shedAt id ≤ s.stage + 1) then 2 else 0) +
  (if s.triggerOn 0 && s.plc.hotRegions.contains (regionOf id) then 1 else 0)

/-- The member to take of a list of eligible ones: the preferences of §3, then the lowest number (R135). -/
def State.prefer (s : State) (cands : List Nat) : Option Nat :=
  (cands.foldl (fun (b : Option (Nat × Nat)) (m : Nat) =>
    let x := s.lateness m
    match b with
    | none => some (x, m)
    | some (y, n) => if x < y ∨ (x = y ∧ m < n) then some (x, m) else some (y, n)) none).map (fun e => e.2)

/-- The tick at which a resource was last tested, 0 where it never was (`A100.03` LAST_TESTED, 816 members of 8 octets). -/
def State.testedAt (s : State) (id : Nat) : Nat := lookD s.plc.tested id 0

/-! ## The mapping (R133 to R136) -/

/-- What the splicer holds of a section at a slot position. -/
structure SlotView where
  ws : List Nat
  sec : Nat
  pos : Nat
  cls : Nat
  /-- Active IDs of the class, in rising order. -/
  ids : List Nat
  /-- Those whose state carries across the boundary. -/
  carry : List Nat
  /-- Those tagged by hitches, with the deepest stage whose section holds one of them. -/
  hitch : List (Nat × Nat)
  /-- Those with a TEST RUN in the slot, with the TEST_ID. -/
  tests : List (Nat × Nat)
deriving DecidableEq, Repr

/-- The deepest stage whose section holds a hitch. -/
def deepestWith (ws : List Nat) (h : Nat) : Nat :=
  (List.range 5).foldl (fun m n => if (hitchOf ws n h).isSome then n else m) 0

/-- The TEST_ID of a TEST RUN that a strand holds in a slot position. -/
def Strand.testIn (st : Strand) (pos : Nat) : Option Nat :=
  ((st.inSlot pos).find? (fun e => eKind e.w == 7 && eAction e.w == 1)).map (fun e => bits e.w 0 8)

/-- A class seen at a slot position. -/
def slotView (ws : List Nat) (sec pos cls : Nat) : SlotView :=
  let len := imgFrameLen ws
  let sts := (strandsOf ws sec).filter (fun st => classOf ws st.id == some cls && st.active len pos)
  { ws := ws, sec := sec, pos := pos, cls := cls,
    ids := sts.map (fun st => st.id),
    carry := (sts.filter (fun st => match st.carried len pos len with
      | some e => eAction e.w != 0
      | none => false)).map (fun st => st.id),
    hitch := sts.filterMap (fun st => ((st.changes.filterMap (fun e => e.tag)).map (deepestWith ws)).max?.map (fun d => (st.id, d))),
    tests := sts.filterMap (fun st => (st.testIn pos).map (fun t => (st.id, t))) }

/-- A member is eligible for an active ID (R134), `used` the members mapped so far in the slot. -/
def State.eligible (s : State) (v : SlotView) (used : List Nat) (id m : Nat) : Bool :=
  let test := (look v.tests id).isSome
  (s.available v.sec m || (test && s.plc.probation.contains m && !s.retired m && decide (v.sec < shedAt m) && !s.idFault m)) &&
  classOf v.ws m == some v.cls && !s.forbidden m && !used.contains m &&
  !s.ctr.tests.any (fun t => t.member == m && t.logical != id) && !s.ctr.reinit.any (fun t => t.member == m) &&
  (match look v.hitch id with
   | some deep => decide (deep < shedAt m)
   | none => true) &&
  (!test || domainOf m == domainOf id)

/-- The reference member of an ID (R135). -/
def State.refMember (s : State) (id : Nat) : Nat := lookD s.plc.ref id id

/-- The member taken for an ID: `own` where eligible, else `second`, else the preferred eligible member of the class. -/
def State.takeMember (s : State) (v : SlotView) (used : List Nat) (id own : Nat) (second : Option Nat) : Option Nat :=
  if s.eligible v used id own then some own
  else match second.filter (s.eligible v used id) with
    | some m => some m
    | none => s.prefer ((membersOf v.ws v.cls).filter (s.eligible v used id))

/-- The member tested longest ago of those eligible for a test ID, the lowest number where several were (R135, R477). -/
def State.takeTested (s : State) (v : SlotView) (used : List Nat) (id : Nat) : Option Nat :=
  (((membersOf v.ws v.cls).filter (s.eligible v used id)).foldl (fun (b : Option (Nat × Nat)) (m : Nat) =>
    let x := s.testedAt m
    match b with
    | none => some (x, m)
    | some (y, n) => if x < y then some (x, m) else some (y, n)) none).map (fun e => e.2)

/-- IDs mapped one after the other, each by `pick` from the mapping built before it. -/
def mapIds (pick : List (Nat × Nat) → Nat → Option Nat) : List Nat → List (Nat × Nat) → List (Nat × Nat)
  | [], m => m
  | id :: r, m => match pick m id with
    | some x => mapIds pick r (m ++ [(id, x)])
    | none => mapIds pick r m

/-- The mapping of a class at a slot boundary, in the order of R135: IDs whose state carries across, hitch-tagged IDs, IDs with a
TEST RUN, the others. -/
def State.mapClass (s : State) (v : SlotView) : List (Nat × Nat) :=
  let used := fun (m : List (Nat × Nat)) => m.map (fun e => e.2)
  let has := fun (m : List (Nat × Nat)) (id : Nat) => m.any (fun e => e.1 == id)
  let m1 := mapIds (fun m id => s.takeMember v (used m) id (lookD s.plc.map id (s.refMember id)) none) v.carry []
  let hs := (v.ids.filter (fun id => (look v.hitch id).isSome)).filter (fun id => !has m1 id)
  let m2 := mapIds (fun m id => s.takeMember v (used m) id (s.refMember id) none) hs m1
  let ts := (v.ids.filter (fun id => (look v.tests id).isSome)).filter (fun id => !has m2 id)
  let m3 := mapIds (fun m id => s.takeTested v (used m) id) ts m2
  let rest := v.ids.filter (fun id => !v.carry.contains id && (look v.hitch id).isNone && (look v.tests id).isNone)
  mapIds (fun m id =>
    let own := s.refMember id
    let test := (m3.find? (fun e => e.2 == own && (look v.tests e.1).isSome)).map (fun e => e.1)
    s.takeMember v (used m) id own test) rest m3

/-- Why a member or pan left service: the cause code and DETAIL. -/
def State.whyOut (s : State) (id dflt : Nat) : Nat × Nat :=
  let v := lookD s.plc.ineligible id dflt
  (v % 256, v / 256)

/-- Why an ID does not act on its reference member (R155): the first trigger, in the order of Table 4.1, that made it ineligible, a new image, or
the activity of another ID; with the DETAIL of Table 4.2. -/
def State.remapCause (s : State) (v : SlotView) (m : List (Nat × Nat)) (swap : Bool) (id ref : Nat) : Nat × Nat :=
  let test := (look v.tests id).orElse (fun _ => (m.find? (fun e => e.2 == ref && (look v.tests e.1).isSome)).bind (fun e => look v.tests e.1))
  if s.retired ref || (s.plc.probation.contains ref && (look v.tests id).isNone) then s.whyOut ref 0x01
  else if decide (shedAt ref ≤ v.sec) || s.idFault ref then (0x04, s.stage)
  else match test with
    | some t => (0x07, t)
    | none =>
      if s.underTest ref then (0x07, 0)
      else if s.forbidden ref then (0x0E, 0)
      else if swap then (0x10, 0)
      else (0x15, 0)

/-- The remaps of a class's new mapping counted and journaled (R155): one entry each, or one for all where they are more than 16. -/
def State.journalRemaps (s : State) (v : SlotView) (m : List (Nat × Nat)) (swap : Bool) : State :=
  let remaps := m.filter (fun e => e.2 != s.refMember e.1)
  let s1 := s.bumpBy O.REMAPS remaps.length
  let entry := fun (s : State) (e : Nat × Nat) (lg old new : Nat) =>
    let why := s.remapCause v m swap e.1 (s.refMember e.1)
    s.journal s.lay.asn why.1 0 v.cls lg old new 0 0 why.2
  if remaps.length ≤ 16 then remaps.foldl (fun s e => entry s e e.1 (lookD s.plc.ref e.1 noId) e.2) s1
  else match remaps with
    | e :: _ => entry s1 e noId noId noId
    | [] => s1

/-- The active IDs of a class that no member serves. -/
def SlotView.without (v : SlotView) (m : List (Nat × Nat)) : List Nat := v.ids.filter (fun id => (look m id).isNone)

/-- The IDs of a class that a boundary leaves without a member, journaled as UNMAP once (R136, R155). -/
def State.journalUnmaps (s : State) (v : SlotView) (m : List (Nat × Nat)) (swap : Bool) : State :=
  ((v.without m).filter (fun id => !s.plc.unmapped.contains id)).foldl (fun s id =>
    let why := s.remapCause v m swap id (s.refMember id)
    s.journal s.lay.asn why.1 1 v.cls id (lookD s.plc.ref id noId) noId 0 0 why.2) s

/-- The splicer's work at a slot boundary for the section that now runs: every class mapped anew (R135), the members chosen for TEST
RUN entries set apart (R147). -/
def State.splice (s : State) (swap : Bool) : State :=
  let maps := (classesOf s.runWords).map (fun c =>
    let v := slotView s.runWords s.runSec s.slotPos c
    (v, s.mapClass v))
  let s1 := maps.foldl (fun s x => (s.journalRemaps x.1 x.2 swap).journalUnmaps x.1 x.2 swap) s
  let all := maps.flatMap (fun x => x.2)
  s1.onPlc (fun p => { p with
    unmapped := maps.flatMap (fun x => x.1.without x.2)
    map := all.foldl (fun t e => put t e.1 e.2) []
    ref := all.foldl (fun t e => put t e.1 e.2) p.ref
    testing := maps.flatMap (fun x => x.1.tests.filterMap (fun t => look x.2 t.1)) })

/-! ## Retirement (R145, R146) -/

/-- A member leaves its class at once: RETIRED, the journal, the counters. Its unscheduled work is the caller's. -/
def State.retireMember (s : State) (id logical cause detail : Nat) : State :=
  let cls := (classOf s.runWords id).getD 0
  let s1 := (s.wr O.RETIRED (setBit (s.rd O.RETIRED) (memberBit id))).bump O.RETIREMENTS
  (s1.journal s1.lay.asn cause 2 cls logical id noId 0 0 detail).onPlc (fun p => { p with
    probation := p.probation.filter (· != id)
    ineligible := put p.ineligible id (cause + 256 * detail) })

/-! ## Pans and placed objects (R148, R151 to R154) -/

/-- The tier that TIER_FORCE lists for a sensor, 0 automatic (`3106.01`). -/
def State.forcedTier (s : State) (i : Nat) : Nat :=
  match (List.range (s.len O.TIER_FORCE / 4)).find? (fun k => bits (s.rd O.TIER_FORCE) (32 * k) 18 == i) with
  | some k => bits (s.rd O.TIER_FORCE) (32 * k + 18) 2
  | none => 0

/-- PAN_STATE of a pan: 0 OFF, 1 IN_SERVICE, 2 RESERVED, 3 EVACUATING, 4 SUSPECT, 5 RETIRED, 6 TEST. -/
def State.pan (s : State) (p : Nat) : Nat := s.oct O.PAN_STATE p

/-- The journal's number of a pan as a place (Table 4.2). -/
def panLoc (p : Nat) : Nat := 0x440 + p

/-- The key of a placed object: its kind (1 sensor entry, 2 flow, 3 queue) and number. -/
def objKey (kind n : Nat) : Nat := kind * 2 ^ 24 + n

/-- The present place of an object, `none` where it has none. -/
def State.locOf (s : State) (kind n : Nat) : Option Nat := look s.plc.loc (objKey kind n)

/-- The objects placed at a place. -/
def State.objsAt (s : State) (loc : Nat) : List Nat := (s.plc.loc.filter (fun e => e.2 == loc)).map (fun e => e.1)

/-- A queue's entry of the queue table (Table 9.13). -/
def State.qEntry (s : State) (p q : Nat) : Nat := bits (s.rd (O.QUEUES p)) (128 * q) 128
/-- CLASS of a queue entry. -/
def qClass (e : Nat) : Nat := octet e 2

/-- An object stays in the brine pool (R140): the entry of a hitch's sensor, the buffers of a class-0 flow or of a class-C0 queue. -/
def State.hotHeld (s : State) (key : Nat) : Bool :=
  let n := key % 2 ^ 24
  match key / 2 ^ 24 with
  | 1 => s.hitchSensors.contains n
  | 2 => s.cores.c0Flows.contains n
  | _ => qClass (s.qEntry (n / 64) (n % 64)) == 0

/-- Octets an object takes: 64 for a sensor entry; the buffers of a queue or flow, whose size is open, are not counted. -/
def objSize (key : Nat) : Nat := if key / 2 ^ 24 = 1 then 64 else 0

/-- Octets free in a pan. -/
def State.panFree (s : State) (p : Nat) : Nat :=
  0x400000 - (s.objsAt (panLoc p)).foldl (fun n k => n + objSize k) 0

/-- The running lay holds a pan TEST entry. -/
def State.panTests (s : State) : Bool :=
  (strandsOf s.runWords s.runSec).any (fun st => decide (0x440 ≤ st.id ∧ st.id ≤ 0x44F) && !st.body.isEmpty)

/-- The pans placement may put data in: in service with room, the lowest first; the highest empty one is kept free while the running
lay tests pans (R148). -/
def State.openPans (s : State) (need : Nat) : List Nat :=
  let ps := (List.range 16).filter (fun p => s.pan p == 1 && decide (need ≤ s.panFree p))
  let empty := ps.filter (fun p => (s.objsAt (panLoc p)).isEmpty)
  if s.panTests then ps.filter (fun p => some p != empty.getLast?) else ps

/-- The place a tier gives an object: HOT (1) the lowest open pan, WARM (2) channel 0, COLD (3) channel 1; a full HOT falls to WARM
(R151). -/
def State.placeFor (s : State) (tier need : Nat) : Nat :=
  match tier with
  | 3 => 0x459
  | 2 => 0x458
  | _ => match s.openPans need with
    | p :: _ => panLoc p
    | [] => 0x458

/-- The pan for an object that stays in the brine pool: an open one, else any in service. -/
def State.panFor (s : State) (need : Nat) : Option Nat :=
  ((s.openPans need).head?.orElse (fun _ => (List.range 16).find? (fun p => s.pan p == 1))).map panLoc

/-- The place a tier gives an object; one that stays in the brine pool gets a pan or none (R140, R151). -/
def State.placeKey (s : State) (key tier : Nat) : Option Nat :=
  if s.hotHeld key then s.panFor (objSize key) else some (s.placeFor tier (objSize key))

/-- An object put at a place. -/
def State.putObj (s : State) (kind n loc : Nat) : State :=
  s.onPlc (fun p => { p with loc := put p.loc (objKey kind n) loc, placed := put p.placed (objKey kind n) s.now })

/-- A new object in HOT while pans have room, else in WARM (R151). -/
def State.placeNew (s : State) (kind n tier : Nat) : State :=
  if (s.locOf kind n).isSome then s
  else s.putObj kind n ((s.placeKey (objKey kind n) tier).getD (s.placeFor tier 0))

/-- Octets the placed objects take together, and what the pans in service, or OFF and unreserved, can hold of them (R154). -/
def State.hotFits (s : State) : Bool :=
  let need := s.plc.loc.foldl (fun n e => n + objSize e.1) 0
  let pans := ((List.range 16).filter (fun p => s.pan p == 1 || (s.pan p == 0 && !s.flag O.PAN_RESERVE p))).length
  decide (need ≤ 0x400000 * (if s.panTests then pans - 1 else pans))

/-- A background migration (R152): one that a tier rule or TIER_FORCE asked for. -/
def background (cause : Nat) : Bool := cause == 0x0C || cause == 0x0D

/-- The first tick at which the copy of an object can be done: background migrations take turns at MIGRATE_MIBPS, others go at 1 GiB/s (R152). -/
def State.copyDue (s : State) (key cause : Nat) : Nat :=
  if background cause then
    (s.plc.migrations.filter (fun m => background m.cause)).foldl (fun t m => max t m.due) s.now +
      ceilDiv (objSize key * 200000000) (s.rd O.MIGRATE_MIBPS * 2 ^ 20)
  else s.now + ceilDiv (objSize key * 200000000) (2 ^ 30)

/-- An object may move again: MIN_DWELL_S has passed since its last move, if any (R152). -/
def State.dwellPast (s : State) (key : Nat) : Bool :=
  match look s.plc.moved key with
  | none => true
  | some t => decide (t + s.rd O.MIN_DWELL_S * 200000000 ≤ s.now)

/-- A migration begins (R152), unless the object moves already or is there. -/
def State.migrate (s : State) (key dst cause detail : Nat) : State :=
  let kind := key / 2 ^ 24
  let n := key % 2 ^ 24
  match s.locOf kind n with
  | none => s
  | some src =>
    if src = dst ∨ s.plc.migrations.any (fun m => m.kind == kind && m.obj == n) then s
    else
      let m : Migration :=
        { kind := kind, obj := n, src := src, dst := dst, cause := cause, copied := false, due := s.copyDue key cause, detail := detail }
      s.onPlc (fun p => { p with migrations := p.migrations ++ [m] })

/-- A migration to the place a tier gives the object begins, if there is one. -/
def State.migrateTo (s : State) (key tier cause detail : Nat) : State :=
  match s.placeKey key tier with
  | some dst => s.migrate key dst cause detail
  | none => s

/-- A pan's state set. -/
def State.setPan (s : State) (p st : Nat) : State := s.wrOct O.PAN_STATE p st

/-- A pan with nothing left in it takes the state its evacuation leads to; a retirement counts now (R154). -/
def State.panEmptied (s : State) (p : Nat) : State :=
  match look s.plc.evac p with
  | none => s
  | some st =>
    if !(s.objsAt (panLoc p)).isEmpty then s
    else
      let s1 := (s.setPan p st).onPlc (fun q => { q with evac := del q.evac p })
      if st = 5 then
        (s1.bump O.RETIREMENTS).journal s1.lay.asn (s1.whyOut (panLoc p) 0x02).1 2 0 noId (panLoc p) noId p 4 (s1.whyOut (panLoc p) 0x02).2
      else s1

/-- An object no longer placed. -/
def State.dropObj (s : State) (kind n : Nat) : State :=
  let s1 := s.onPlc (fun p => { p with
    loc := del p.loc (objKey kind n)
    placed := del p.placed (objKey kind n)
    moved := del p.moved (objKey kind n)
    migrations := p.migrations.filter (fun m => !(m.kind == kind && m.obj == n)) })
  match s.locOf kind n with
  | none => s1
  | some loc =>
    if 0x440 ≤ loc ∧ loc ≤ 0x44F ∧ (s1.objsAt loc).isEmpty then
      (s1.onPlc (fun q => { q with panEmptyAt := put q.panEmptyAt (loc - 0x440) s1.now })).panEmptied (loc - 0x440)
    else s1

/-- What a pan under evacuation still holds moves to other pans or to WARM, as far as it has a place to go. -/
def State.evacGo (s : State) (p : Nat) : State :=
  let why := s.whyOut (panLoc p) 0x02
  (s.objsAt (panLoc p)).foldl (fun s k => s.migrateTo k 1 why.1 why.2) s

/-- A pan is evacuated for a cause of Table 4.3, to take state `final` once empty. -/
def State.evacuate (s : State) (p final cause detail : Nat) : State :=
  let s1 := (s.setPan p (if final = 4 then 4 else 3)).onPlc (fun q => { q with
    evac := put q.evac p final, ineligible := put q.ineligible (panLoc p) (cause + 256 * detail) })
  (s1.evacGo p).panEmptied p

/-- Migrations out of a pan that is being evacuated begin as soon as there is a place for them. -/
def State.evacAgain (s : State) : State := s.plc.evac.foldl (fun s e => s.evacGo e.1) s

/-- The copy of a migration is done, no sooner than its rate allows. -/
def State.migrationCopied (s : State) (kind n : Nat) : State :=
  s.onPlc (fun p => { p with
    migrations := p.migrations.map (fun m => if m.kind = kind ∧ m.obj = n ∧ m.due ≤ s.now then { m with copied := true } else m) })

/-- The reference of a migrated object switches: the object is at its destination, the source free (R152). -/
def State.migrationSwitched (s : State) (m : Migration) : State :=
  let key := objKey m.kind m.obj
  let s1 := s.onPlc (fun p => { p with
    loc := put p.loc key m.dst
    moved := put p.moved key s.now
    migrations := p.migrations.filter (fun x => !(x.kind == m.kind && x.obj == m.obj)) })
  let s2 := (s1.bump O.MIGRATIONS).journal s1.lay.asn m.cause 4 0 noId m.src m.dst m.obj m.kind m.detail
  if 0x440 ≤ m.src ∧ m.src ≤ 0x44F then
    let p := m.src - 0x440
    let s3 := if (s2.objsAt m.src).isEmpty then s2.onPlc (fun q => { q with panEmptyAt := put q.panEmptyAt p s2.now }) else s2
    s3.panEmptied p
  else s2

/-- The objects in a DRAM channel begin to move to a pan, or out of channel 1 to channel 0 where no pan has room (R153). -/
def State.leaveChannel (s : State) (loc cause detail : Nat) : State :=
  (s.objsAt loc).foldl (fun s k => s.migrateTo k 1 cause detail) s

/-- Place of a tier. -/
def tierOfLoc (loc : Nat) : Nat := if loc = 0x458 then 2 else if loc = 0x459 then 3 else 1

/-- A channel returns from the self-refresh it was held in: the sensor entries in it are promoted, but for those that TIER_FORCE wants there
(R153). -/
def State.channelBack (s : State) (loc : Nat) : State :=
  ((s.objsAt loc).filter (fun k => k / 2 ^ 24 == 1 && s.forcedTier (k % 2 ^ 24) != tierOfLoc loc)).foldl (fun s k =>
    s.migrateTo k (tierOfLoc loc - 1) 0x05 s.stage) s

/-- Stage migrations on entry to a stage: those of R153, and with stage lookahead those of the next deeper stage (Table 4.1). -/
def State.stageMigrations (s : State) (stage : Nat) : State :=
  let ahead := s.triggerOn 5
  let s1 := if stage = 2 then s.leaveChannel 0x459 0x04 2 else if stage = 1 ∧ ahead then s.leaveChannel 0x459 0x06 1 else s
  if stage = 3 then s1.leaveChannel 0x458 0x04 3 else if stage = 2 ∧ ahead then s1.leaveChannel 0x458 0x06 2 else s1

/-- Migrations whose destination a stage sheds are abandoned (R153). -/
def State.abandonMigrations (s : State) (dst : Nat) : State :=
  s.onPlc (fun p => { p with migrations := p.migrations.filter (fun m => m.dst != dst) })

end Sys2Proof.Machine
end

