-- ==== Sys2Proof/Machine/CoreOps.lean ====
section
/-!
DEFINITION. The core complex and the task scheduler (11): harts and their states, flows, items, ready lists, dispatch and stealing
(R397), cancellation (R398), class-0 windows (R399 to R401), stopped harts and moved homes (R381, R382).
-/
namespace Sys2Proof.Machine

/-! ## Harts -/

/-- A hart beside its objects. -/
def State.hart (s : State) (h : Nat) : Hart := lookD s.cores.harts h Hart.reset

/-- A hart changed. -/
def State.onHart (s : State) (h : Nat) (f : Hart → Hart) : State :=
  s.onCores (fun c => { c with harts := modify c.harts h Hart.reset f })

/-- HART_STATE: 0 OFF, 1 PARKED, 2 RUNNING, 3 WFI, 4 DEBUG, 5 TEST, 6 RETIRED, 7 SHED (R380). -/
def State.hartState (s : State) (h : Nat) : Nat := s.oct O.HART_STATE h

/-- HART_STATE set. -/
def State.setHart (s : State) (h st : Nat) : State := s.wrOct O.HART_STATE h st

/-- A hart is available to flows (R382): PARKED, RUNNING, WFI or DEBUG. -/
def State.hartUp (s : State) (h : Nat) : Bool := decide (1 ≤ s.hartState h ∧ s.hartState h ≤ 4)

/-- TIME_NOW (R383). -/
def State.timeNow (s : State) : Nat := s.now - s.resetAt

/-- ACTIVE of WIN_INFO: the hart is in its window handler (R400). -/
def Hart.active (h : Hart) : Bool := bitAt h.winInfo 31

/-- A hart's machine timer interrupt is pending (R383). -/
def State.timerPending (s : State) (h : Nat) : Bool := decide ((s.hart h).cmp ≤ s.timeNow)

/-- HART_FIRED: the time counter where the timer interrupt last became pending (R383): where it reached HART_CMP, or at the write of a HART_CMP
that it had reached already; a write that leaves the interrupt pending is no becoming. -/
def State.hartFired (s : State) (h : Nat) : Nat :=
  let x := s.hart h
  if s.timerPending h && !x.went then max x.cmp x.cmpAt else x.fired

/-- A write of HART_CMP. -/
def State.setCmp (s : State) (h v : Nat) : State :=
  s.onHart h (fun x => { x with
    cmp := v, cmpAt := s.timeNow, fired := s.hartFired h, went := s.timerPending h && decide (v ≤ s.timeNow) })

/-! ## Flows -/

/-- The default flow entry of Table 11.3. -/
def defaultFlow : Nat := 3 + 0xFFFF * 2 ^ 8 + 256 * 2 ^ 24

/-- A flow context. -/
def State.flow (s : State) (f : Nat) : Flow :=
  lookD s.cores.flows f { entry := defaultFlow, home := s.cores.homeRest, waitMax := 0 }

/-- A flow context replaced. -/
def State.setFlow (s : State) (f : Nat) (x : Flow) : State := s.onCores (fun c => { c with flows := put c.flows f x })

/-- CLASS of a flow entry. -/
def flowClass (e : Nat) : Nat := bits e 0 2
/-- PIN of a flow entry. -/
def flowPin (e : Nat) : Bool := bitAt e 2
/-- HOME of a flow entry. -/
def flowHome (e : Nat) : Nat := bits e 4 4
/-- HART_MASK of a flow entry. -/
def flowMask (e : Nat) : Nat := bits e 8 16
/-- DEPTH_MAX of a flow entry. -/
def flowDepth (e : Nat) : Nat := bits e 24 16

/-- A flow is class-0: the running lay names it in a C0_WINDOW entry (R393). -/
def State.flowC0 (s : State) (f : Nat) : Bool := s.cores.c0Flows.contains f

/-- A flow is in service. -/
def State.flowServed (s : State) (f : Nat) : Bool := s.cores.serving.any (fun x => x.item.flow == f)

/-- Items of a flow queued and in service. -/
def State.flowDepthNow (s : State) (f : Nat) : Nat :=
  (s.cores.queued.filter (fun i => i.flow == f)).length + (s.cores.serving.filter (fun x => x.item.flow == f)).length

/-- A flow's HART_MASK holds no available hart (R382). -/
def State.flowStalled (s : State) (f : Nat) : Bool :=
  !s.flowC0 f && (List.range 16).all (fun h => !(bitAt (flowMask (s.flow f).entry) h && s.hartUp h))

/-! ## The item pool (R390, R392) -/

/-- Items of class-0 flows in the pool. -/
def State.poolC0 (s : State) : Nat :=
  (s.cores.queued.filter (fun i => s.flowC0 i.flow)).length + (s.cores.serving.filter (fun x => s.flowC0 x.item.flow)).length

/-- POOL_FREE, kept items included. -/
def State.poolFree (s : State) : Nat := 131072 - s.cores.queued.length - s.cores.serving.length

/-- Items free to flows that are not class-0: class-0 items draw on the 1,024 kept ones first. -/
def State.poolOpen (s : State) : Nat := s.poolFree - (1024 - s.poolC0)

/-! ## Windows (R399 to R401) -/

/-- The window interrupt on a hart: pc and mode saved (what they were is open: DESIGN CHOICE, notes/assumptions/3.md), WIN_INFO set, machine
mode at WIN_VECTOR; a WIN_VECTOR of 0 returns at once (R400). A hart that the debugger halts takes it when it resumes (R399). -/
def State.windowIrq (s : State) (h : Nat) (w : TaskWindow) : State :=
  let st := s.hartState h
  if st = 4 then s.onHart h (fun x => { x with deferred := some w })
  else if st ≠ 2 ∧ st ≠ 3 then s
  else
    let (pc, s1) := s.free
    let (priv, s2) := s1.free
    let vec := s.rd O.WIN_VECTOR
    let info := w.flow % 2 ^ 16 + (match w.hitch with
      | some k => k % 2 ^ 10 * 2 ^ 16 + 2 ^ 26
      | none => 0)
    let s3 := (((s2.setHart h 2).bump O.C0_WINDOWS).emit (.windowInterrupt h w.flow))
    s3.onHart h (fun x => { x with
      winEpc := pc % 2 ^ 64
      winStatus := priv % 4
      winInfo := if vec = 0 then info else info + 2 ^ 31
      pc := if vec = 0 then pc % 2 ^ 64 else vec
      priv := if vec = 0 then priv % 4 else 3 })

/-- A C0_WINDOW entry on a hart: its window opens and the window interrupt comes; in its handler it is deferred to the return (R401). -/
def State.taskWindow (s : State) (h : Nat) (w : TaskWindow) : State :=
  if (s.hart h).active then (s.bump O.WINDOW_DEFERRED).onHart h (fun x => { x with deferred := some w })
  else (s.onHart h (fun x => { x with window := some w })).windowIrq h w

/-- An item of a class-0 flow becomes ready: where its window is open and its hart not in the handler, the window interrupt comes again
(R401). -/
def State.windowAgain (s : State) (f : Nat) : State :=
  match (List.range 16).find? (fun h => match (s.hart h).window with
      | some w => w.flow == f && !(s.hart h).active
      | none => false) with
  | some h => match (s.hart h).window with
    | some w => s.windowIrq h w
    | none => s
  | none => s

/-! ## Items (R392, R397) -/

/-- The hart whose ready list an item of a flow joins, none for a class-0 flow, a flow in service or a stalled one. -/
def State.readyHart (s : State) (f : Nat) : Option Nat :=
  if s.flowC0 f || s.flowServed f || s.flowStalled f then none else some (s.flow f).home

/-- A field of what comes with a new item. -/
structure NewItem where
  flow : Nat
  addr : Nat
  source : Nat
  arg : Nat
  taints : List Nat
  frame : Option Nat
deriving DecidableEq, Repr

/-- The number of the item after one: it wraps past 0 (Table 11.5). -/
def nextSeqOf (q : Nat) : Nat := if (q + 1) % 2 ^ 32 = 0 then 1 else (q + 1) % 2 ^ 32

/-- An item queued to its flow, or refused: the ENQ_RESULT code 0 OK, 1 FLOW_DISABLED, 2 FLOW_FULL, 3 POOL_FULL, and the state (R392). -/
def State.enqueue (s : State) (n : NewItem) : Nat × State :=
  let e := (s.flow n.flow).entry
  let c0 := s.flowC0 n.flow
  if !c0 && flowDepth e == 0 then (1, s.bump O.FLOW_DISABLED)
  else if flowDepth e ≤ s.flowDepthNow n.flow then (2, (s.bump O.FLOW_FULL).raiseEv O.SCHED_EVENTS 1)
  else if !c0 && s.poolOpen == 0 then (3, s.bump O.POOL_FULL)
  else
    let item : Item :=
      { seq := s.cores.nextSeq, flow := n.flow, addr := n.addr, source := n.source, requeued := false, c0 := false,
        taints := n.taints, arg := n.arg, readyOn := s.readyHart n.flow, readyAt := s.now, frame := n.frame }
    let s1 := (s.bump O.ITEMS_QUEUED).onCores (fun c => { c with
      queued := c.queued ++ [item], nextSeq := nextSeqOf c.nextSeq })
    let s2 := if s.poolFree = 4096 then s1.raiseEv O.SCHED_EVENTS 0 else s1
    let s3 := if s.flowStalled n.flow then s2.raiseEv O.SCHED_EVENTS 4 else s2
    let s4 := s3.placeNew 2 n.flow 1
    (0, if c0 then s4.windowAgain n.flow else s4)

/-- A hardware block's item: its state whether or not it was queued (R392). -/
def State.deliver (s : State) (n : NewItem) : State := (s.enqueue n).2

/-- The class an item is dispatched in. -/
def State.itemClass (s : State) (i : Item) : Nat := if s.flowC0 i.flow then 0 else flowClass (s.flow i.flow).entry

/-- The oldest item of the highest class of a list. -/
def State.bestItem (s : State) (l : List Item) : Option Item :=
  l.foldl (fun b i => match b with
    | none => some i
    | some j => if s.itemClass i < s.itemClass j then some i else some j) none

/-- Items of a hart's ready list that can be dispatched: their flows are not in service. -/
def State.readyOf (s : State) (h : Nat) : List Item :=
  s.cores.queued.filter (fun i => i.readyOn == some h && !s.flowServed i.flow && !s.flowC0 i.flow)

/-- Items that hart `h` may steal from harts that meet `from_` after `ns` nanoseconds (R397). -/
def State.stealable (s : State) (h ns : Nat) (from_ : Nat → Bool) : List Item :=
  s.cores.queued.filter (fun i =>
    match i.readyOn with
    | some k => k != h && from_ k && !s.flowServed i.flow && !s.flowC0 i.flow && !flowPin (s.flow i.flow).entry &&
        bitAt (flowMask (s.flow i.flow).entry) h && decide (ns ≤ 5 * (s.now - i.readyAt))
    | none => false)

/-- The item that GET gives a hart, whether it is stolen and whether it comes of the hart's window (R397, R401); a hart that placement bars
gets its windows' items alone (R147, R157). -/
def State.nextItem (s : State) (h : Nat) : Option (Item × Bool × Bool) :=
  let win := match (s.hart h).window with
    | some w => s.cores.queued.find? (fun i => i.flow == w.flow && !s.flowServed i.flow)
    | none => none
  let far := s.rd O.STEAL_FAR_NS
  match win with
  | some i => some (i, false, true)
  | none =>
    if s.memberBarred (0x420 + h) then none
    else match s.bestItem (s.readyOf h) with
    | some i => some (i, false, false)
    | none => match s.bestItem (s.stealable h (s.rd O.STEAL_NEAR_NS) (fun k => k / 4 == h / 4)) with
      | some i => some (i, true, false)
      | none =>
        if far = 0xFFFFFFFF then none
        else (s.bestItem (s.stealable h far (fun k => k / 4 != h / 4))).map (fun i => (i, true, false))

/-- Word 0 of an item (Table 11.5). -/
def itemWord (i : Item) : Nat :=
  i.addr % 2 ^ 40 + i.flow % 2 ^ 16 * 2 ^ 40 + i.source % 8 * 2 ^ 56 + (if i.requeued then 2 ^ 59 else 0) +
  (if i.c0 then 2 ^ 60 else 0) + (if i.taints.isEmpty then 0 else 2 ^ 61) + 2 ^ 63

/-- Items a hart holds in service. -/
def State.held (s : State) (h : Nat) : List Service1 := s.cores.serving.filter (fun x => x.hart == h)

/-- GET on a hart's task port (R395, R397): the word it returns and the state with the item in service. The flow's other items wait in its own
queue from then on, so that they are served in queue order whichever hart becomes the flow's home. -/
def State.taskGet (s : State) (h : Nat) : Nat × State :=
  if 8 ≤ (s.held h).length then (0, s)
  else match s.nextItem h with
  | none => (0, s)
  | some (i, stolen, win) =>
    let i1 := { i with c0 := win }
    let wait := s.now - i.readyAt
    let fl := s.flow i.flow
    let s1 := s.setFlow i.flow { fl with
      home := if flowPin fl.entry then fl.home else h, waitMax := max fl.waitMax wait }
    let s2 := s1.onCores (fun c => { c with
      queued := (c.queued.filter (fun j => j.seq != i.seq)).map (fun j => if j.flow = i.flow then { j with readyOn := none } else j)
      serving := c.serving ++ [{ item := i1, hart := h, since := s.now, cancelled := false, limitCounted := false,
                                 forwarded := false }] })
    let s3 := s2.onHart h (fun x => { x with
      getArg := i.seq + i.arg % 2 ^ 32 * 2 ^ 32, waitSum := x.waitSum + wait, waitCnt := x.waitCnt + 1
      waitMax := max x.waitMax wait })
    (itemWord i1, if stolen then s3.bump O.STOLEN else s3)

/-- The first item that waits in a flow's own queue joins its home's ready list (R397). -/
def State.flowNext (s : State) (f : Nat) : State :=
  match s.cores.queued.find? (fun i => i.flow == f && i.readyOn.isNone), s.readyHart f with
  | some i, some h => s.onCores (fun c => { c with
      queued := c.queued.map (fun j => if j.seq = i.seq then { j with readyOn := some h, readyAt := s.now } else j) })
  | _, _ => if s.flowC0 f && s.cores.queued.any (fun i => i.flow == f) then s.windowAgain f else s

/-- A flow without items has no buffers to keep anywhere (R151). -/
def State.flowIdle (s : State) (f : Nat) : State := if s.flowDepthNow f = 0 then s.dropObj 2 f else s

/-- An item leaves service and its flow is released. -/
def State.endService (s : State) (x : Service1) : State :=
  ((s.onCores (fun c => { c with serving := c.serving.filter (fun y => y.item.seq != x.item.seq) })).flowNext x.item.flow).flowIdle x.item.flow

/-- DONE of an item held in service, its buffer kept or freed (R395). -/
def State.itemDone (s : State) (x : Service1) (keep : Bool) : State :=
  let s1 := ((s.bump O.ITEMS_DONE).onHart x.hart (fun h => { h with done := h.done + 1, busy := h.busy + (s.now - x.since) }))
  let s2 := if keep && x.item.source != 0 then s1.onCores (fun c => { c with kept := c.kept ++ [(x.item.addr, x.item.taints)] }) else s1
  s2.endService x

/-- The taints an ENQ of a hart inherits (R396). -/
def State.heldTaints (s : State) (h : Nat) : List Nat := sortNub ((s.held h).flatMap (fun x => x.item.taints))

/-- A hart holds an item in service that has been cancelled (R398). -/
def State.heldCancelled (s : State) (h : Nat) : Bool := (s.held h).any (fun x => x.cancelled)

/-- Items that meet a test are cancelled (R398): queued ones removed with their buffers, those in service marked; the frames of queued hitch items come
with the state, for the router to drop. -/
def State.cancelItems (s : State) (p : Item → Bool) : List Nat × State :=
  let gone := s.cores.queued.filter p
  let marked := s.cores.serving.filter (fun x => p x.item && !x.cancelled)
  let s0 := { s with eth := { s.eth with excBufs := s.eth.excBufs.filter (fun e => !gone.any (fun i => i.addr == e.1)) } }
  let s1 := ((s0.bumpBy O.CANCELLED_QUEUED gone.length).bumpBy O.CANCELLED_IN_SERVICE marked.length).onCores (fun c =>
    { c with
      queued := c.queued.filter (fun i => !p i)
      serving := c.serving.map (fun x => if p x.item then { x with cancelled := true } else x) })
  let s2 := marked.foldl (fun s x => s.onHart x.hart (fun h => { h with cancelSeq := x.item.seq, cancelPending := true })) s1
  let s3 := (gone.map (fun i => i.flow)).foldl State.flowIdle (if gone.isEmpty && marked.isEmpty then s2 else s2.raiseEv O.SCHED_EVENTS 5)
  (gone.filterMap (fun i => i.frame), s3)

/-- A job's taint is cleared from every item (R398). -/
def State.clearTaint (s : State) (job : Nat) : State :=
  s.onCores (fun c => { c with
    queued := c.queued.map (fun i => { i with taints := i.taints.filter (· != job) })
    serving := c.serving.map (fun x => { x with item := { x.item with taints := x.item.taints.filter (· != job) } }) })

/-! ## Stopped harts and homes (R381, R382) -/

/-- Ready items on a hart's list. -/
def State.readyCount (s : State) (h : Nat) : Nat := (s.cores.queued.filter (fun i => i.readyOn == some h)).length

/-- The available hart of a mask with the fewest ready items, the lowest on a tie. -/
def State.newHome (s : State) (mask : Nat) : Option Nat :=
  ((List.range 16).foldl (fun (b : Option (Nat × Nat)) (h : Nat) =>
    if bitAt mask h && s.hartUp h && !s.memberBarred (0x420 + h) then
      match b with
      | none => some (s.readyCount h, h)
      | some (n, k) => if s.readyCount h < n then some (s.readyCount h, h) else some (n, k)
    else b) none).map (fun x => x.2)

/-- A flow's home moves, its ready items with it in their order (R382). -/
def State.moveHome (s : State) (f h : Nat) : State :=
  let fl := s.flow f
  ((s.setFlow f { fl with home := h }).onCores (fun c => { c with
    queued := c.queued.map (fun i => if i.flow = f ∧ i.readyOn.isSome then { i with readyOn := some h } else i) })).bump
    O.HOME_MOVES

/-- A flow whose home is unavailable, or that its HART_MASK does not let serve it, moves, or stands STALLED with its items in its own queue
(R382). -/
def State.rehome (s : State) (f : Nat) : State :=
  let fl := s.flow f
  if s.hartUp fl.home && (bitAt (flowMask fl.entry) fl.home || s.flowC0 f) then s
  else match (if flowPin fl.entry then none else s.newHome (flowMask fl.entry)) with
  | some h => s.moveHome f h
  | none =>
    let s1 := s.onCores (fun c => { c with
      queued := c.queued.map (fun i => if i.flow = f then { i with readyOn := none } else i) })
    if s.cores.queued.any (fun i => i.flow == f && i.readyOn.isSome) then s1.raiseEv O.SCHED_EVENTS 4 else s1

/-- Every flow whose home is unavailable moves to an available hart (R382); flows that no entry lists move together. -/
def State.rehomeAll (s : State) : State :=
  let s1 := s.cores.flows.foldl (fun s e => s.rehome e.1) s
  let busy := sortNub ((s1.cores.queued.filter (fun i => (look s1.cores.flows i.flow).isNone)).map (fun i => i.flow))
  let s2 := busy.foldl (fun s f => s.rehome f) s1
  if s2.hartUp s2.cores.homeRest then s2
  else match s2.newHome 0xFFFF with
  | some h => (s2.onCores (fun c => { c with homeRest := h })).bumpBy O.HOME_MOVES (65536 - s2.cores.flows.length)
  | none => s2

/-- A hart has become available: flows that waited for one move to it and their items join its ready list (R382). -/
def State.hartBack (s : State) : State :=
  let s1 := s.rehomeAll
  (sortNub (s1.cores.queued.map (fun i => i.flow))).foldl (fun s f =>
    if s.cores.queued.any (fun i => i.flow == f && i.readyOn.isSome) then s else s.flowNext f) s1

/-- A hart is stopped (R381): its items in service go back to the head of their flows, its window is closed, and homes move. -/
def State.hartStop (s : State) (h st : Nat) : State :=
  let mine := s.held h
  let back := mine.map (fun x => { x.item with requeued := true, c0 := false, readyAt := s.now, readyOn := none })
  let s1 := ((s.setHart h st).bumpBy O.REQUEUED mine.length).onCores (fun c => { c with
    queued := back ++ c.queued
    serving := c.serving.filter (fun x => x.hart != h) })
  let s2 := s1.onHart h (fun x => { x with window := none, deferred := none, winInfo := 0 })
  let s3 := s2.rehomeAll
  back.foldl (fun s i => s.flowNext i.flow) s3

/-- The flows of C0_WINDOW entries of the running section become class-0; queued items of a flow no longer named join its home's ready
list (R393). -/
def State.renameC0 (s : State) : State :=
  let named := sortNub (((strandsOf s.runWords s.runSec).flatMap Strand.changes).filterMap (fun e =>
    if eKind e.w = 6 ∧ eAction e.w = 1 then some (bits e.w 0 16) else none))
  let dropped := s.cores.c0Flows.filter (fun f => !named.contains f)
  let s1 := s.onCores (fun c => { c with c0Flows := named })
  dropped.foldl (fun s f => (s.cores.queued.filter (fun i => i.flow == f)).foldl (fun s _ => s.flowNext f) s) s1

/-! ## Derived objects (Table 11.7) -/

/-- FLOW_STATUS of a flow (Table 11.7). -/
def State.flowStatus (s : State) (f : Nat) : Nat :=
  let fl := s.flow f
  let depth := s.flowDepthNow f
  let st :=
    if flowDepth fl.entry = 0 ∧ !s.flowC0 f then 0
    else if s.flowServed f then 3
    else if s.flowStalled f then 4
    else if depth = 0 then 1 else 2
  let serving := match s.cores.serving.find? (fun x => x.item.flow == f) with
    | some x => x.hart
    | none => 0xFF
  st + fl.home * 2 ^ 8 + serving * 2 ^ 16 + (if s.flowC0 f then 2 ^ 24 else 0) + depth * 2 ^ 32 +
    min (2 ^ 32 - 1) (5 * fl.waitMax) * 2 ^ 64

/-- PORT_STATUS of a hart (Table 11.4). -/
def State.portStatus (s : State) (h : Nat) : Nat :=
  let n := fun c => (s.cores.queued.filter (fun i => i.readyOn == some h && s.itemClass i == c)).length % 2 ^ 16
  (s.held h).length + (if (s.hart h).window.isSome then 2 ^ 8 else 0) + n 1 * 2 ^ 16 + n 2 * 2 ^ 32 + n 3 * 2 ^ 48

/-- CLASS_DEPTH: ready items of C0 to C3. -/
def State.classDepth (s : State) : Nat :=
  (List.range 4).foldl (fun v c => v + 2 ^ (32 * c) *
    (s.cores.queued.filter (fun i => s.itemClass i == c && (c == 0 || i.readyOn.isSome))).length) 0

/-- READY_DEPTH: ready items per hart. -/
def State.readyDepth (s : State) : Nat :=
  (List.range 16).foldl (fun v h => v + 2 ^ (32 * h) * s.readyCount h) 0

end Sys2Proof.Machine
end

