-- ==== Sys2Proof/Machine/CoreCmd.lean ====
section
/-!
DEFINITION. The core and task family, but for what reaches into other blocks (DONE, FORWARD and TASK END of hitch frames, boot, the
watchdog's reset and the debugger stand in later files): timers, the task port, flow commands, windows and load figures (11).
-/
namespace Sys2Proof.Machine

/-- A hart executes instructions: only a RUNNING hart whose cluster is powered reaches its task port, CSRs and timer page. -/
def State.hartRuns (s : State) (h : Nat) : Bool := s.hartState h == 2 && s.idPowered (0x420 + h)

/-! ## Timers (R383) -/

/-- HART_TIMER_FIRE: `cmp` is written to HART_CMP; a time counter that has reached it makes the machine timer interrupt pending, and HART_FIRED
keeps where it became so (R383). -/
def execHartTimerFire (t : Tick) (hart : Fin 16) (cmp : Nat) (s : State) : Host.Outcome State Fault Refusal :=
  .next ((s.tickTo t).setCmp hart.val (cmp % 2 ^ 64))

/-- HART_SIP_WRITE: bit 0 is the machine software interrupt (R383). -/
def execHartSipWrite (t : Tick) (hart : Fin 16) (val : Nat) (s : State) : Host.Outcome State Fault Refusal :=
  .next ((s.tickTo t).onHart hart.val (fun x => { x with sip := val % 2 }))

/-! ## Watchdog (R389) -/

/-- The watchdog period in ticks, 0 while it is off. -/
def State.wdtTk (s : State) : Nat := s.rd O.WDT_PERIOD_MS * msTk

/-- A write of WDT_KICK. -/
def State.opWdtKick (s : State) (val : Nat) : Except Abort State :=
  if val = 0x5A5A then .ok (s.onCores (fun c => { c with wdtAt := s.now, wdtWarned := false, wdtIrq := false }))
  else .error .valueRange

/-- WDT_PRETIMEOUT: half the period has passed without a kick (R389). -/
def execWdtPretimeout (t : Tick) (s : State) : Host.Outcome State Fault Refusal :=
  let s1 := s.tickTo t
  .next (if s1.wdtTk ≠ 0 ∧ !s1.cores.wdtWarned ∧ 2 * s1.cores.wdtAt + s1.wdtTk ≤ 2 * s1.now then
      ((s1.onCores (fun c => { c with wdtWarned := true, wdtIrq := true })).bump O.WDT_PRETIMEOUTS).faultN 7
    else s1)

/-! ## Harts (R388) -/

/-- A write of HART_START: every PARKED hart of the mask begins at HART_ENTRY in machine mode with its number in a0. -/
def State.opHartStart (s : State) (mask : Nat) : State :=
  (List.range 16).foldl (fun s h =>
    if bitAt mask h ∧ s.hartState h = 1 then
      (s.setHart h 2).onHart h (fun x => { x with pc := s.rd O.HART_ENTRY, priv := 3, a0 := h })
    else s) s

/-! ## The task port (Table 11.4) -/

/-- A read of GET: the word reaches the hart. -/
def State.portGet (s : State) (h : Nat) : State :=
  let (w, s1) := s.taskGet h
  s1.emit (.csrData h w)

/-- TASK_GET. -/
def execTaskGet (t : Tick) (hart : Fin 16) (s : State) : Host.Outcome State Fault Refusal :=
  let s1 := s.tickTo t
  .next (if s1.hartRuns hart.val then s1.portGet hart.val else s1)

/-- TASK_ENQ_ARG. -/
def execTaskEnqArg (t : Tick) (hart : Fin 16) (arg : Nat) (s : State) : Host.Outcome State Fault Refusal :=
  let s1 := s.tickTo t
  .next (if s1.hartRuns hart.val then s1.onHart hart.val (fun x => { x with enqArg := arg % 2 ^ 32 }) else s1)

/-- An ENQ of a running hart (R396, R398): its ENQ_RESULT and the item queued. -/
def State.taskEnq (s : State) (h addr flow : Nat) : State :=
  if s.heldCancelled h then
    (s.bump O.DISCARDED_AFTER_CANCEL).onHart h (fun x => { x with enqResult := 4 })
  else if s.flowC0 flow then s.onHart h (fun x => { x with enqResult := 5 })
  else
    let (r, s1) := s.enqueue { flow := flow, addr := addr % 2 ^ 40, source := 0, arg := (s.hart h).enqArg,
                               taints := s.heldTaints h, frame := none }
    s1.onHart h (fun x => { x with enqResult := r })

/-- TASK_ENQ. -/
def execTaskEnq (t : Tick) (hart : Fin 16) (addr : Nat) (flow : Fin 65536) (s : State) :
    Host.Outcome State Fault Refusal :=
  let s1 := s.tickTo t
  .next (if s1.hartRuns hart.val then s1.taskEnq hart.val addr flow.val else s1)

/-- A read of CANCEL_SEQ clears TASK_CANCEL (R385). -/
def State.portCancelSeq (s : State) (h : Nat) : State :=
  (s.onHart h (fun x => { x with cancelPending := false })).emit (.csrData h (s.hart h).cancelSeq)

/-- CANCEL_SEQ_READ. -/
def execCancelSeqRead (t : Tick) (hart : Fin 16) (s : State) : Host.Outcome State Fault Refusal :=
  let s1 := s.tickTo t
  .next (if s1.hartRuns hart.val then s1.portCancelSeq hart.val else s1)

/-! ## Flow commands (R391) -/

/-- A flow's entry applied: a home that may not serve it moves, and items that waited for one go on (R382). -/
def State.flowApply (s : State) (f : Nat) (x : Flow) : State := ((s.setFlow f x).rehome f).flowNext f

/-- FLOW_COMMAND WRITE: the entry applied at once; BAD_FIELD refuses CLASS 0 and HART_MASK 0; a class-0 flow keeps its CLASS, PIN and
HART_MASK and answers C0_FLOW where they would change. -/
def State.flowWrite (s : State) (f e : Nat) : Nat × State :=
  let fl := s.flow f
  let keep := fun (e : Nat) => { fl with entry := setBits e 40 24 0, home := flowHome e }
  if flowClass e = 0 ∨ flowMask e = 0 then (2, s)
  else if s.flowC0 f ∧ (flowClass e ≠ flowClass fl.entry ∨ flowPin e ≠ flowPin fl.entry ∨ flowMask e ≠ flowMask fl.entry) then
    let kept := setBits (setBits (setBits e 0 2 (flowClass fl.entry)) 2 1 (bits fl.entry 2 1)) 8 16 (flowMask fl.entry)
    (3, s.flowApply f (keep kept))
  else (0, s.flowApply f (keep e))

/-- A write of FLOW_COMMAND, for the flow in the requester's FLOW_INDEX; the frames of cancelled hitch items come with the state. -/
def State.opFlowCommand (s : State) (r : Req) (val : Nat) : Except Abort (List Nat × State) :=
  let f := s.rdReq r O.FLOW_INDEX
  let done := fun (x : Nat × State) => Except.ok (([] : List Nat), x.2.wrReq r O.FLOW_RESULT x.1)
  match val with
  | 1 => done (s.flowWrite f (s.rdReq r O.FLOW_ENTRY))
  | 2 => done (0, s.wrReq r O.FLOW_ENTRY (s.flow f).entry)
  | 3 =>
    let (fr, s1) := s.cancelItems (fun i => i.flow == f)
    .ok (fr, s1.wrReq r O.FLOW_RESULT 0)
  | 4 => done (0, s.wrReq r O.FLOW_STATUS (s.flowStatus f))
  | _ => .error .valueRange

/-! ## Windows (R399 to R401) -/

/-- The window return of a hart in its handler: it resumes at WIN_EPC, and a window deferred meanwhile is taken (R400, R401). -/
def State.winReturn (s : State) (h : Nat) : State :=
  let x := s.hart h
  if !x.active then s
  else
    let s1 := s.onHart h (fun x => { x with
      pc := x.winEpc, priv := x.winStatus, winInfo := clearBit x.winInfo 31, deferred := none })
    match x.deferred with
    | some w => s1.taskWindow h w
    | none => s1

/-- WIN_RETURN. -/
def execWinReturn (t : Tick) (hart : Fin 16) (s : State) : Host.Outcome State Fault Refusal :=
  .next ((s.tickTo t).winReturn hart.val)

/-! ## Observation (R404) -/

/-- A hart's record of the last 100 ms: BUSY_PPM is open (DESIGN CHOICE, notes/assumptions/3.md), items done, mean and longest wait. -/
def State.loadRecord (s : State) (h : Nat) : State :=
  let (busy, s1) := s.free
  let x := s.hart h
  let mean := if x.waitCnt = 0 then 0 else 5 * x.waitSum / x.waitCnt
  s1.onHart h (fun y => { y with
    load := busy % 2 ^ 32 + x.done % 2 ^ 32 * 2 ^ 32 + min (2 ^ 32 - 1) mean * 2 ^ 64 +
      min (2 ^ 32 - 1) (5 * x.waitMax) * 2 ^ 96
    busy := 0, done := 0, waitSum := 0, waitCnt := 0, waitMax := 0 })

/-- HART_LOAD_REFRESH: every 100 ms (R404). -/
def execHartLoadRefresh (t : Tick) (s : State) : Host.Outcome State Fault Refusal :=
  let s1 := s.tickTo t
  .next (if s1.cores.loadAt + 100 * msTk ≤ s1.now then
      (List.range 16).foldl (fun s h => s.loadRecord h) (s1.onCores (fun c => { c with loadAt := s1.now }))
    else s1)

/-- HART_LOAD: 16 records of 16 octets. -/
def State.hartLoad (s : State) : Nat := (List.range 16).foldl (fun v h => v + 2 ^ (128 * h) * (s.hart h).load) 0

/-- SERVICE_LIMIT_EXCEEDED: an item in service longer than SERVICE_LIMIT_US counts once (Table 11.7). -/
def execServiceLimitExceeded (t : Tick) (seq : Nat) (s : State) : Host.Outcome State Fault Refusal :=
  let s1 := s.tickTo t
  let limit := s1.rd O.SERVICE_LIMIT_US * 200
  .next (match s1.cores.serving.find? (fun x => x.item.seq == seq) with
    | some x =>
      if limit ≠ 0 ∧ x.since + limit < s1.now ∧ !x.limitCounted then
        ((s1.bump O.SERVICE_LIMIT).raiseEv O.SCHED_EVENTS 2).onCores (fun c => { c with
          serving := c.serving.map (fun y => if y.item.seq = seq then { y with limitCounted := true } else y) })
      else s1
    | none => s1)

end Sys2Proof.Machine
end

