-- ==== Sys2Proof/Machine/Aes.lean ====
section
/-!
DEFINITION. What the engines and the wrap unit compute (08, R291, R303, R312): AES (FIPS 197), CCM* (IEEE 802.15.4-2020), GCM (NIST SP 800-38D),
AES key wrap (RFC 3394), HKDF-SHA-256 (RFC 5869); and the frame check sequences of the two media. The constants are the standards' own.
-/
namespace Sys2Proof.Machine

/-! ## AES -/

/-- The S-box, 32 octets a number, octet 0 lowest. -/
def aesBox : List Nat :=
  [0xc072a49cafa2d4adf04759fa7dc982ca76abd7fe2b670130c56f6bf27b777c63,
   0x75b227ebe28012079a059618c323c7041531d871f1e5a534ccf73f362693fdb7,
   0xcf584c4a39becb6a5bb1fc20ed00d153842fe329b3d63b52a05a6e1b1a2c8309,
   0xd2f3ff1021dab6bcf5389d928f40a351a89f3c507f02f94585334d43fbaaefd0,
   0xdb0b5ede14b8ee4688902a22dc4f816073195d643d7ea7c41744975fec130ccd,
   0x08ae7a65eaf4566ca94ed58d6d37c8e779e4959162acd3c25c2406490a3a32e0,
   0x9e1dc186b95735610ef6034866b53e708a8bbd4b1f74dde8c6b4a61c2e2578ba,
   0x16bb54b00f2d99416842e6bf0d89a18cdf2855cee9871e9b948ed9691198f8e1]

/-- The inverse S-box. -/
def aesInvBox : List Nat :=
  [0xcbe9dec444438e3487ff2f9b8239e37cfbd7f3819ea340bf38a53630d56a0952,
   0x25d18b6d49a25b76b224d92866a12e084ec3fa420b954cee3d23c2a632947b54,
   0x849d8da75746155edab9edfd5048706c92b6655dcc5ca4d41698688664f6f872,
   0x6b8a130103bdafc1020f3fca8f1e2cd00645b3b80558e4f70ad3bc8c00abd890,
   0x6edf751ce837f9e28535ade72274ac9673e6b4f0cecff297eadc674f4111913a,
   0xf45acd78fec0db9a2079d2c64b3e56fc1bbe18aa0e62b76f89c5291d711af147,
   0xef9cc9939f7ae52d0d4ab519a97f51605fec8027591012b131c7078833a8dd1f,
   0x7d0c2155631469e126d677ba7e042b17619953833cbbebc8b0f52aae4d3be0a0]

/-- An octet of a box. -/
def boxAt (t : List Nat) (x : Nat) : Nat := octet (t.getD (x / 32) 0) (x % 32)

/-- Double of an element of the field of 256. -/
def aesDouble (x : Nat) : Nat := if x < 128 then 2 * x else (2 * x) % 256 ^^^ 0x1B

/-- The product of an element and a small constant. -/
def aesMul (x c : Nat) : Nat :=
  let d := aesDouble x
  let q := aesDouble d
  (if bitAt c 0 then x else 0) ^^^ (if bitAt c 1 then d else 0) ^^^ (if bitAt c 2 then q else 0) ^^^ (if bitAt c 3 then aesDouble q else 0)

/-- Octets added in the field. -/
def xorAll (a b : List Nat) : List Nat := List.zipWith (· ^^^ ·) a b

/-- `n` more words of the key schedule on those before, newest first, for a key of `nk` words; `i` the number of the next. -/
def aesSchedule (nk : Nat) : Nat → Nat → Nat → List (List Nat) → List (List Nat)
  | 0, _, _, w => w
  | n + 1, i, rcon, w =>
    let prev := w.headD []
    let box := fun (l : List Nat) => l.map (boxAt aesBox)
    let t := if i % nk = 0 then xorAll (box (prev.drop 1 ++ prev.take 1)) [rcon, 0, 0, 0] else if 6 < nk ∧ i % nk = 4 then box prev else prev
    aesSchedule nk n (i + 1) (if i % nk = 0 then aesDouble rcon else rcon) (xorAll (w.getD (nk - 1) []) t :: w)

/-- The round keys of a key of 16 or 32 octets. -/
def aesKeys (key : List Nat) : List (List Nat) :=
  let nk := key.length / 4
  let w := (aesSchedule nk (3 * nk + 28) nk 1 ((List.range nk).map (fun k => (key.drop (4 * k)).take 4)).reverse).reverse
  (List.range (nk + 7)).map (fun r => ((w.drop (4 * r)).take 4).flatten)

/-- The rows of a block shifted, `k` 1 forwards and 3 backwards. -/
def aesShift (k : Nat) (b : List Nat) : List Nat := (List.range 16).map (fun i => b.getD ((i + 4 * k * (i % 4)) % 16) 0)

/-- The columns of a block multiplied by the polynomial with these coefficients. -/
def aesMix (m : List Nat) (b : List Nat) : List Nat :=
  (List.range 16).map (fun i => (List.range 4).foldl (fun v k =>
    v ^^^ aesMul (b.getD (i / 4 * 4 + (i + k) % 4) 0) (m.getD k 0)) 0)

/-- A block encrypted under round keys. -/
def aesEnc (ks : List (List Nat)) (b : List Nat) : List Nat :=
  let step := fun (b k : List Nat) => aesShift 1 (b.map (boxAt aesBox)) |> fun x => xorAll (aesMix [2, 3, 1, 1] x) k
  let mid := ((ks.drop 1).dropLast).foldl step (xorAll b (ks.headD []))
  xorAll (aesShift 1 (mid.map (boxAt aesBox))) (ks.getLastD [])

/-- A block decrypted under round keys. -/
def aesDec (ks : List (List Nat)) (b : List Nat) : List Nat :=
  let step := fun (b k : List Nat) => aesMix [14, 11, 13, 9] (xorAll ((aesShift 3 b).map (boxAt aesInvBox)) k)
  let mid := ((ks.reverse.drop 1).dropLast).foldl step (xorAll b (ks.getLastD []))
  xorAll ((aesShift 3 mid).map (boxAt aesInvBox)) (ks.headD [])

/-- Octets as numbers, and back. -/
def toNats (l : List Byte) : List Nat := l.map (fun b => b.toNat)

/-- Numbers as octets. -/
def toBytes (l : List Nat) : List Byte := l.map (BitVec.ofNat 8)

/-- The blocks of 16 octets of a message, its last padded with zeros. -/
def blocks16 (l : List Nat) : List (List Nat) :=
  (List.range (ceilDiv l.length 16)).map (fun k =>
    let b := (l.drop (16 * k)).take 16
    b ++ List.replicate (16 - b.length) 0)

/-- A message added to the key stream of the counter blocks that `ctr` gives from 1 on. -/
def ctrMode (ks : List (List Nat)) (ctr : Nat → List Nat) (text : List Nat) : List Nat :=
  xorAll text ((List.range (ceilDiv text.length 16)).flatMap (fun k => aesEnc ks (ctr (k + 1))))

/-! ## CCM* -/

/-- Counter block `i` of a nonce of 13 octets. -/
def ccmCtr (nonce : List Nat) (i : Nat) : List Nat := 1 :: nonce ++ toNats (beOctets i 2)

/-- The first `m` octets of the encrypted tag of a header and a plaintext. -/
def ccmTag (ks : List (List Nat)) (nonce hdr text : List Nat) (m : Nat) : List Nat :=
  let flags := 1 + (if m = 0 then 0 else (m - 2) / 2 * 8) + (if hdr.isEmpty then 0 else 64)
  let b0 := flags :: nonce ++ toNats (beOctets text.length 2)
  let aad := if hdr.isEmpty then [] else blocks16 (toNats (beOctets hdr.length 2) ++ hdr)
  let mac := (b0 :: aad ++ blocks16 text).foldl (fun x b => aesEnc ks (xorAll x b)) (List.replicate 16 0)
  (xorAll mac (aesEnc ks (ccmCtr nonce 0))).take m

/-- A payload protected with a tag of `m` octets, which follows it. -/
def ccmProtect (key nonce hdr text : List Byte) (m : Nat) : List Byte :=
  let ks := aesKeys (toNats key)
  toBytes (ctrMode ks (ccmCtr (toNats nonce)) (toNats text) ++ ccmTag ks (toNats nonce) (toNats hdr) (toNats text) m)

/-- A protected payload in clear, and whether its tag is good. -/
def ccmOpen (key nonce hdr text tag : List Byte) : List Byte × Bool :=
  let ks := aesKeys (toNats key)
  let plain := ctrMode ks (ccmCtr (toNats nonce)) (toNats text)
  (toBytes plain, ccmTag ks (toNats nonce) (toNats hdr) plain tag.length == toNats tag)

/-! ## GCM -/

/-- The product of two elements of the field of GHASH, first bit highest. -/
def ghashMul (x : Nat) : Nat → Nat → Nat → Nat
  | 0, _, z => z
  | n + 1, v, z =>
    ghashMul x n (if v % 2 = 1 then v / 2 ^^^ 0xE1 * 2 ^ 120 else v / 2) (if bitAt x n then z ^^^ v else z)

/-- A block of 16 octets as an element. -/
def ofBlock (b : List Nat) : Nat := b.foldl (fun v x => 256 * v + x) 0

/-- The tag of a header and a ciphertext for a nonce of 12 octets. -/
def gcmTag (ks : List (List Nat)) (nonce hdr text : List Nat) : List Nat :=
  let h := ofBlock (aesEnc ks (List.replicate 16 0))
  let lens := toNats (beOctets (8 * hdr.length) 8 ++ beOctets (8 * text.length) 8)
  let s := (blocks16 hdr ++ blocks16 text ++ [lens]).foldl (fun y b => ghashMul (y ^^^ ofBlock b) 128 h 0) 0
  xorAll (toNats (beOctets s 16)) (aesEnc ks (nonce ++ [0, 0, 0, 1]))

/-- Counter block `i` of GCM, from 1 for the text on. -/
def gcmCtr (nonce : List Nat) (i : Nat) : List Nat := nonce ++ toNats (beOctets (i + 1) 4)

/-- A text protected, its tag of 16 octets behind it. -/
def gcmProtect (key nonce hdr text : List Byte) : List Byte :=
  let ks := aesKeys (toNats key)
  let c := ctrMode ks (gcmCtr (toNats nonce)) (toNats text)
  toBytes (c ++ gcmTag ks (toNats nonce) (toNats hdr) c)

/-- A protected text in clear, and whether its tag is good. -/
def gcmOpen (key nonce hdr text tag : List Byte) : List Byte × Bool :=
  let ks := aesKeys (toNats key)
  (toBytes (ctrMode ks (gcmCtr (toNats nonce)) (toNats text)), gcmTag ks (toNats nonce) (toNats hdr) (toNats text) == toNats tag)

/-! ## Key wrap and key derivation -/

/-- The pieces of 8 octets of a key to wrap. -/
def pieces8 (l : List Nat) : List (List Nat) := (List.range (l.length / 8)).map (fun k => (l.drop (8 * k)).take 8)

/-- The check value a wrap begins with. -/
def wrapIv : List Nat := List.replicate 8 0xA6

/-- A key of whole pieces wrapped. -/
def keyWrap (kek key : List Byte) : List Byte :=
  let ks := aesKeys (toNats kek)
  let p := pieces8 (toNats key)
  let n := p.length
  let r := (List.range (6 * n)).foldl (fun (a : List Nat × List (List Nat)) t =>
    let b := aesEnc ks (a.1 ++ a.2.getD (t % n) [])
    (xorAll (b.take 8) (toNats (beOctets (t + 1) 8)), a.2.set (t % n) (b.drop 8))) (wrapIv, p)
  toBytes (r.1 ++ r.2.flatten)

/-- A wrapped key unwrapped, none where its integrity fails. -/
def keyUnwrap (kek wrapped : List Byte) : Option (List Byte) :=
  let ks := aesKeys (toNats kek)
  let p := pieces8 (toNats wrapped)
  let n := p.length - 1
  let r := ((List.range (6 * n)).reverse).foldl (fun (a : List Nat × List (List Nat)) t =>
    let b := aesDec ks (xorAll a.1 (toNats (beOctets (t + 1) 8)) ++ a.2.getD (t % n) [])
    (b.take 8, a.2.set (t % n) (b.drop 8))) (p.headD [], p.drop 1)
  if r.1 = wrapIv then some (toBytes r.2.flatten) else none

/-- HKDF-SHA-256 for 32 octets of output. -/
def hkdf32 (salt ikm info : List Byte) : List Byte := hmacSha256 (hmacSha256 salt ikm) (info ++ [1])

/-! ## Frame check sequences -/

/-- The remainder of a reflected division, octet by octet. -/
def crcReflected (poly : Nat) (c : Nat) (l : List Byte) : Nat :=
  l.foldl (fun c b => (List.range 8).foldl (fun c _ => if c % 2 = 1 then c / 2 ^^^ poly else c / 2) (c ^^^ b.toNat)) c

/-- CRC-32 of IEEE 802.3, and of a frame of IEEE 802.15.4 with an FCS of 32 bits. -/
def crc32 (l : List Byte) : Nat := crcReflected 0xEDB88320 0xFFFFFFFF l ^^^ 0xFFFFFFFF

/-- The FCS of 16 or 32 bits of a PSDU (IEEE 802.15.4-2020): the polynomial of ITU-T over the octets, remainder 0 before the first; or CRC-32,
short frames filled up to four octets. -/
def psduFcs (fcs32 : Bool) (l : List Byte) : List Byte :=
  if fcs32 then octets (crc32 (l ++ List.replicate (4 - l.length) 0)) 4 else octets (crcReflected 0x8408 0 l) 2

end Sys2Proof.Machine
end

