-- ==== Sys2Proof/Machine/MemOps.lean ====
section
/-!
DEFINITION. Memory (12): where an address lies, octets in their one canonical list, the code and what it makes of a codeword (R405 to R407),
the error log and the counters of a read's outcome (R409, R411), pans and their power (R413), channel states (R419), the write queue (R421 to
R423), and the training helper (R429 to R432).
-/
namespace Sys2Proof.Machine

/-! ## The address map (Table 1.10) -/

/-- Where a physical address lies. -/
inductive Where where
  | brine (pan off : Nat)
  | dram (ch off : Nat)
  | other
deriving DecidableEq, Repr

/-- The memory a physical address lies in. -/
def whereIs (a : Nat) : Where :=
  if 0x100000000 ≤ a ∧ a < 0x104000000 then .brine ((a - 0x100000000) / 0x400000) ((a - 0x100000000) % 0x400000)
  else if 0x1000000000 ≤ a ∧ a < 0x1400000000 then .dram 0 (a - 0x1000000000)
  else if 0x1400000000 ≤ a ∧ a < 0x1800000000 then .dram 1 (a - 0x1400000000)
  else .other

/-- The base address of a pan. -/
def panBase (p : Nat) : Nat := 0x100000000 + p * 0x400000

/-- The base address of a channel's window. -/
def chanBase (c : Nat) : Nat := 0x1000000000 + c * 0x400000000

/-! ## Octets -/

/-- An octet written to a list in canonical form: addresses rise, an octet of 0, which unlisted addresses read as, is not listed. -/
def cellsWrite (cells : List Host.Cell) (a : Nat) (b : Byte) : List Host.Cell :=
  if b = 0 then del cells a else put cells a b

/-- The octet at an address. -/
def cellsRead (cells : List Host.Cell) (a : Nat) : Byte := lookD cells a 0

/-- A list of cells in canonical form. -/
def Memory.wf (cells : List Host.Cell) : Bool := rising cells && cells.all (fun c => c.2 != 0)

/-- Octets written from an address on, but at the addresses of `skip`. -/
def cellsWriteAll (skip : Nat → Bool) (cells : List Host.Cell) (a : Nat) : List Byte → List Host.Cell
  | [] => cells
  | b :: r => cellsWriteAll skip (if skip a then cells else cellsWrite cells a b) (a + 1) r

/-- The cells outside the addresses from `a` to below `b`: what the zeroing of a range leaves. -/
def cellsClear (cells : List Host.Cell) (a b : Nat) : List Host.Cell :=
  cells.filter (fun c => decide (c.1 < a) || decide (b ≤ c.1))

/-- Ranges, each with a mark, without the addresses from `a` to below `b`. -/
def cutRanges (l : List (Nat × Nat × Nat)) (a b : Nat) : List (Nat × Nat × Nat) :=
  l.flatMap (fun r => [(r.1, min r.2.1 a, r.2.2), (max r.1 b, r.2.1, r.2.2)].filter (fun x => decide (x.1 < x.2.1)))

/-- One octet of memory: what is stored, or an open value where a training step has destroyed it (R429). -/
def State.memByte (s : State) (a : Nat) : Byte :=
  match s.mem.wrecked.find? (fun r => decide (r.1 ≤ a ∧ a < r.2.1)) with
  | some r => BitVec.ofNat 8 (Config.freeValue r.2.2 >>> (8 * (a % 65536)))
  | none => cellsRead s.mem.cells a

/-- `n` octets of memory as their little-endian number. -/
def State.memRead (s : State) (a n : Nat) : Nat := ofOctets ((List.range n).map (fun i => s.memByte (a + i)))

/-- An address lies in the range of an early job whose tag failed: reads give zero and writes are discarded (R317). -/
def State.blanked (s : State) (a : Nat) : Bool := s.cph.zeroed.any (fun z => decide (z.2.1 ≤ a ∧ a < z.2.1 + z.2.2))

/-- Octets stored to memory, but at the addresses of `skip`. -/
def State.memPut (s : State) (skip : Nat → Bool) (a : Nat) (bs : List Byte) : State :=
  s.onMem (fun m => { m with
    cells := cellsWriteAll (fun x => s.blanked x || skip x) m.cells a bs
    wrecked := cutRanges m.wrecked a (a + bs.length) })

/-- Octets stored to memory. -/
def State.memWrite (s : State) (a : Nat) (bs : List Byte) : State := s.memPut (fun _ => false) a bs

/-- The codewords from `a` to below `b` hold what was written. -/
def State.memSound (s : State) (a b : Nat) : State :=
  s.onMem (fun m => { m with
    poison := m.poison.filter (fun x => decide (x < a) || decide (b ≤ x))
    flips := m.flips.filter (fun x => decide (x.1 < a) || decide (b ≤ x.1)) })

/-- A range of memory zeroed, its codewords sound. -/
def State.memClear (s : State) (a b : Nat) : State :=
  (s.memSound a b).onMem (fun m => { m with cells := cellsClear m.cells a b, wrecked := cutRanges m.wrecked a b })

/-- The contents of a range destroyed: open values until they are rewritten. -/
def State.memWreck (s : State) (a b : Nat) : State :=
  ({ s with freeCtr := s.freeCtr + 1 }.memClear a b).onMem (fun m => { m with wrecked := m.wrecked ++ [(a, b, s.freeCtr)] })

/-! ## Channels -/

/-- A channel beside its objects. -/
def State.chan (s : State) (c : Nat) : Chan := lookD s.mem.chans c Chan.reset

/-- A channel changed. -/
def State.onChan (s : State) (c : Nat) (f : Chan → Chan) : State :=
  s.onMem (fun m => { m with chans := modify m.chans c Chan.reset f })

/-- CH_STATE: 0 OFF, 1 UNINIT, 2 INIT, 3 UNTRAINED, 4 READY, 5 SELF_REFRESH, 6 FREQ_CHANGE. -/
def State.chState (s : State) (c : Nat) : Nat := s.rd (O.CH_STATE c)

/-- CH_STATE set. -/
def State.setCh (s : State) (c st : Nat) : State :=
  let s1 := s.wr (O.CH_STATE c) st
  if c = 0 ∧ s.cph.rewrapFrom.isSome then s1.setSt O.REWRAP_STATUS 12 4 (if st = 4 then 1 else 2) else s1

/-- N_ROW of Table 12.3. -/
def nRow (width density : Nat) : Nat := if width = 0 then 15 + density else 14 + density

/-- The fitted capacity of a channel in octets, as declared (R416). -/
def State.fittedCap (s : State) (c : Nat) : Nat :=
  if s.rd (O.DENSITY c) = 0 then 0
  else min (s.rd (O.RANKS c) * 2 ^ (17 + nRow (s.rd (O.DEVICE_WIDTH c)) (s.rd (O.DENSITY c)))) (2 ^ 34)

/-- A channel serves requests: READY, or in self-refresh by idleness (R420, R427). -/
def State.chServes (s : State) (c : Nat) : Bool := s.chState c == 4 || (s.chState c == 5 && (s.chan c).idle)

/-- FITTED_BYTES (R416, R420). -/
def State.fittedBytes (s : State) (c : Nat) : Nat := if s.chServes c then s.fittedCap c else 0

/-- A channel is held in self-refresh by shedding or for a controller test (R420). -/
def State.chShed (s : State) (c : Nat) : Bool := s.chState c == 5 && !(s.chan c).idle

/-- Ranks that a channel declares. -/
def State.rankCount (s : State) (c : Nat) : Nat := if s.rd (O.DENSITY c) = 0 then 0 else s.rd (O.RANKS c)

/-- tRFC in ticks of a rank (0 to 3 over both channels), `none` where it is not fitted (Table 12.3). -/
def State.rankTrfc (s : State) (rank : Nat) : Option Nat :=
  if rank % 2 < s.rankCount (rank / 2) then
    match s.rd (O.DENSITY (rank / 2)) with
    | 1 => some 52
    | 2 => some 70
    | _ => some 110
  else none

/-- A rank's windows and calibration. -/
def Chan.rank (c : Chan) (r : Nat) : RankState := c.ranks.getD r RankState.reset

/-- A rank of a channel changed. -/
def Chan.onRank (c : Chan) (r : Nat) (f : RankState → RankState) : Chan := { c with ranks := c.ranks.set r (f (c.rank r)) }

/-- Why a core access cannot be served (R37), `none` where it can: NO_REGION, BEYOND_CAPACITY, SHED_MEMORY, PAN_OFF. -/
def State.memRefusal (s : State) (a : Nat) : Option Abort :=
  match whereIs a with
  | .brine p _ => if s.oct O.PAN_POWER p = 2 then none else some .panOff
  | .dram c off =>
    if s.chShed c then some .shedMemory else if off < s.fittedBytes c then none else some .beyondCapacity
  | .other => some .noRegion

/-- Buffers at an address can be reached: an ON pan or fitted DRAM. -/
def State.memServed (s : State) (a : Nat) : Bool := (s.memRefusal a).isNone

/-! ## The error log (R411) -/

/-- A memory event logged: KIND 0 CORRECTED, 1 SCRUB_CORRECTED, 2 UNCORRECTABLE, 3 POISON, 4 POISON_WRITTEN. -/
def State.memEvent (s : State) (addr memory kind rank symbol source : Nat) : State :=
  let e : MemErr := { addr := addr, memory := memory, kind := kind, rank := rank, symbol := symbol, source := source,
                      uptimeUs := s.uptimeUs }
  let s1 := if s.mem.errors.length < 64 then s else s.raiseEv O.ERROR_STATUS 2
  let bit := if kind ≤ 1 then 0 else if kind = 2 then 1 else 3
  ((s1.onMem (fun m => { m with errors := pushRing 64 m.errors e })).raiseEv O.ERROR_STATUS bit).bump O.ERROR_COUNT

/-- The memory of Table 12.1, and the rank, that an address lies in. -/
def State.memOf (s : State) (a : Nat) : Nat × Nat :=
  match whereIs a with
  | .dram c off => (c + 1, if s.rd (O.RANKS c) = 2 ∧
      2 ^ (17 + nRow (s.rd (O.DEVICE_WIDTH c)) (s.rd (O.DENSITY c))) ≤ off then 1 else 0)
  | _ => (0, 0)

/-! ## The code (R405 to R407) -/

/-- What the code makes of a codeword that is read: sound, the corrected symbol, an uncorrectable error, or poison. -/
inductive Verdict where
  | good
  | corrected (symbol : Nat)
  | bad
  | poisoned
deriving DecidableEq, Repr

/-- The column of ECC_MATRIX for a bit of the codeword. -/
def eccColumn (i : Nat) : Nat := bits Config.eccMatrix (16 * i) 16

/-- The syndrome that the changed bits of a codeword give. -/
def eccSyndrome (f : Nat) : Nat := (List.range 144).foldl (fun y i => if bitAt f i then y ^^^ eccColumn i else y) 0

/-- The symbols that changed bits lie in. -/
def eccSymbols (f : Nat) : List Nat := (List.range 36).filter (fun y => bits f (4 * y) 4 != 0)

/-- The errors that the code corrects in one symbol: any, or with x8 devices those of a single bit (R407). -/
def eccErrors (x8 : Bool) : List Nat := if x8 then [1, 2, 4, 8] else upFrom 1 15

/-- The corrected symbol and its error whose syndrome is `syn`. -/
def eccMatch (x8 : Bool) (syn : Nat) : Option (Nat × Nat) :=
  (List.range 36).findSome? (fun y => ((eccErrors x8).find? (fun p => eccSyndrome (p <<< (4 * y)) == syn)).map (fun p => (y, p)))

/-- A codeword whose bits `f` have changed, its check bits poisoned or not: the verdict, and the bits that stay wrong where it is delivered or
corrected. Errors of up to two symbols go by the properties that R405 gives the code, any other by ECC_MATRIX. -/
def eccJudge (x8 poisoned : Bool) (f : Nat) : Verdict × Nat :=
  match poisoned, eccSymbols f with
  | false, [] => (.good, 0)
  | true, [] => (.poisoned, 0)
  | false, [y] => if (eccErrors x8).contains (bits f (4 * y) 4) then (.corrected y, 0) else (.bad, 0)
  | true, [_] => (.bad, 0)
  | false, [_, _] => (.bad, 0)
  | p, _ =>
    let syn := if p then eccSyndrome f ^^^ 0xFFFF else eccSyndrome f
    if syn = 0 then (.good, f)
    else if syn = 0xFFFF then (.poisoned, 0)
    else match eccMatch x8 syn with
      | some (y, e) => (.corrected y, f ^^^ (e <<< (4 * y)))
      | none => (.bad, 0)

/-- The data bits of a codeword, word 0 below word 1. -/
def eccData (f : Nat) : Nat := bits f 0 64 + bits f 72 64 * 2 ^ 64

/-- The codeword at an address is judged, `flips` changed in it since. -/
def State.wordJudge (s : State) (w flips : Nat) : Verdict × Nat :=
  let x8 := match whereIs w with
    | .dram c _ => s.rd (O.DEVICE_WIDTH c) == 1
    | _ => false
  eccJudge x8 (s.mem.poison.contains w) (lookD s.mem.flips w 0 ^^^ flips)

/-- A codeword after it was judged: the corrected codeword written back, but at the addresses of `skip`; an uncorrectable one left as it is
(R409, R410). -/
def State.wordSettle (s : State) (skip : Nat → Bool) (w flips : Nat) (j : Verdict × Nat) : State :=
  let f := lookD s.mem.flips w 0 ^^^ flips
  match j.1 with
  | .good | .corrected _ =>
    let s1 := s.memSound w (w + 16)
    if eccData j.2 = 0 then s1 else s1.memPut skip w (octets (s.memRead w 16 ^^^ eccData j.2) 16)
  | _ => s.onMem (fun m => { m with flips := if f = 0 then del m.flips w else put m.flips w f })

/-- Corrected errors of a pan in the last hour reaching ECC_RATE_LIMIT mark it SUSPECT and evacuate it (Table 4.1, order 7). -/
def State.panCorrected (s : State) (p : Nat) : State :=
  let recent := (lookD s.plc.panErrors p []).filter (fun t => decide (s.now < t + 3600 * secTk)) ++ [s.now]
  let s1 := (s.bumpAt O.PAN_CE p).onPlc (fun q => { q with panErrors := put q.panErrors p recent })
  let limit := s.rd O.ECC_RATE_LIMIT
  if limit ≠ 0 ∧ limit ≤ recent.length ∧ s.pan p = 1 ∧ s.triggerOn 1 then s1.evacuate p 4 0x03 recent.length else s1

/-- An uncorrectable error in a pan evacuates and retires it (R154; Table 4.1, order 1). -/
def State.panUncorrectable (s : State) (p : Nat) : State :=
  let s1 := s.bumpAt O.PAN_UE p
  if s.pan p = 5 ∨ look s.plc.evac p = some 5 then s1 else s1.evacuate p 5 0x02 0

/-- The counters and the log entry of a read's verdict, and what it triggers in a pan; `scrub` for the scrubber. -/
def State.memOutcome (s : State) (a source : Nat) (v : Verdict) (scrub : Bool) : State :=
  let (m, rank) := s.memOf a
  let log := fun (s : State) (kind sym : Nat) => s.memEvent (a / 16 * 16) m kind rank sym source
  match v with
  | .good => s
  | .corrected y =>
    let s1 := log s (if scrub then 1 else 0) y
    match whereIs a with
    | .brine p _ => s1.panCorrected p
    | .dram c _ => s1.bump (O.CORRECTED c)
    | .other => s1
  | w =>
    let s1 := log s (if w = .poisoned then 3 else 2) 0x3F
    match whereIs a with
    | .brine p _ => s1.panUncorrectable p
    | .dram c _ => s1.bump (O.UNCORRECTABLE c)
    | .other => s1

/-! ## Pans (R412 to R414) -/

/-- A pan leaves OFF: it is zeroed in INIT (R413). -/
def State.panInit (s : State) (p : Nat) : State := (s.wrOct O.PAN_POWER p 1).memClear (panBase p) (panBase (p + 1))

/-- A pan goes OFF, its contents lost. -/
def State.panOff (s : State) (p : Nat) : State := (s.wrOct O.PAN_POWER p 0).memClear (panBase p) (panBase (p + 1))

/-- INIT of a pan is done: ON, and in service unless it is reserved, retired or being evacuated. -/
def State.panReady (s : State) (p : Nat) : State :=
  let s1 := s.wrOct O.PAN_POWER p 2
  if s.pan p = 0 ∨ s.pan p = 6 then
    (s1.setPan p (if s.flag O.PAN_RESERVE p then 2 else 1)).onPlc (fun q => { q with panEmptyAt := put q.panEmptyAt p s.now })
  else s1

/-! ## Channel events (Table 12.5) -/

/-- The training results of a channel for a rate, one entry for each rank and step. -/
def Chan.resultsAt (c : Chan) (rate : Nat) : List TrainEntry := c.results.filter (fun e => e.rate == rate)

/-- Results are accepted for every step of Table 12.8 at a rate on every fitted rank. -/
def State.trained (s : State) (c rate : Nat) : Bool :=
  (List.range (s.rankCount c)).all (fun r => (upFrom 1 6).all (fun st =>
    (s.chan c).results.any (fun e => e.rate == rate && e.rank == r && e.step == st)))

/-- The stored results of the current rate come into force. -/
def State.applyResults (s : State) (c : Nat) : State :=
  s.onChan c (fun x => { x with inForce := x.resultsAt (s.rd (O.RATE_NOW c)), toForce := [] })

/-- ZQ calibrations issued to every fitted rank of a channel. -/
def State.zqAll (s : State) (c : Nat) : State :=
  (s.bumpBy (O.ZQ_RUNS c) (s.rankCount c)).onChan c (fun x => { x with
    ranks := x.ranks.map (fun r => { r with lastZq := s.now, overdue := 0 }) })

/-- A channel leaves OFF when domain DDR reaches ON with devices fitted. -/
def State.chWake (s : State) (c : Nat) : State :=
  if s.chState c = 0 ∧ s.rd (O.DENSITY c) ≠ 0 then s.setCh c 1 else s

/-- A step in progress on a channel ends ABORTED, its data discarded (R428, R434); a step that only waits ends too where `all`. -/
def State.trainAbort (s : State) (c : Nat) (all : Bool) : State :=
  match (s.chan c).training with
  | none => s
  | some t =>
    if t.gathering || all then
      (((s.setSt O.TRAIN_STATUS 12 4 5).raiseEv O.TRAIN_STATUS 2).bump (O.TRAIN_ABORTED c)).onChan c
        (fun x => { x with training := none })
    else s

/-- Contents and devices of a channel are lost: its window is zero again, nothing is queued or in progress. -/
def State.chLose (s : State) (c st : Nat) : State :=
  (((s.trainAbort c true).memClear (chanBase c) (chanBase (c + 1))).setCh c st).onChan c (fun x => { x with
    rq := [], wq := [], input := [], draining := false, rows := [], change := none, idle := false
    ranks := [RankState.reset, RankState.reset], inForce := [], toForce := [] })

/-- A channel returns from the self-refresh of R428: SRX, one ZQCL, the earlier state, the stored results of the current rate. -/
def State.chReturn (s : State) (c : Nat) : State :=
  if s.chShed c then
    ((((s.setCh c (s.chan c).back).zqAll c).applyResults c).onChan c (fun x => { x with lastRequest := s.now })).channelBack (0x458 + c)
  else s.onChan c (fun x => { x with change := x.change.map (fun y => (y.1, false)) })

/-- A request reaches a channel: one in idle self-refresh exits. From the idle time on, all banks are precharged in 3 tk and CKE low takes
effect tCKESR, 2 tk, after it is driven: a request before that came too late for it (R427, Table 12.7). -/
def State.chWakeIdle (s : State) (c : Nat) : State :=
  if s.chState c = 5 ∧ (s.chan c).idle then
    (((if s.now < (s.chan c).srAt + 5 then s.bump (O.SR_LATE_REQUEST c) else s).setCh c 4)).onChan c (fun x =>
      { x with idle := false, lastRequest := s.now })
  else s.onChan c (fun x => { x with lastRequest := s.now })

/-- A key-store read finds its rank's REFRESH or MAINT window open (R424). -/
def State.rankHeld (s : State) (c rank : Nat) : Bool :=
  let r := (s.chan c).rank rank
  r.refreshOpen || r.maintUntil.isSome

/-- The row of its bank, with bank and rank, that an address of a channel lies in (R416). -/
def rowOf (a : Nat) : Nat := a % 2 ^ 34 / 2 ^ 13

/-- The bank of the channel that an address lies in, over both ranks. -/
def State.bankOf (s : State) (a : Nat) : Nat := rowOf a % 16 + 16 * (s.memOf a).2

/-- A block's access to an address is not refused: as a core's, or held for a frequency change (R434). -/
def State.blockServed (s : State) (a : Nat) : Bool :=
  match whereIs a with
  | .dram c off => s.memServed a || (s.chState c == 6 && decide (off < s.fittedCap c))
  | _ => s.memServed a

/-! ## The write queue (R421 to R423) -/

/-- With ORDER_COMPAT, a bank is served in arrival order while a read and a write of one row of it both wait (R423). -/
def State.inOrder (s : State) (c bank : Nat) : Bool :=
  s.flag (O.ORDER_COMPAT c) && (s.chan c).rq.any (fun r => s.bankOf r.addr == bank &&
    (s.chan c).wq.any (fun w => rowOf w.addr == rowOf r.addr))

/-- A request can be served now, its rank's window shut (`force`: served before self-refresh or a frequency change all the same) and, in arrival
order, none of its bank before it. -/
def State.reqReady (s : State) (c : Nat) (force : Bool) (q : DramReq) : Bool :=
  let x := s.chan c
  (force || !s.rankHeld c (s.memOf q.addr).2) &&
    !(s.inOrder c (s.bankOf q.addr) && (x.rq ++ x.wq).any (fun y => s.bankOf y.addr == s.bankOf q.addr && decide (y.seq < q.seq)))

/-- The codeword `w` as a write of the octets from `a` to below `b` leaves it: sound where they cover it; else what the read before it finds
settles it, and an uncorrectable codeword is poisoned (R408). -/
def State.rmwWord (s : State) (source a b flips w : Nat) : State :=
  if a ≤ w ∧ w + 16 ≤ b then s.memSound w (w + 16)
  else
    let f := if w = a / 16 * 16 then flips else 0
    let j := s.wordJudge w f
    let s1 := s.memOutcome w source j.1 false
    match j.1 with
    | .good | .corrected _ => s1.wordSettle (fun x => decide (a ≤ x ∧ x < b)) w f j
    | _ => ((s1.memSound w (w + 16)).onMem (fun m => { m with poison := m.poison ++ [w] })).memEvent w (s.memOf w).1 4 (s.memOf w).2 0x3F source

/-- A row is open in its bank. -/
def State.openRow (s : State) (c a : Nat) : State := s.onChan c (fun x => { x with rows := put x.rows (s.bankOf a) (rowOf a) })

/-- A write of the queue is issued: a whole burst, or a read-modify-write of its four codewords. -/
def State.writeIssue (s : State) (c : Nat) (q : DramReq) : State :=
  let s1 := ((s.bump64 (O.WRITES c) 1).openRow c q.addr).onChan c (fun x => { x with wq := x.wq.filter (fun y => y.seq != q.seq) })
  let base := q.addr / 64 * 64
  if q.len = 64 then s1.memSound base (base + 64)
  else ([0, 16, 32, 48].map (base + ·)).foldl (fun s w => s.rmwWord q.source q.addr (q.addr + q.len) q.flips w) (s1.bump (O.RMW c))

/-- A request that ORDER_COMPAT holds is counted: one of its row, a read for a write or a write for a read, waits before it (R423). -/
def State.compatHold (s : State) (c : Nat) (q : DramReq) : State :=
  if s.flag (O.ORDER_COMPAT c) && (if q.len = 0 then (s.chan c).wq else (s.chan c).rq).any (fun y => rowOf y.addr == rowOf q.addr) then
    s.bump (O.COMPAT_HOLDS c)
  else s

/-- A write accepted into the write queue: its octets are forwarded from now on (R422); at 48 entries the queue drains. -/
def State.writeAccept (s : State) (c : Nat) (q : DramReq) (bs : List Byte) : State :=
  let n := (s.chan c).wq.length + 1
  let s1 := ((s.compatHold c q).memWrite q.addr bs).onChan c (fun x => { x with
    wq := x.wq ++ [{ q with seq := x.nextSeq, data := s.memRead q.addr q.len }]
    nextSeq := x.nextSeq + 1
    draining := x.draining || decide (48 ≤ n) })
  if 48 ≤ n ∧ !(s.chan c).draining then s1.bump (O.WQ_DRAINS c) else s1

/-- A read accepted into the read queue, with what it finds; a key-store read that meets its rank's window is counted (R424). -/
def State.readAccept (s : State) (c : Nat) (q : DramReq) : State :=
  let s1 := (if q.source = 33 ∧ s.rankHeld c (s.memOf q.addr).2 then s.bump (O.KEY_READS_HELD c) else s).compatHold c q
  s1.onChan c (fun x => { x with
    rq := x.rq ++ [{ q with
      seq := x.nextSeq
      data := s.memRead (q.addr / 16 * 16) 16
      forwarded := x.wq.any (fun w => w.len == 64 && w.addr / 64 == q.addr / 64) }]
    nextSeq := x.nextSeq + 1 })

/-- Requests that wait at the input enter, in their order, as far as the write queue has room. -/
def State.inputGo (s : State) (c : Nat) : Nat → State
  | 0 => s
  | n + 1 =>
    match (s.chan c).input with
    | [] => s
    | (q, bs) :: rest =>
      if q.len ≠ 0 ∧ 64 ≤ (s.chan c).wq.length then s
      else
        let s1 := s.onChan c (fun x => { x with input := rest })
        State.inputGo (if q.len = 0 then s1.readAccept c q else s1.writeAccept c q bs) c n

/-- Writes are issued while the queue drains, down to 16, or while no read waits; then waiting requests enter (R421). -/
def State.writesGo (s : State) (c : Nat) (force : Bool) : Nat → State
  | 0 => s
  | n + 1 =>
    let x := s.chan c
    let drain := x.draining && decide (16 < x.wq.length)
    let s0 := if x.draining && !drain then s.onChan c (fun x => { x with draining := false }) else s
    match (if force || ((x.rq.isEmpty || drain) && s.chServes c) then x.wq.find? (s.reqReady c force) else none) with
    | some q => State.writesGo ((s0.writeIssue c q).inputGo c 1) c force n
    | none => s0

/-- A request of a source to a channel: it waits at the input where the channel changes its frequency, where an earlier one of its source
waits there, or, a write, where the write queue is full, which is counted (R421, R422, R434). -/
def State.dramRequest (s : State) (c : Nat) (q : DramReq) (bs : List Byte) : State :=
  let s1 := s.chWakeIdle c
  let x := s1.chan c
  let full : Bool := q.len != 0 && decide (64 ≤ x.wq.length)
  if full || s1.chState c == 6 || x.input.any (fun y => y.1.source == q.source) then
    (if full then s1.bump (O.WQ_FULL_STALLS c) else s1).onChan c (fun x => { x with input := x.input ++ [(q, bs)] })
  else if q.len = 0 then s1.readAccept c q
  else (s1.writeAccept c q bs).writesGo c false 130

/-- A request before it is accepted. -/
def State.newReq (s : State) (source addr len flips : Nat) (use : ReadUse) : DramReq :=
  { seq := 0, at_ := s.now, source := source, addr := addr, len := len, flips := flips, use := use, data := 0, forwarded := false }

/-- Octets that a source stores: in a pan codeword by codeword, in DRAM burst by burst; where nothing serves them they are lost. -/
def State.store (s : State) (source : Nat) : Nat → Nat → List Byte → Nat → State
  | 0, _, _, _ => s
  | n + 1, a, bs, flips =>
    match bs with
    | [] => s
    | _ :: _ =>
      match whereIs a with
      | .dram c _ =>
        let now := bs.take (64 - a % 64)
        let s1 := if s.blockServed a then s.dramRequest c (s.newReq source a now.length flips (.block .other)) now else s
        State.store s1 source n (a + now.length) (bs.drop now.length) 0
      | _ =>
        let now := bs.take (16 - a % 16)
        let s1 := if s.memServed a then
            (s.memWrite a now).rmwWord source a (a + now.length) flips (a / 16 * 16)
          else s
        State.store s1 source n (a + now.length) (bs.drop now.length) 0

/-- Octets that a block stores. -/
def State.blockStore (s : State) (source a : Nat) (bs : List Byte) : State := s.store source bs.length a bs 0

/-- Octets that a block reads: the bursts are counted, and a key-store read that meets its rank's window (R424). -/
def State.blockRead (s : State) (source a n : Nat) : State :=
  match whereIs a with
  | .dram c _ =>
    if s.chServes c then
      let s1 := (s.chWakeIdle c).bump64 (O.READS c) ((a % 64 + n + 63) / 64)
      if source = 33 ∧ s.rankHeld c (s.memOf a).2 then s1.bump (O.KEY_READS_HELD c) else s1
    else s
  | _ => s

/-! ## Group checks (R417) -/

/-- The DDR4-3200 JEDEC minima of TIMING_PS for a device width (PRESUMED, notes/assumptions/31.md). -/
def timingMin (width : Nat) : List Nat :=
  [13750, 10000, 13750, 13750, 32000, 45750, if width = 0 then 10000 else 21000, 2500, 4900, 2500, 7500, 15000, 7500, 5000]

/-- The reason a commit of group 0x9100 or 0x9200 is refused with, `sv` the shadow values and `keys` whether the key store holds an
occupied slot. -/
def State.chanGroupCheck (s : State) (c : Nat) (sv : Nat → Nat) (keys : Bool) : Option Nat :=
  let w := sv (O.DEVICE_WIDTH c)
  let d := sv (O.DENSITY c)
  let r := sv (O.RANKS c)
  if 1 < s.chState c then some 0x40
  else if 1 < w ∨ 3 < d ∨ r = 0 ∨ 2 < r then some 0x41
  else if (timingMin w).zipIdx.any (fun x =>
      let v := bits (sv (O.TIMING_PS c)) (16 * x.2) 16
      decide (v < x.1) || decide (4 * x.1 < v)) then some 0x42
  else if c = 0 ∧ d = 0 ∧ keys then some 0x43
  else none

/-! ## Training (R430 to R432) -/

/-- The steps whose results come into force at the rank's next window (Table 12.8). -/
def stepWaits (step : Nat) : Bool := step == 2 || step == 5 || step == 6

/-- The tolerance of value `i` of a step: 3 taps or 2 codes; READ_GATE's latency, its value 18, must be equal. -/
def tolerance (step i : Nat) : Nat := if 5 ≤ step then 2 else if step = 2 ∧ i = 18 then 0 else 3

/-- The value a run found: an eye's centre, or the value itself. -/
def runValue (step : Nat) (e : Nat × Nat) : Nat := if step = 3 ∨ step = 4 then (e.1 + e.2) / 2 else e.1

/-- Two runs agree (R431). -/
def runsAgree (step : Nat) (a b : List (Nat × Nat)) : Bool :=
  a.length == b.length && ((a.zip b).zipIdx.all (fun x =>
    let u := runValue step x.1.1
    let v := runValue step x.1.2
    decide (u ≤ v + tolerance step x.2) && decide (v ≤ u + tolerance step x.2)))

/-- The accepted values of an agreeing pair: means, ties toward zero. -/
def acceptedValues (step : Nat) (a b : List (Nat × Nat)) : List Nat :=
  (a.zip b).map (fun x => (runValue step x.1 + runValue step x.2) / 2)

/-- The smaller eye width of an agreeing pair in thousandths of a UI. -/
def eyeWidth (a b : Nat × Nat) : Nat := min (a.2 - a.1) (b.2 - b.1) * 1000 / 64

/-- TRAIN_RUNS as the runs of a step fill it. -/
def runsValue (runs : List (List (Nat × Nat))) : Nat :=
  runs.zipIdx.foldl (fun v r => r.1.zipIdx.foldl (fun v e =>
    setBits (setBits v (32 * (72 * r.2 + e.2)) 16 e.1.1) (32 * (72 * r.2 + e.2) + 16) 16 e.1.2) v) 0

/-- Results of a step replaced in a list. -/
def putResult (l : List TrainEntry) (e : TrainEntry) : List TrainEntry :=
  l.filter (fun x => !(x.rate == e.rate && x.rank == e.rank && x.step == e.step)) ++ [e]

/-- The helper may run on a rank now: in its MAINT window, and while the boot lay runs or the channel is UNTRAINED outside its REFRESH
windows (R430). -/
def State.trainOpen (s : State) (c rank : Nat) : Bool :=
  let r := (s.chan c).rank rank
  (s.chState c == 3 || s.chState c == 4) && (r.maintUntil.isSome || ((s.bootLay || s.chState c == 3) && !r.refreshOpen))

/-- The values of one run of a step: one for each nibble or bit, READ_GATE with the latency after them, WRITE_VREF one for the rank. -/
def stepValues (step : Nat) : Nat := if step = 2 then 19 else if step = 3 ∨ step = 4 then 72 else if step = 6 then 1 else 18

/-- A step that waits begins to gather where its rank lets it: the training block is destroyed but by WRITE_LEVEL and READ_GATE, which use the
devices' MPR pattern, given as kind 4 (R429, R430). -/
def State.trainStart (s : State) (c : Nat) : State :=
  match (s.chan c).training with
  | some t =>
    if !t.gathering && s.trainOpen c t.rank then
      let base := t.rank * 2 ^ (17 + nRow (s.rd (O.DEVICE_WIDTH c)) (s.rd (O.DENSITY c)))
      let s1 := (s.setSt O.TRAIN_STATUS 12 4 2).onChan c (fun x => { x with training := some { t with gathering := true } })
      if t.step < 3 then s1.emit (.trainSweep c t.rank t.step 4 0)
      else
        let s2 := if base < s.fittedCap c then s1.memWreck (chanBase c + base) (chanBase c + base + 65536) else s1
        s2.emit (.trainSweep c t.rank t.step (s.rd O.PATTERN_KIND) (if s.rd O.PATTERN_KIND = 2 then s.rd O.PATTERN else 0))
    else s
  | none => s

/-- The results that wait for a rank's window come into force (R430). -/
def State.forceWaiting (s : State) (c rank : Nat) : State :=
  s.onChan c (fun x => { x with
    inForce := (x.toForce.filter (fun e => e.rank == rank)).foldl putResult x.inForce
    toForce := x.toForce.filter (fun e => e.rank != rank) })

/-- The accepted result of a step is stored and takes force (R431, R432). -/
def State.trainAccept (s : State) (c : Nat) (t : Training) (a b : List (Nat × Nat)) : State :=
  let e : TrainEntry :=
    { rate := s.rd (O.RATE_NOW c), rank := t.rank, step := t.step, values := acceptedValues t.step a b }
  let s1 := (((s.bump O.TRAIN_STEPS).setSt O.TRAIN_STATUS 12 4 3).raiseEv O.TRAIN_STATUS 0).onChan c (fun x =>
    { x with
      training := none
      results := putResult x.results e
      inForce := if stepWaits t.step then x.inForce else putResult x.inForce e
      toForce := if stepWaits t.step then putResult x.toForce e else x.toForce })
  if t.step = 3 ∨ t.step = 4 then
    s1.onChan c (fun x => { x with
      eyes := putResult x.eyes { e with values := (a.zip b).map (fun p => eyeWidth p.1 p.2) } })
  else s1

/-- EYE_WIDTH as it reads: the widths of the current rate. -/
def State.eyeWidths (s : State) (c : Nat) : Nat :=
  ((s.chan c).eyes.filter (fun e => e.rate == s.rd (O.RATE_NOW c))).foldl (fun v e => e.values.zipIdx.foldl (fun v x =>
    setBits v (16 * ((e.rank * 72 + x.2) * 2 + (e.step - 3))) 16 x.1) v) 0

/-- The timing set in DDR clock cycles of a rate, rounded up (R417, R418). -/
def State.timingCycles (s : State) (c rate : Nat) : List Nat :=
  (List.range 14).map (fun i => ceilDiv (bits (s.rd (O.TIMING_PS c)) (16 * i) 16 * [1600, 1200, 800].getD rate 0) 1000000)

/-- The mode registers of a channel's devices are written for a rate. -/
def State.modeWrite (s : State) (c rate : Nat) : State := s.emit (.dramMode c rate (s.timingCycles c rate))

end Sys2Proof.Machine
end

