-- ==== Sys2Proof/Machine/EthOps.lean ====
section
/-!
DEFINITION. Ports, queues and the sluice (09, §1, §2, §7): rates and lengths, the queue table, enqueueing, the pause of priorities
with class-0 pause time (R350), the shaper (R349), the choice of the next frame (R347), link states (R320) and host completions (R354).
-/
namespace Sys2Proof.Machine

/-! ## Ports -/

/-- The state with its router changed. -/
def State.onEth (s : State) (f : Eth → Eth) : State := { s with eth := f s.eth }

/-- A port beside its objects. -/
def State.port (s : State) (p : Nat) : Port := lookD s.eth.ports p Port.reset

/-- A port changed. -/
def State.onPort (s : State) (p : Nat) (f : Port → Port) : State :=
  s.onEth (fun e => { e with ports := modify e.ports p Port.reset f })

/-- The MAC rate of a mode in Mb/s (Table 9.1). -/
def modeRate (m : Nat) : Nat :=
  match m with
  | 1 => 25000
  | 2 => 10000
  | 3 => 2500
  | 4 => 1000
  | 5 => 1000
  | _ => 0

/-- The MAC rate of a port. -/
def State.rate (s : State) (p : Nat) : Nat := modeRate (s.rd (O.MODE p))

/-- LINK: 0 DOWN, 1 UP, 2 SHED, 3 OFF (R320). -/
def State.isUp (s : State) (p : Nat) : Bool := s.rd (O.LINK p) == 1

/-- The ticks that `n` bits take at a rate in Mb/s, rounded up. -/
def bitsTk (rate n : Nat) : Nat := if rate = 0 then 0 else ceilDiv (n * 200) rate

/-- Column of Table 10.4 for a mode and FEC: egress in ticks, TX_PATH_NS, RX_PATH_NS. -/
def pathDelays (mode fec : Nat) : Nat × Nat × Nat :=
  match mode with
  | 1 => if fec = 0 then (120, 96, 118) else if fec = 1 then (170, 138, 362) else (250, 206, 498)
  | 2 => (180, 154, 206)
  | 3 => (260, 312, 384)
  | 4 => (380, 640, 760)
  | 5 => (400, 672, 792)
  | _ => (0, 0, 0)

/-- The egress path of a port, sluice to first bit at the balls (R348, Table 10.4). -/
def State.egressTk (s : State) (p : Nat) : Nat := (pathDelays (s.rd (O.MODE p)) (s.rd (O.FEC p))).1

/-! ## Lengths and tags (§2) -/

/-- The 16-bit field at an octet of a frame. -/
def be16 (f : List Byte) (i : Nat) : Nat := beField f i 2

/-- An EtherType that marks a VLAN tag (Table 9.5). -/
def State.isTag (s : State) (ty : Nat) : Bool :=
  ty == 0x8100 || ty == s.rd O.STAG_TPID || (s.rd O.STAG_ALT_TPID != 0 && ty == s.rd O.STAG_ALT_TPID)

/-- VLAN tags of a frame, two at most. -/
def State.tagCount (s : State) (f : List Byte) : Nat :=
  if !s.isTag (be16 f 12) then 0 else if !s.isTag (be16 f 16) then 1 else 2

/-- The allowance of a frame at a port: MAX_FRAME and 4 octets for each tag (§2). -/
def State.allowance (s : State) (p : Nat) (f : List Byte) : Nat := s.rd (O.MAX_FRAME p) + 4 * s.tagCount f

/-- A frame's octets as they leave a port: truncated to the allowance and padded to 64 octets with the FCS (R325). -/
def State.wireData (s : State) (p : Nat) (f : List Byte) : List Byte :=
  let cut := f.take (s.allowance p f - 4)
  cut ++ List.replicate (60 - cut.length) 0

/-- The FCS of an Ethernet frame (IEEE 802.3), least significant octet first, or its inverse. -/
def ethFcs (bad : Bool) (f : List Byte) : List Byte := octets (if bad then crc32 f ^^^ 0xFFFFFFFF else crc32 f) 4

/-- An Information OAMPDU leaves a port (R322, R462): the Dying Gasp flag, the Local Information TLV of a passive sublayer, the partner's reflected
as the Remote Information TLV. The discovery flags, revision, OUI and vendor of the TLV the manual leaves open. -/
def State.oamSend (s : State) (p : Nat) (gasp : Bool) : State :=
  let (v, s1) := s.free
  let flags := (if gasp then 2 else 0) + v % 16 * 8
  let head := beOctets 0x0180C2000002 6 ++ octets (s.rd (O.PORT_MAC p)) 6 ++ beOctets 0x880903 3 ++ beOctets flags 2 ++ beOctets 0 1
  let own := beOctets 0x011001 3 ++ beOctets (bits v 4 16) 2 ++ beOctets 0x000005EE 4 ++ beOctets (bits v 20 56) 7
  let other := (s.port p).oamRemote
  let f := head ++ own ++ (if other.isEmpty then [] else beOctets 2 1 ++ other.drop 1)
  let f1 := f ++ List.replicate (60 - f.length) 0
  s1.emit (.ethTx p (f1 ++ ethFcs false f1))

/-- A frame is longer than its port allows. -/
def State.tooLong (s : State) (p : Nat) (f : List Byte) : Bool := decide (s.allowance p f < f.length + 4)

/-! ## The queue table (Table 9.13) and CLASS_MAP -/

/-- SIZE_KIB of a queue entry. -/
def qSize (e : Nat) : Nat := bits e 0 16
/-- OVERSIZE_PASS of a queue entry. -/
def qOverPass (e : Nat) : Bool := bitAt e 24
/-- CIR_KBPS of a queue entry. -/
def qCir (e : Nat) : Nat := bits e 64 32
/-- BURST_OCTETS of a queue entry. -/
def qBurst (e : Nat) : Nat := bits e 96 32

/-- A field of a class in CLASS_MAP: 0 QUEUE, 1 PCP, 2 DSCP, 3 FLAGS. -/
def State.classMap (s : State) (cls i : Nat) : Nat := s.oct O.CLASS_MAP (4 * cls + i)

/-- A queue's egress PCP (§7.1). -/
def State.qPcp (s : State) (p q : Nat) : Nat :=
  let e := s.qEntry p q
  if bitAt e 25 then octet e 4 % 8 else s.classMap (qClass e) 1

/-- Frames of a queue, oldest first. -/
def State.qFrames (s : State) (p q : Nat) : List EthFrame := lookD (s.port p).queues q []

/-- A frame's length with its FCS. -/
def EthFrame.len (f : EthFrame) : Nat := max 64 (f.data.length + 4)

/-- Octets in a queue. -/
def State.qOctets (s : State) (p q : Nat) : Nat := (s.qFrames p q).foldl (fun n f => n + f.len) 0

/-- A queue's frames replaced; its buffers have a place while it holds any (R151). -/
def State.setQueue (s : State) (p q : Nat) (l : List EthFrame) : State :=
  let s1 := s.onPort p (fun x => { x with queues := if l.isEmpty then del x.queues q else put x.queues q l })
  if l.isEmpty then s1.dropObj 3 (64 * p + q) else s1.placeNew 3 (64 * p + q) 1

/-- A counter of QUEUE_COUNTS (32 octets a queue): `at_` its octet, `w` its width in bits. -/
def State.bumpQueue (s : State) (p q at_ w : Nat) : State :=
  let lo := 8 * (32 * q + at_)
  s.wrBits (O.QUEUE_COUNTS p) lo w (bits (s.rd (O.QUEUE_COUNTS p)) lo w + 1)

/-! ## Completions (R354) -/

/-- Octets of memory at a place from its base on: a pan, or what is fitted of a DRAM channel. -/
def State.placeSpan (s : State) (loc : Nat) : Nat × Nat :=
  if loc = 0x458 then (chanBase 0, max 1 (s.fittedCap 0)) else if loc = 0x459 then (chanBase 1, max 1 (s.fittedCap 1))
  else (panBase (loc - 0x440), 0x400000)

/-- A record or frame handed to a flow as an item. Its buffer lies where placement keeps the flow's buffers, a HITCH item's in the brine
pool (R18, R151); where in there is open (DESIGN CHOICE, notes/assumptions/10.md). -/
def State.handItem (s : State) (flow source arg : Nat) (taints : List Nat) (frame : Option Nat) : Nat × Nat × State :=
  let (a, s1) := s.free
  let mine := (s.locOf 2 flow).getD ((s.placeKey (objKey 2 flow) 1).getD 0x440)
  let (base, size) := s.placeSpan (if source = 5 && decide (0x450 ≤ mine) then (s.panFor 0).getD 0x440 else mine)
  let addr := base + a % size
  let (r, s2) := s1.enqueue { flow := flow, addr := addr, source := source, arg := arg, taints := taints, frame := frame }
  (r, addr, s2)

/-- A host completion: STATUS 0 SENT, 1 REFUSED, 2 DROPPED, 3 FLUSHED, 4 CUT; OVERSIZE; whether a timestamp entry was written. -/
def State.complete (s : State) (h : HostMark) (status : Nat) (oversize queued : Bool) : State :=
  let v := h.cookie % 2 ^ 16 + status * 2 ^ 16 + (if oversize then 2 ^ 20 else 0) + (if queued then 2 ^ 21 else 0) +
    (if h.ts && !queued then 2 ^ 22 else 0) + s.eth.hostSeq * 2 ^ 32
  let s1 := s.onEth (fun e => { e with hostSeq := (e.hostSeq + 1) % 2 ^ 32 })
  let (_, _, s2) := s1.handItem h.flow 4 0 [] none
  s2.emit (.hostCompletion h.flow v)

/-- A hitch's frame leaves its path: it counts as lost to the hitch (R34), unless it counts under TASK_OVERRUN already (R402). -/
def State.hitchGone (s : State) (f : EthFrame) : State :=
  match f.hitch.bind s.hitchNum with
  | some i => if f.overrun then s else s.hitchLose i f.at_
  | none => s

/-- A frame is gone without having left: its completion and its hitch's record (R34, R354). -/
def State.frameLost (s : State) (f : EthFrame) (status : Nat) : State :=
  (match f.host with
  | some h => s.complete h status false false
  | none => s).hitchGone f

/-! ## Pause (R350) -/

/-- A priority of a port is paused at a tick. -/
def State.pausedAt (s : State) (p prio t : Nat) : Bool :=
  match look (s.port p).pauses prio with
  | some (_, until_) => decide (t < until_)
  | none => false

/-- A frame fits the window of a port at a tick (R347). -/
def State.windowAdmits (s : State) (p q t : Nat) (f : EthFrame) : Bool :=
  let fits : Bool := match (s.port p).closes with
    | some c => decide (t + bitsTk (s.rate p) (((s.wireData p f.data).length + 12) * 8) ≤ c)
    | none => true
  match s.rd (O.WINDOW p) with
  | 0 => true
  | 1 => qClass (s.qEntry p q) == 0 && fits
  | _ => fits

/-- Everything but the pause and the shaper lets the head of a queue start at a tick. -/
def State.gateAdmits (s : State) (p q t : Nat) (f : EthFrame) : Bool :=
  s.isUp p && !f.waits && f.taints.isEmpty && decide ((s.port p).freeAt ≤ t) && bitAt (s.rd (O.GATES p)) q && s.windowAdmits p q t f

/-- The first tick from now at which a class-0 queue's head is held by a pause and by nothing else (R350). -/
def State.pauseHold (s : State) (p q : Nat) : Option Nat :=
  match s.qFrames p q with
  | f :: _ =>
    let t := max s.now (s.port p).freeAt
    if qClass (s.qEntry p q) == 0 && s.gateAdmits p q t f && s.pausedAt p (s.qPcp p q) t then some t else none
  | [] => none

/-- After anything that bears on a port's sluice: which class-0 queues a pause alone holds, and since when. -/
def State.sluiceAgain (s : State) (p : Nat) : State :=
  let held := (s.port p).queues.filterMap (fun e =>
    match look (s.port p).heldAt e.1 with
    | some h => if h ≤ s.now then some (e.1, h) else (s.pauseHold p e.1).map (fun t => (e.1, t))
    | none => (s.pauseHold p e.1).map (fun t => (e.1, t)))
  s.onPort p (fun x => { x with heldAt := held })

/-- A priority's pause ends: its ticks go to PAUSED_TK. -/
def State.pauseEnd (s : State) (p prio : Nat) : State :=
  match look (s.port p).pauses prio with
  | none => s
  | some (since, until_) =>
    let s1 := (s.wr (O.PAUSED p) (clearBit (s.rd (O.PAUSED p)) prio)).onPort p (fun x =>
      { x with pauses := del x.pauses prio })
    (s1.wrBits (O.PAUSED_TK p) (64 * prio) 64
      (bits (s1.rd (O.PAUSED_TK p)) (64 * prio) 64 + (min s1.now until_ - since))).sluiceAgain p

/-- A pause of `quanta` times 512 bit times begins for a priority, replacing an earlier one; 0 ends it (R350). -/
def State.pauseStart (s : State) (p prio quanta : Nat) : State :=
  let s1 := s.pauseEnd p prio
  if quanta = 0 then s1
  else
    let s2 := (s1.wr (O.PAUSED p) (setBit (s1.rd (O.PAUSED p)) prio)).onPort p (fun x =>
      { x with pauses := put x.pauses prio (s1.now, s1.now + bitsTk (s1.rate p) (quanta * 512)) })
    (if prio = s2.classMap 0 1 then s2.raiseEv (O.PORT_EVENTS p) 2 else s2).sluiceAgain p

/-! ## The shaper (R349) -/

/-- Token units in one octet. -/
def tokenUnit : Nat := 8 * msTk

/-- A queue's tokens now, in 1 / tokenUnit octet: full until they are first used. -/
def State.tokens (s : State) (p q : Nat) : Int :=
  let e := s.qEntry p q
  let full : Int := (qBurst e * tokenUnit : Nat)
  match look (s.port p).tokens q with
  | some (v, a) => min full (v + ((qCir e * (s.now - a) : Nat) : Int))
  | none => full

/-- The shaper lets a queue start. -/
def State.shaperAdmits (s : State) (p q : Nat) : Bool :=
  let e := s.qEntry p q
  qClass e == 0 || qCir e == 0 || decide (0 ≤ s.tokens p q)

/-! ## The sluice (R347) -/

/-- A queue's head may start now; none does while the sluice is under test (R477). -/
def State.mayStart (s : State) (p q : Nat) (f : EthFrame) : Bool :=
  (s.port p).tx.isNone && !s.underTest (0x430 + p) && s.gateAdmits p q s.now f && !s.pausedAt p (s.qPcp p q) s.now && s.shaperAdmits p q

/-- The queue and frame that the sluice takes: the highest class, then the head enqueued first, then the lower queue. -/
def State.nextFrame (s : State) (p : Nat) : Option (Nat × EthFrame) :=
  ((s.port p).queues.foldl (fun (b : Option (Nat × Nat × EthFrame)) (e : Nat × List EthFrame) =>
    match e.2 with
    | [] => b
    | f :: _ =>
      if !s.mayStart p e.1 f then b
      else
        let c := qClass (s.qEntry p e.1)
        match b with
        | none => some (c, e.1, f)
        | some (c', q', f') =>
          if c < c' ∨ (c = c' ∧ f.enqAt < f'.enqAt) then some (c, e.1, f) else some (c', q', f')) none).map (fun x => x.2)

/-- The head of a queue starts at the sluice with the octets and the egress stamp given: it leaves the queue, takes tokens, closes the pause account of a
class-0 queue, and a hitch's frame reaches its end point one egress path later (R29, R348 to R350). -/
def State.startFrame (s : State) (p q : Nat) (f : EthFrame) (data : List Byte) (stamp : Int) : State :=
  let long := s.tooLong p data
  let wire := s.wireData p data
  let held := look (s.port p).heldAt q
  let pay := fun (x : EthFrame) => match held with
    | some h => { x with paused := x.paused + (s.now - max h x.enqAt) }
    | none => x
  let f1 := pay f
  let stop := s.now + bitsTk (s.rate p) ((wire.length + 12) * 8)
  let left := s.tokens p q - (((wire.length + 24) * tokenUnit : Nat) : Int)
  let s1 := (s.setQueue p q (((s.qFrames p q).drop 1).map pay)).onPort p (fun x => { x with
    tx := some { frame := f1, stamp := stamp, start := s.now, stop := stop, wire := wire.length + 4, cut := long }
    freeAt := stop + bitsTk (s.rate p) 96
    heldAt := del x.heldAt q
    tokens := if qCir (s.qEntry p q) = 0 then x.tokens else put x.tokens q (left, s.now) })
  let s2 := if long then s1.bump (O.TX_TRUNCATED p) else s1
  let s3 := (s2.bumpQueue p q 8 64).emit (.ethTx p (wire ++ ethFcs (long || f.badFcs) wire))
  let s4 := match f1.hitch.bind s3.hitchNum with
    | some i =>
      let s4 := s3.onHitch i.num (fun r => { r with paused := r.paused + f1.paused })
      if f1.overrun then s4 else s4.hitchEnd i f1.at_ (s4.now + s4.egressTk p) f1.paused
    | none => s3
  s4.sluiceAgain p

/-! ## Enqueueing (R346) -/

/-- The flow of a hitch's class-0 task window: the C0_WINDOW entry that bears its tag (R402). -/
def State.hitchFlow (s : State) (h : Nat) : Option Nat :=
  ((taggedOf s.runWords s.runSec h).find? (fun e => eKind e.w == 6 && eAction e.w == 1)).map (fun e => bits e.w 0 16)

/-- A frame joins a port queue, or is dropped at its tail or for a disabled queue. A hitch frame with a task window waits as a HITCH
item (R402). -/
def State.enqueueFrame (s : State) (p q : Nat) (f : EthFrame) : State :=
  let e := s.qEntry p q
  if qSize e = 0 then (s.bump O.QUEUE_DISABLED).frameLost f 2
  else if f.oversize && !qOverPass e then (s.bumpQueue p q 20 32).frameLost f 2
  else if qSize e * 1024 < s.qOctets p q + f.len then (s.bumpQueue p q 16 32).frameLost f 2
  else
    let f1 := { f with queue := q, enqAt := s.now, badFcs := f.badFcs || f.oversize }
    match f.hitch.bind s.hitchFlow with
    | some fl =>
      let (r, _, s1) := s.handItem fl 5 0 f.taints (some f.num)
      if r = 0 then
        (((s1.setQueue p q (s1.qFrames p q ++ [{ f1 with waits := true }])).bumpQueue p q 0 64)).sluiceAgain p
      else s1.frameLost f 2
    | none => ((s.setQueue p q (s.qFrames p q ++ [f1])).bumpQueue p q 0 64).sluiceAgain p

/-- The port, queue and frame of a HITCH item by the frame's number. -/
def State.findFrame (s : State) (num : Nat) : Option (Nat × Nat × EthFrame) :=
  s.eth.ports.findSome? (fun e => e.2.queues.findSome? (fun x =>
    (x.2.find? (fun f => f.num == num)).map (fun f => (e.1, x.1, f))))

/-- A queued frame changed in place. -/
def State.onFrame (s : State) (p q num : Nat) (f : EthFrame → EthFrame) : State :=
  (s.setQueue p q ((s.qFrames p q).map (fun x => if x.num = num then f x else x))).sluiceAgain p

/-- A waiting hitch frame is dropped: its task did not forward it (R402). -/
def State.dropHitchFrame (s : State) (num : Nat) : State :=
  match s.findFrame num with
  | some (p, q, f) =>
    let s1 := (s.setQueue p q ((s.qFrames p q).filter (fun x => x.num != num))).bump O.HITCH_DROPPED
    (s1.frameLost f 2).sluiceAgain p
  | none => s

/-- The number of the next frame. -/
def State.newNum (s : State) : Nat × State := (s.eth.nextNum, s.onEth (fun e => { e with nextNum := e.nextNum + 1 }))

/-- A frame that no one has classified yet. -/
def EthFrame.blank (src : Nat) (data : List Byte) (at_ : Nat) : EthFrame :=
  { num := 0, src := src, hint := 3, cls := 3, data := data, oversize := false, at_ := at_, sensor := 0x3FFFF, hitch := none,
    queue := 0, enqAt := 0, paused := 0, waits := false, overrun := false, host := none, ptp := none, taints := [],
    badFcs := false, desc := none }

/-- A frame joins those that wait for the parser (R331). -/
def State.toParser (s : State) (f : EthFrame) : State :=
  let (n, s1) := s.newNum
  s1.onEth (fun e => { e with parse := e.parse ++ [{ f with num := n }] })

/-! ## Links (R320) -/

/-- Every queued frame of a port flushed. -/
def State.flushPort (s : State) (p : Nat) : State :=
  (s.port p).queues.foldl (fun s e =>
    e.2.foldl (fun s f => (s.bumpQueue p e.1 24 32).frameLost f 3) (s.setQueue p e.1 [])) s

/-- A frame in transmission is cut. -/
def State.cutFrame (s : State) (p : Nat) : State :=
  match (s.port p).tx with
  | none => s
  | some x =>
    let s1 := (s.bump (O.PORT_TX_CUT p)).onPort p (fun y => { y with tx := none })
    match x.frame.host with
    | some h => s1.complete h 4 x.cut false
    | none => s1

/-- LINK changes: 0 DOWN, 1 UP, 2 SHED, 3 OFF, with what leaving UP does (R320) and the condition PORT_DOWN (Table 1.9). -/
def State.setLink (s : State) (p v : Nat) : State :=
  if s.rd (O.LINK p) = v then s
  else
    let was := s.isUp p
    let s1 := (s.wr (O.LINK p) v).raiseEv (O.PORT_EVENTS p) 0
    if v = 1 then ((s1.wr (O.RATE_MBPS p) (s1.rate p)).condEnd 3 p).sluiceAgain p
    else
      let s2 := (if was then s1.bump (O.LINK_DOWNS p) else s1).condBegin 3 p
      let s3 := (List.range 8).foldl (fun s k => s.pauseEnd p k) ((s2.flushPort p).cutFrame p)
      s3.wr (O.RATE_MBPS p) 0

/-- What a port's link is while no link is there: SHED while its domain is off, OFF in MODE 0, else DOWN. -/
def State.linkIdle (s : State) (p : Nat) : Nat :=
  if !s.partUp 11 p then 2 else if s.rd (O.MODE p) = 0 then 3 else 0

/-- A link restarts: a change of MODE, FEC or AN_ENABLE (R319). -/
def State.restartLink (s : State) (p : Nat) : State :=
  (s.setLink p (s.linkIdle p)).onPort p (fun x => { x with restartAt := s.now })

end Sys2Proof.Machine
end

