-- ==== Sys2Proof/Machine/EthParse.lean ====
section
/-!
DEFINITION. Receive filters (09, §3), the parser's walk over the headers of Table 9.5 with the length checks of Table 9.6, the
classifier key of Table 9.7 and the rule table (§5.1).
-/
namespace Sys2Proof.Machine

/-! ## Receive filters (Table 9.4) -/

/-- The fields a filter sees: tagged, outer VID, outer PCP, type after the tags. -/
structure EthHead where
  tagged : Bool
  vid : Nat
  pcp : Nat
  ety : Nat
deriving DecidableEq, Repr

/-- The Ethernet header and first two tags of a frame. -/
def State.ethHead (s : State) (f : List Byte) : EthHead :=
  let n := s.tagCount f
  { tagged := decide (0 < n)
    vid := if n = 0 then 0 else be16 f 14 % 4096
    pcp := if n = 0 then 0 else be16 f 14 / 8192
    ety := be16 f (12 + 4 * n) }

/-- A filter entry matches a frame of a port. -/
def filterHits (e p : Nat) (h : EthHead) : Bool :=
  bitAt e p && (h.vid ^^^ bits e 4 12) &&& bits e 16 12 == 0 && (h.pcp ^^^ bits e 28 3) &&& bits e 31 3 == 0 &&
  (!bitAt e 35 || bitAt e 34 == h.tagged) && (h.ety ^^^ bits e 36 16) &&& bits e 52 16 == 0

/-- The first filter that matches, with its index. -/
def State.filterFor (s : State) (p : Nat) (h : EthHead) : Option (Nat × Nat) :=
  let all := s.rd O.FILTERS
  if all = 0 then none
  else ((List.range 256).find? (fun i => filterHits (bits all (128 * i) 128) p h)).map (fun i => (i, bits all (128 * i) 128))

/-- A filter entry holds an invalid value (FILTER_FIELD). -/
def filterBad (e : Nat) : Bool := bits e 68 2 == 3 || bits e 73 2 == 3

/-- The class of a PCP (R16), untagged frames C3. -/
def State.pcpClass (s : State) (h : EthHead) : Nat := if h.tagged then s.oct O.PCP_TO_CLASS h.pcp % 4 else 3

/-! ## The parser (R328 to R330) -/

/-- The next header of the walk. -/
inductive Hdr where
  | eth
  | tag
  | ip4
  | ip6
  | ext (kind : Nat)
  | udp
  | gre
  | vxlan
  | node (k : Nat)
  | stop
deriving DecidableEq, Repr

/-- What the walk has found. `ip` is the offset of the innermost IP header and `ipEnd` the end of its datagram by its own length;
`tunnelAt` where the contents of a tunnel begin, and whether they begin with an Ethernet header. -/
structure Walk where
  count : Nat
  tags : List Nat
  outerDone : Bool
  ety : Nat
  l3 : Nat
  dscp : Nat
  ecn : Nat
  proto : Nat
  fragment : Bool
  extHdr : Bool
  ptp : Bool
  opaque_ : Bool
  dst : Nat
  srcLow : Nat
  srcL4 : Nat
  dstL4 : Nat
  tunnelId : Nat
  ip : Option Nat
  ipEnd : Nat
  tunnelAt : Option (Nat × Bool)
  deep : Bool
  zero : Bool
  conflict : Bool
deriving DecidableEq, Repr

/-- Nothing found yet. -/
def Walk.start : Walk :=
  { count := 0, tags := [], outerDone := false, ety := 0, l3 := 0, dscp := 0, ecn := 0, proto := 0, fragment := false,
    extHdr := false, ptp := false, opaque_ := false, dst := 0, srcLow := 0, srcL4 := 0, dstL4 := 0, tunnelId := 0, ip := none,
    ipEnd := 0, tunnelAt := none, deep := false, zero := false, conflict := false }

/-- Entry `k` of OPAQUE_NODES: MATCH, KIND, LEN, NEXT. -/
def State.opaqueNode (s : State) (k : Nat) : Nat × Nat × Nat × Nat :=
  let e := bits (s.rd O.OPAQUE_NODES) (64 * k) 64
  (bits e 0 16, octet e 2, octet e 3, octet e 4)

/-- The opaque node that a value of a kind selects: kind 1 an EtherType, 2 a UDP port, 3 an IP protocol. -/
def State.opaqueFor (s : State) (kind v : Nat) : Option Nat :=
  (List.range 8).find? (fun k => (s.opaqueNode k).2.1 == kind && (s.opaqueNode k).1 == v)

/-- What an EtherType leads to, and whether it marks PTP. -/
def State.nextOfType (s : State) (ty : Nat) : Hdr × Bool :=
  if ty < 0x600 then (.stop, false)
  else if s.isTag ty then (.tag, false)
  else if ty = 0x0800 then (.ip4, false)
  else if ty = 0x86DD then (.ip6, false)
  else if ty = 0x88F7 then (.stop, true)
  else match s.opaqueFor 1 ty with
    | some k => (.node k, false)
    | none => (.stop, false)

/-- What an IP protocol or next-header value leads to; extension headers only in IPv6. -/
def State.nextOfProto (s : State) (v6 : Bool) (pr : Nat) : Hdr :=
  if pr = 17 then .udp
  else if pr = 47 then .gre
  else if v6 && (pr == 0 || pr == 43 || pr == 44 || pr == 60) then .ext pr
  else match s.opaqueFor 3 pr with
    | some k => .node k
    | none => .stop

/-- The length of the header at an offset. -/
def hdrLen (f : List Byte) (pos : Nat) (h : Hdr) (nodeLen : Nat) : Nat :=
  match h with
  | .eth => 14
  | .tag => 4
  | .ip4 => max 20 (beField f pos 1 % 16 * 4)
  | .ip6 => 40
  | .ext k => if k = 44 then 8 else 8 * (beField f (pos + 1) 1 + 1)
  | .udp => 8
  | .gre =>
    let fl := beField f pos 1
    4 + (if bitAt fl 7 then 4 else 0) + (if bitAt fl 5 then 4 else 0) + (if bitAt fl 4 then 4 else 0)
  | .vxlan => 8
  | .node _ => nodeLen
  | .stop => 0

/-- A 802.3 length field is checked (Table 9.6). -/
def checkLength (w : Walk) (f : List Byte) (pos ty : Nat) : Walk :=
  if ty < 0x600 then { w with zero := w.zero || ty == 0, conflict := w.conflict || decide (f.length - pos < ty) } else w

/-- One header of the walk: the fields it gives, and what follows it. A GRE header ends the walk where its version, or a flag of its octet 0
other than C, K and S, is not 0 (RFC 2784, RFC 2890: such a packet is no GRE packet of theirs; PRESUMED, notes/assumptions/38.md). -/
def State.walkOne (s : State) (f : List Byte) (pos : Nat) (h : Hdr) (w : Walk) : Hdr × Walk :=
  let here := f.length - pos
  match h with
  | .eth =>
    let ty := be16 f (pos + 12)
    let (n, ptp) := s.nextOfType ty
    (n, checkLength { w with ety := ty, ptp := w.ptp || ptp } f (pos + 14) ty)
  | .tag =>
    let ty := be16 f (pos + 2)
    let (n, ptp) := s.nextOfType ty
    (n, checkLength { w with
      ety := ty, ptp := w.ptp || ptp, tags := if w.outerDone then w.tags else w.tags ++ [be16 f pos] } f (pos + 4) ty)
  | .ip4 =>
    let total := be16 f (pos + 2)
    let ihl := beField f pos 1 % 16 * 4
    let frag := be16 f (pos + 6)
    let pr := beField f (pos + 9) 1
    let cut : Bool := bitAt frag 13 || frag % 8192 != 0
    let w1 := { w with
      l3 := 1, dscp := beField f (pos + 1) 1 / 4, ecn := beField f (pos + 1) 1 % 4, proto := pr, fragment := cut
      dst := 0xFFFF * 2 ^ 32 + beField f (pos + 16) 4, srcLow := beField f (pos + 12) 4, ip := some pos
      ipEnd := pos + total, srcL4 := 0, dstL4 := 0, outerDone := true
      zero := w.zero || total == 0
      conflict := w.conflict || decide (ihl < 20) || decide (total < ihl) || decide (here < total) }
    (if cut then .stop else s.nextOfProto false pr, w1)
  | .ip6 =>
    let pay := be16 f (pos + 4)
    let nh := beField f (pos + 6) 1
    let tc := be16 f pos / 16 % 256
    let w1 := { w with
      l3 := 2, dscp := tc / 4, ecn := tc % 4, proto := nh, dst := beField f (pos + 24) 16
      srcLow := beField f (pos + 20) 4, ip := some pos, ipEnd := pos + 40 + pay, srcL4 := 0, dstL4 := 0
      outerDone := true
      zero := w.zero || (pay == 0 && nh != 59)
      conflict := w.conflict || decide (here < pay + 40) }
    (s.nextOfProto true nh, w1)
  | .ext k =>
    let nh := beField f pos 1
    let frag := be16 f (pos + 2)
    let off : Bool := k == 44 && frag / 8 != 0
    let w1 := { w with
      proto := nh, extHdr := true, fragment := w.fragment || (k == 44 && (off || bitAt frag 0))
      conflict := w.conflict || decide (w.ipEnd < pos + hdrLen f pos h 0) }
    (if off then .stop else s.nextOfProto true nh, w1)
  | .udp =>
    let len := be16 f (pos + 4)
    let dp := be16 f (pos + 2)
    let ptp : Bool := dp == 319 || dp == 320
    let w1 := { w with
      srcL4 := be16 f pos, dstL4 := dp, ptp := w.ptp || ptp, zero := w.zero || len == 0
      conflict := w.conflict || decide (len < 8) || decide (w.ipEnd < pos + len) }
    (if ptp then .stop
     else if dp = s.rd O.VXLAN_PORT then (if w.tunnelAt.isSome then .stop else .vxlan)
     else match s.opaqueFor 2 dp with
       | some k => .node k
       | none => .stop, w1)
  | .gre =>
    let fl := be16 f pos
    let ty := be16 f (pos + 2)
    let len := hdrLen f pos .gre 0
    let key := if bitAt fl 13 then beField f (pos + 4 + (if bitAt fl 15 then 4 else 0)) 4 else 0
    if fl % 8 ≠ 0 ∨ bitAt fl 14 ∨ bitAt fl 11 ∨ bitAt fl 10 ∨ w.tunnelAt.isSome then (.stop, w)
    else
      (if ty = 0x6558 then .eth else if ty = 0x0800 then .ip4 else if ty = 0x86DD then .ip6 else .stop,
       { w with tunnelAt := some (pos + len, ty == 0x6558), tunnelId := key % 2 ^ 24, outerDone := true })
  | .vxlan =>
    (.eth, { w with tunnelAt := some (pos + 8, true), tunnelId := beField f (pos + 4) 3, outerDone := true })
  | .node k =>
    (match (s.opaqueNode k).2.2.2 with
     | 1 => .ip4
     | 2 => .ip6
     | 3 => .eth
     | _ => .stop, { w with opaque_ := true, outerDone := true })
  | .stop => (.stop, w)

/-- The walk from an offset: it ends at the first header that would be the 13th or would end beyond octet 256 (R329), or that the
frame does not hold whole. -/
def State.walk (s : State) (f : List Byte) : Nat → Nat → Hdr → Walk → Walk
  | 0, _, _, w => w
  | n + 1, pos, h, w =>
    let len := hdrLen f pos h (match h with
      | .node k => (s.opaqueNode k).2.2.1
      | _ => 0)
    if h = .stop then w
    else if w.count = 12 ∨ 256 < pos + len then { w with deep := true }
    else if f.length < pos + len then
      (if h = .ip4 ∨ h = .ip6 then { (s.walkOne f pos h w).2 with ip := w.ip, conflict := true }
       else match h with
         | .ext _ => { w with conflict := true }
         | .udp => { w with conflict := true }
         | _ => w)
    else
      let (h2, w2) := s.walkOne f pos h w
      s.walk f n (pos + len) h2 { w2 with count := w.count + 1 }

/-- A frame parsed: a radio-side datagram starts with its IPv6 header. -/
def State.parseFrame (s : State) (f : EthFrame) : Walk :=
  if f.src = 4 then s.walk f.data 14 0 .ip6 { Walk.start with ety := 0x86DD, outerDone := true }
  else s.walk f.data 14 0 .eth Walk.start

/-- The classifier key (Table 9.7). -/
def keyOf (f : EthFrame) (w : Walk) : Nat :=
  let b := fun (x : Bool) (k : Nat) => if x then 2 ^ k else 0
  let t0 := w.tags.getD 0 0
  let t1 := w.tags.getD 1 0
  f.src + f.hint * 2 ^ 3 + b (decide (1 ≤ w.tags.length)) 5 + b (decide (2 ≤ w.tags.length)) 6 + b w.deep 7 +
  t0 % 4096 * 2 ^ 8 + t0 / 8192 * 2 ^ 20 + t1 % 4096 * 2 ^ 23 + t1 / 8192 * 2 ^ 35 + w.ety * 2 ^ 38 + w.l3 * 2 ^ 54 +
  w.dscp * 2 ^ 56 + w.ecn * 2 ^ 62 + w.proto * 2 ^ 64 + b w.fragment 72 + b w.extHdr 73 + b w.tunnelAt.isSome 74 + b w.ptp 75 +
  b w.opaque_ 76 + w.dst * 2 ^ 80 + w.srcL4 * 2 ^ 208 + w.dstL4 * 2 ^ 224 + w.tunnelId * 2 ^ 240 + f.sensor * 2 ^ 264 +
  w.srcLow * 2 ^ 288

/-! ## The rule table (R333, R339) -/

/-- A rule matches a key. -/
def Rule.hits (r : Rule) (key : Nat) : Bool := r.valid && (key ^^^ r.value) &&& r.mask == 0

/-- The valid rule of the lowest index that matches. -/
def State.ruleFor (s : State) (key : Nat) : Option (Nat × Rule) := s.eth.rules.find? (fun e => e.2.hits key)

/-- RULE_DATA holds a nonzero reserved key bit or an invalid action value (R339). -/
def ruleBad (data : Nat) : Bool :=
  let v := bits data 0 320
  let m := bits data 320 320
  let a := bits data 640 128
  let res := fun (x : Nat) => bits x 77 3 != 0 || bits x 282 6 != 0
  res v || res m || decide (4 < bits a 0 3) || bits a 49 2 == 3

/-- RULES_VALID. -/
def State.rulesValid (s : State) : Nat := (s.eth.rules.filter (fun e => e.2.valid)).length

/-- A rule's hits: frames and octets (`7011.01`). A frame's octets are those of its length (§2), with its FCS; a radio datagram has none
(DESIGN CHOICE, notes/assumptions/27.md). -/
def State.ruleHit (s : State) (i octs : Nat) : State :=
  let s1 := s.wrBits O.RULE_HITS (128 * i) 64 (bits (s.rd O.RULE_HITS) (128 * i) 64 + 1)
  s1.wrBits O.RULE_HITS (128 * i + 64) 64 (bits (s1.rd O.RULE_HITS) (128 * i + 64) 64 + octs)

/-- A rule's entry as RULE_DATA holds it. -/
def Rule.data (r : Rule) : Nat := r.value + r.mask * 2 ^ 320 + r.action * 2 ^ 640

/-- A write of RULE_COMMAND: WRITE 1, INVALIDATE 2, READ 3, CLEAR_HITS 4 on the entry of the requester's RULE_INDEX (R339). -/
def State.opRuleCommand (s : State) (r : Req) (val : Nat) : Except Abort State :=
  let i := s.rdReq r O.RULE_INDEX
  let d := s.rdReq r O.RULE_DATA
  let old := look s.eth.rules i
  let done := fun (s : State) (x : Nat) => (s.wrReq r O.RULE_RESULT x).wr O.RULES_VALID s.rulesValid
  if val = 0 ∨ 4 < val then .error .valueRange
  else if 8191 < i then .ok (done s 1)
  else match val with
  | 1 =>
    if ruleBad d then .ok (done s 2)
    else
      let x : Rule := { value := bits d 0 320, mask := bits d 320 320, action := bits d 640 128, valid := true }
      .ok (done (s.onEth (fun e => { e with rules := put e.rules i x })) 0)
  | 2 => .ok (done (s.onEth (fun e => { e with rules := e.rules.map (fun x =>
      if x.1 = i then (x.1, { x.2 with valid := false }) else x) })) 0)
  | 3 =>
    let s1 := (s.wrReq r O.RULE_DATA ((old.map Rule.data).getD 0)).wrReq r O.RULE_VALID_NOW
      (if (old.map (fun x => x.valid)).getD false then 1 else 0)
    .ok (done s1 0)
  | _ => .ok (done (s.wrBits O.RULE_HITS (128 * i) 128 0) 0)

end Sys2Proof.Machine
end

