-- ==== Sys2Proof/Machine/EthBuild.lean ====
section
/-!
DEFINITION. What a rule's action does to a frame (09, §5, §6): tags and tunnels popped, rewrites, the next hop with its tags and
tunnel template (R340 to R344), the exception queue (R351), mirrors (R334) and host descriptors (R352, R353).
-/
namespace Sys2Proof.Machine

/-! ## Frames taken apart -/

/-- A frame as its actions see it: the two MAC addresses where it has an Ethernet header, its tags, its type and what follows. -/
structure Parts where
  mac : Option (List Byte)
  tags : List (Nat × Nat)
  ety : Nat
  body : List Byte
deriving DecidableEq, Repr

/-- The tags at an offset, with the type and the offset behind them. -/
def State.tagsAt (s : State) (f : List Byte) : Nat → Nat → List (Nat × Nat) → List (Nat × Nat) × Nat × Nat
  | 0, pos, acc => (acc, be16 f pos, pos + 2)
  | n + 1, pos, acc =>
    let ty := be16 f pos
    if s.isTag ty then s.tagsAt f n (pos + 4) (acc ++ [(ty, be16 f (pos + 2))]) else (acc, ty, pos + 2)

/-- An Ethernet frame taken apart. -/
def State.ethParts (s : State) (f : List Byte) : Parts :=
  let (tags, ty, pos) := s.tagsAt f 12 12 []
  { mac := some (f.take 12), tags := tags, ety := ty, body := f.drop pos }

/-- The type of a bare IP datagram. -/
def ipType (f : List Byte) : Nat := if beField f 0 1 / 16 = 4 then 0x0800 else 0x86DD

/-- A frame of the router taken apart: a radio-side datagram has no Ethernet header. -/
def State.partsOf (s : State) (f : EthFrame) : Parts :=
  if f.src = 4 then { mac := none, tags := [], ety := 0x86DD, body := f.data } else s.ethParts f.data

/-- TAG_POP and TUNNEL_POP of a rule (Table 9.8). -/
def State.pop (s : State) (f : EthFrame) (w : Walk) (tagPop : Nat) (tunnelPop : Bool) : Parts :=
  let x := s.partsOf f
  let x1 := { x with tags := x.tags.drop tagPop }
  match tunnelPop, w.tunnelAt with
  | true, some (pos, true) => s.ethParts (f.data.drop pos)
  | true, some (pos, false) =>
    let d := f.data.drop pos
    { mac := none, tags := [], ety := ipType d, body := d }
  | _, _ => x1

/-! ## IP headers -/

/-- Octets of a list replaced from a position on. -/
def patch (f : List Byte) (pos : Nat) (bs : List Byte) : List Byte := f.take pos ++ bs ++ f.drop (pos + bs.length)

/-- The ones' complement sum of 16-bit words. -/
def onesSum : List Byte → Nat → Nat
  | a :: b :: r, n => onesSum r (n + a.toNat * 256 + b.toNat)
  | [a], n => n + a.toNat * 256
  | [], n => n

/-- The Internet checksum of a list of octets. -/
def inetSum (bs : List Byte) : Nat :=
  let n := onesSum bs 0
  let n1 := n % 65536 + n / 65536
  let n2 := n1 % 65536 + n1 / 65536
  0xFFFF - n2

/-- The IPv4 header checksum fixed. -/
def fixIp4 (b : List Byte) : List Byte :=
  let n := beField b 0 1 % 16 * 4
  let z := patch b 10 (beOctets 0 2)
  patch z 10 (beOctets (inetSum (z.take n)) 2)

/-- The DSCP of an IP datagram set. -/
def setDscp (ety v : Nat) (b : List Byte) : List Byte :=
  if ety = 0x0800 then fixIp4 (patch b 1 (beOctets (v % 64 * 4 + beField b 1 1 % 4) 1))
  else if ety = 0x86DD then
    let x := be16 b 0
    patch b 0 (beOctets (x / 4096 * 4096 + v % 64 * 64 + x % 64) 2)
  else b

/-- The flow label of an IPv6 datagram set. -/
def setLabel (ety v : Nat) (b : List Byte) : List Byte :=
  if ety = 0x86DD then patch b 0 (beOctets (beField b 0 4 / 2 ^ 20 * 2 ^ 20 + v % 2 ^ 20) 4) else b

/-- The hop limit or TTL, where the datagram has one. -/
def hopOf (ety : Nat) (b : List Byte) : Option Nat :=
  if ety = 0x0800 then some (beField b 8 1) else if ety = 0x86DD then some (beField b 7 1) else none

/-- The hop limit or TTL set. -/
def setHop (ety v : Nat) (b : List Byte) : List Byte :=
  if ety = 0x0800 then fixIp4 (patch b 8 (beOctets v 1)) else if ety = 0x86DD then patch b 7 (beOctets v 1) else b

/-! ## Rule actions (Table 9.8) -/

/-- A rewrite of a rule: field and value. -/
def actRewrite (a : Nat) : Option (Nat × Nat) := if bitAt a 52 then some (bits a 53 2, bits a 55 20) else none

/-- REWRITE of DSCP, flow label or hop limit (the egress PCP is written where tags are pushed). -/
def rewriteParts (rw : Option (Nat × Nat)) (x : Parts) : Parts :=
  match rw with
  | some (0, v) => { x with body := setDscp x.ety v x.body }
  | some (2, v) => { x with body := setLabel x.ety v x.body }
  | some (3, v) => { x with body := setHop x.ety (v % 256) x.body }
  | _ => x

/-! ## The exception queue (R351) -/

/-- A frame delivered to the exception flow with its descriptor; SOURCE as the key, INDEX of the rule or filter. -/
def State.exceptionDeliver (s : State) (f : EthFrame) (cause index : Nat) : State :=
  let used := s.eth.excBufs.foldl (fun n e => n + e.2) 0
  if s.rd O.EXCEPTION_MAX_KIB * 1024 < used + f.data.length then (s.bump O.EXCEPTION_DROPPED).frameLost f 2
  else
    let (r, a, s1) := s.handItem (s.rd O.EXCEPTION_FLOW) 2 0 f.taints none
    if r ≠ 0 then s1.frameLost f 2
    else
      let d := cause + f.src * 2 ^ 8 + (if f.oversize then 2 ^ 11 else 0) + index * 2 ^ 16 + f.data.length * 2 ^ 32
      let s2 := ((s1.bump O.EXCEPTION_DELIVERED).onEth (fun e => { e with excBufs := put e.excBufs a f.data.length })).emit
        (.exception (s.rd O.EXCEPTION_FLOW) a f.data d f.desc)
      match f.host with
      | some h => s2.complete h 0 false false
      | none => s2

/-- A frame delivered to a flow. -/
def State.flowDeliver (s : State) (f : EthFrame) (flow : Nat) : State :=
  let (r, a, s1) := s.handItem flow 1 0 f.taints none
  if r ≠ 0 then s1.frameLost f 2
  else
    let s2 := s1.emit (.flowFrame flow a f.data f.oversize f.desc)
    match f.host with
    | some h => s2.complete h 0 false false
    | none => s2

/-- A mirror copy of the frame as received (R334), to the exception queue or to a port queue. -/
def State.mirror (s : State) (f : EthFrame) (action index : Nat) : State :=
  let copy := { f with hitch := none, host := none, ptp := none }
  if !bitAt action 5 then s
  else if bitAt action 6 then
    let used := s.eth.excBufs.foldl (fun n e => n + e.2) 0
    if s.rd O.EXCEPTION_MAX_KIB * 1024 < used + f.data.length then s.bump O.MIRROR_DROPPED
    else s.exceptionDeliver copy 7 index
  else
    let p := bits action 25 8 / 64
    let q := bits action 25 8 % 64
    let e := s.qEntry p q
    if qClass e = 0 then s.bump O.C0_QUEUE_REFUSED
    else if !s.isUp p ∨ qSize e * 1024 < s.qOctets p q + f.len then s.bump O.MIRROR_DROPPED
    else
      let (n, s1) := s.newNum
      s1.enqueueFrame p q { copy with num := n }

/-! ## Next hops (R340 to R344) -/

/-- A next-hop entry (Table 9.10). -/
def State.nhEntry (s : State) (n : Nat) : Nat := bits (s.rd O.NEXT_HOPS) (256 * n) 256
/-- PORT of a next-hop entry. -/
def nhPort (e : Nat) : Nat := octet e 6 % 4
/-- VALID of a next-hop entry. -/
def nhValid (e : Nat) : Bool := bitAt e 56
/-- BRIDGE, PUSH_S, PUSH_C, DEC_HOP of a next-hop entry are bits 57 to 60. -/
def nhFlag (e k : Nat) : Bool := bitAt e (56 + k)

/-- HITCH_NEXT_HOP of a port is unusable (R338). -/
def State.hitchHopBad (s : State) (p : Nat) : Bool :=
  let n := s.oct O.HITCH_NEXT_HOP p
  n == 0xFF || !nhValid (s.nhEntry n) || nhPort (s.nhEntry n) != p

/-- A tunnel template (Table 9.11). -/
def State.tpl (s : State) (n : Nat) : Nat := bits (s.rd O.TUNNEL_TEMPLATES) (512 * n) 512

/-- Octets of the headers of a template's TYPE, 0 for none. -/
def tplNeed (ty : Nat) : Nat :=
  match ty with
  | 1 => 24
  | 2 => 44
  | 3 => 36
  | 4 => 56
  | _ => 0

/-- A template can be used. -/
def tplGood (t : Nat) : Bool :=
  decide (1 ≤ octet t 0 ∧ octet t 0 ≤ 4) && decide (4 ≤ octet t 1 ∧ octet t 1 ≤ 60) && decide (tplNeed (octet t 0) ≤ octet t 1)

/-- The UDP source port of a VXLAN tunnel (R342): addresses and ports of the inner datagram under CRC-32C. -/
def vxlanPort (ety : Nat) (b : List Byte) (l4 : Nat) : Nat :=
  let addrs := if ety = 0x0800 then (b.drop 12).take 8 else if ety = 0x86DD then (b.drop 8).take 32 else []
  49152 + crc32c ((addrs ++ beOctets l4 4).map BitVec.toNat) % 2 ^ 14

/-- The datagram in the tunnel of a template, with the type of the outer header (R341, R342); `inner` the inner Ethernet header. -/
def State.wrapTunnel (s : State) (n : Nat) (inner : List Byte) (ety l4 : Nat) (b : List Byte) : Nat × List Byte × State :=
  let t := s.tpl n
  let ty := octet t 0
  let hdr := octets (bits t 32 480) (octet t 1)
  let eth : Bool := decide (3 ≤ ty) || octet t 2 == 1
  let pay := (if eth then inner else []) ++ b
  let v4 : Bool := ty == 1 || ty == 3
  let ipLen := if v4 then max 20 (beField hdr 0 1 % 16 * 4) else 40
  let total := hdr.length + pay.length
  let id := lookD s.eth.ident n 0
  let s1 := if v4 then s.onEth (fun e => { e with ident := put e.ident n ((id + 1) % 65536) }) else s
  let h1 := if v4 then patch (patch hdr 2 (beOctets total 2)) 4 (beOctets id 2)
            else patch hdr 4 (beOctets (total - 40) 2)
  let h2 := if ty ≤ 2 then patch h1 (ipLen + 2) (beOctets (if octet t 2 = 1 then 0x6558 else 0x86DD) 2)
            else patch (patch (patch h1 ipLen (beOctets (vxlanPort ety b l4) 2)) (ipLen + 4) (beOctets (total - ipLen) 2))
              (ipLen + 6) (beOctets 0 2)
  let h3 := if v4 then fixIp4 h2
            else if ty = 4 then
              let udp := h2.drop 40 ++ pay
              let pseudo := (h2.drop 8).take 32 ++ beOctets udp.length 4 ++ beOctets 17 4
              let c := inetSum (pseudo ++ udp)
              patch h2 46 (beOctets (if c = 0 then 0xFFFF else c) 2)
            else h2
  (if v4 then 0x0800 else 0x86DD, h3 ++ pay, s1)

/-- Octets of a tag. -/
def tagOctets (x : Nat × Nat) : List Byte := beOctets x.1 2 ++ beOctets x.2 2

/-- A frame takes the bridge form through an entry (R341): a radio datagram never does. -/
def bridges (e : Nat) (f : EthFrame) : Bool := nhFlag e 1 && f.src != 4

/-- The frame built through a next-hop entry for a queue of its port (R341, R343); `none` where a frame without Ethernet header cannot
be bridged. -/
def State.buildHop (s : State) (bridge : Bool) (e pcp l4 : Nat) (x : Parts) : Option (List Byte × State) :=
  let push := (if nhFlag e 2 then [(s.rd O.STAG_TPID, pcp * 8192 + bits e 64 12)] else []) ++
    (if nhFlag e 3 then [(0x8100, pcp * 8192 + bits e 80 12)] else [])
  if bridge then
    x.mac.map (fun m => (m ++ (push ++ x.tags).flatMap tagOctets ++ beOctets x.ety 2 ++ x.body, s))
  else
    let mac := octets (bits e 0 48) 6 ++ octets (s.rd (O.PORT_MAC (nhPort e))) 6
    let inner := octets (bits e 128 48) 6 ++ octets (s.rd (O.PORT_MAC (nhPort e))) 6 ++ beOctets 0x86DD 2
    let (ety, body, s1) :=
      if octet e 12 = 0xFF then (x.ety, x.body, s) else s.wrapTunnel (octet e 12) inner x.ety l4 x.body
    some (mac ++ push.flatMap tagOctets ++ beOctets ety 2 ++ body, s1)

/-- The hop limit of a datagram decremented (R343): `none` where it is 0 or 1. -/
def decHop (x : Parts) : Option Parts :=
  match hopOf x.ety x.body with
  | some h => if h ≤ 1 then none else some { x with body := setHop x.ety (h - 1) x.body }
  | none => some x

/-- The next-hop entry whose port is UP, the entry itself or its BACKUP (R344), with whether it is the backup. -/
def State.liveHop (s : State) (n : Nat) : Option (Nat × Bool) :=
  let e := s.nhEntry n
  if s.isUp (nhPort e) then some (e, false)
  else
    let b := octet e 13
    let e2 := s.nhEntry b
    if b ≠ 0xFF ∧ nhValid e2 ∧ s.isUp (nhPort e2) then some (e2, true) else none

/-- The class DSCP of CLASS_MAP on a routed frame whose class has REMARK set (R343). -/
def State.remarked (s : State) (bridge : Bool) (cls : Nat) (x : Parts) : Parts :=
  if bridge || !bitAt (s.classMap cls 3) 0 then x else { x with body := setDscp x.ety (s.classMap cls 2) x.body }

/-- A frame goes to the exception queue because its hop limit has run out, as it was received (R343); a hitch's frame is diverted (R34). -/
def State.hopGone (s : State) (f : EthFrame) (index : Nat) : State :=
  ((s.bump O.HOP_LIMIT).exceptionDeliver { f with hitch := none } 6 index).hitchGone f

/-- A frame sent through a next hop to a queue of its port (R338, R341, R343, R344): remarked, rewritten, then its hop limit decremented.
`queue` is the queue asked for, or `none` for the class's own; `rw` the rule's rewrite, `index` the rule's. -/
def State.sendHop (s : State) (f : EthFrame) (x : Parts) (n : Nat) (queue : Option Nat) (rw : Option (Nat × Nat)) (l4 index : Nat) :
    State :=
  if !nhValid (s.nhEntry n) then (s.bump O.NO_NEXT_HOP).frameLost f 2
  else match s.liveHop n with
  | none => (s.bump O.NO_LINK).frameLost f 2
  | some (e, back) =>
    let p := nhPort e
    let q := if f.hitch.isSome && back then s.classMap 0 0 % 64 else (queue.getD (s.classMap f.cls 0)) % 64
    if f.cls ≠ 0 ∧ qClass (s.qEntry p q) = 0 then (s.bump O.C0_QUEUE_REFUSED).frameLost f 2
    else
      let bridge := bridges e f
      let x1 := rewriteParts rw (s.remarked bridge f.cls x)
      match (if nhFlag e 4 then decHop x1 else some x1) with
      | none => s.hopGone f index
      | some x2 =>
        let pcp := match rw with
          | some (1, v) => v % 8
          | _ => s.qPcp p q
        match s.buildHop bridge e pcp l4 x2 with
        | none => (s.bump O.ENCAP_FAULT).frameLost f 2
        | some (d, s1) => s1.enqueueFrame p q { f with data := d }

/-! ## Host descriptors (R352, R353) -/

/-- The frame of a host descriptor is refused: LENGTH 0, a buffer outside the brine pool and fitted DRAM, a C0 queue. -/
def State.hostRefused (s : State) (d : Nat) : Bool :=
  let len := bits d 40 14
  let a := bits d 0 40
  let inMem := fun (x : Nat) => match whereIs x with
    | .brine _ _ => true
    | .dram c off => decide (off < s.fittedBytes c)
    | .other => false
  len == 0 || decide (16379 < len) || !inMem a || !inMem (a + len - 1) ||
  (!bitAt d 62 && qClass (s.qEntry (bits d 54 2) (bits d 56 6)) == 0)

/-- One host descriptor taken. -/
def State.hostTake (s : State) (d : Nat) : State :=
  let h : HostMark := { flow := bits d 64 16, cookie := bits d 80 16, ts := bitAt d 63 }
  let c0 : Bool := !bitAt d 62 && qClass (s.qEntry (bits d 54 2) (bits d 56 6)) == 0
  if s.hostRefused d then
    ((if c0 then s.bump O.C0_QUEUE_REFUSED else s).bump O.HOST_REFUSED).complete h 1 false false
  else
    let data := (List.range (bits d 40 14)).map (fun i => s.memByte (bits d 0 40 + i))
    let f := { EthFrame.blank 5 data s.now with host := some h }
    if bitAt d 62 then s.toParser f
    else
      let (n, s1) := s.newNum
      let p := bits d 54 2
      if !s1.isUp p then (s1.bump O.NO_LINK).frameLost { f with num := n } 2
      else s1.enqueueFrame p (bits d 56 6) { f with num := n }

/-- The descriptors from HOST_HEAD to HOST_TAIL taken in order. -/
def State.hostDrain (s : State) : Nat → State
  | 0 => s
  | n + 1 =>
    let size := s.rd O.HOST_RING_SIZE
    let head := s.rd O.HOST_HEAD
    if size = 0 ∨ head % size = s.rd O.HOST_TAIL % size then s
    else
      let d := s.memRead (s.rd O.HOST_RING_BASE + 16 * (head % size)) 16
      ((s.hostTake d).wr O.HOST_HEAD ((head + 1) % size)).hostDrain n

/-- A write of HOST_TAIL. -/
def State.opHostTail (s : State) (val : Nat) : State := (s.wr O.HOST_TAIL val).hostDrain 65536

end Sys2Proof.Machine
end

