-- ==== Sys2Proof/Machine/TimeOps.lean ====
section
/-!
DEFINITION. The time unit (10): network time, the slot grid and its anchor, sources and the states of Table 10.2, holdover, and the
two-step timestamp queue.
-/
namespace Sys2Proof.Machine

/-! ## The network clock (R355 to R358) -/

/-- The state with its time unit changed. -/
def State.onTim (s : State) (f : Tim → Tim) : State := { s with tim := f s.tim }

/-- Network time in nanoseconds at a tick. -/
def State.netAt (s : State) (t : Nat) : Int := s.tim.base + ((5 * t : Nat) : Int)

/-- Network time now. -/
def State.netNow (s : State) : Int := s.netAt s.now

/-- Nanoseconds as a TIME80 (Table 2.1). -/
def time80 (ns : Int) : Nat :=
  let n := (ns % (2 ^ 48 * 1000000000)).toNat
  n % 1000000000 + n / 1000000000 * 2 ^ 32

/-- A TIME80 as nanoseconds. -/
def ofTime80 (v : Nat) : Int := ((bits v 32 48 * 1000000000 + bits v 0 32 : Nat) : Int)

/-- The 32-bit nanosecond counter at an instant (R357). -/
def ns32 (ns : Int) : Nat := (ns % 2 ^ 32).toNat

/-- The clock goes on in the coarse copy of AON from here (R358). -/
def State.coarseStart (s : State) : State :=
  match s.tim.coarse with
  | some _ => s
  | none => s.onTim (fun m => { m with coarse := some (s.netNow, s.now) })

/-- The network clock restarts from the coarse copy, which advanced once a SLOW period (R358). -/
def State.coarseEnd (s : State) : State :=
  match s.tim.coarse with
  | none => s
  | some (v, a) =>
    let there : Int := v + ((31250 * (s.now / slowTk - a / slowTk) : Nat) : Int)
    s.onTim (fun m => { m with coarse := none, base := there - ((5 * s.now : Nat) : Int) })

/-! ## The slot grid (R359 to R362) -/

/-- The slot length of the running lay in nanoseconds. -/
def State.slotNs (s : State) : Int := ((max 1 (5 * s.slotTk) : Nat) : Int)

/-- Slots from the anchor to an instant. -/
def State.gridIndex (s : State) (t : Nat) : Int := (s.netAt t - ofTime80 (s.rd O.ANCHOR_TIME)) / s.slotNs

/-- The ASN of the slot of the grid that a tick lies in. -/
def State.gridAsn (s : State) (t : Nat) : Nat := (((s.rd O.ANCHOR_ASN : Nat) + s.gridIndex t) % 2 ^ 40).toNat

/-- The first grid boundary after now: the first BB tick at or after its nominal time. -/
def State.nextGrid (s : State) : Nat :=
  let nominal := ofTime80 (s.rd O.ANCHOR_TIME) + (s.gridIndex s.now + 1) * s.slotNs
  ((nominal - s.tim.base + 4) / 5).toNat

/-- The grid realigned after a step or an anchor change under the boot lay (R360). -/
def State.gridRealign (s : State) : State :=
  if !s.bootLay then s
  else ((s.onLay (fun l => { l with slotEnd := some s.nextGrid })).bump O.GRID_REALIGNS).raiseEv O.TIME_EVENTS 6

/-- SLOT_REF and ASN_NOW at a boundary (R362). -/
def State.slotRef (s : State) : State :=
  let ns := s.netAt s.lay.slotAt
  (s.wr O.SLOT_REF (s.lay.asn % 2 ^ 64 + time80 ns * 2 ^ 64 + ns32 ns * 2 ^ 144)).wr O.ASN_NOW s.lay.asn

/-- The anchor moved to the boundary just begun (R361), the shadow of group 0x7801 reloaded. -/
def State.anchorMove (s : State) : State :=
  let s1 := (s.wr O.ANCHOR_ASN s.lay.asn).wr O.ANCHOR_TIME (time80 (s.netAt s.lay.slotAt))
  let s2 := { s1 with shadow := s1.shadow.filter (fun e => e.1 / 256 != 0x7801) }
  (s2.bump O.ANCHOR_MOVES).raiseEv O.TIME_EVENTS 7

/-! ## States and sources (Tables 10.1 and 10.2) -/

/-- TIME_STATE: 0 FREERUN, 1 ACQUIRE, 2 LOCKED, 3 HOLDOVER. -/
def State.timeState (s : State) : Nat := s.rd O.TIME_STATE

/-- A source of Table 10.1: 1 PPS, 2 PTP, 3 PARENT. -/
def State.source (s : State) (k : Nat) : TimeSource := lookD s.tim.sources k TimeSource.reset

/-- A source changed. -/
def State.onSource (s : State) (k : Nat) (f : TimeSource → TimeSource) : State :=
  s.onTim (fun m => { m with sources := modify m.sources k TimeSource.reset f })

/-- HOLDOVER_QPPM outside LOCKED (R366). -/
def State.holdQppm (s : State) : Nat := max 1 (ceilDiv (s.rd O.OSC_STABILITY_PPB) 250)

/-- HOLDOVER_QPPM follows OSC_STABILITY_PPB in every state but LOCKED (R366). -/
def State.holdAgain (s : State) : State := if s.timeState = 2 then s else s.wr O.HOLDOVER_QPPM s.holdQppm

/-- TIME_STATE set, with the condition TIME of Table 1.9: neither LOCKED nor HOLDOVER. What HOLDOVER_QPPM holds while LOCKED is open. -/
def State.setTime (s : State) (v : Nat) : State :=
  if s.timeState = v then s
  else
    let s1 := (s.wr O.TIME_STATE v).raiseEv O.TIME_EVENTS 0
    let s2 := if v < 2 then s1.condBegin 4 0 else s1.condEnd 4 0
    if v = 2 then
      let (q, s3) := s2.free
      s3.wr O.HOLDOVER_QPPM (q % 256)
    else s2.wr O.HOLDOVER_QPPM s2.holdQppm

/-- The source followed, 0 none. -/
def State.setSource (s : State) (k : Nat) : State :=
  if s.rd O.SOURCE_NOW = k then s else (s.wr O.SOURCE_NOW k).raiseEv O.TIME_EVENTS 1

/-- The rank of a source in SOURCE_ORDER, 0 highest. -/
def State.sourceRank (s : State) (k : Nat) : Nat :=
  ((List.range 3).find? (fun i => s.oct O.SOURCE_ORDER i == k)).getD 3

/-- The highest-ranked qualified source. -/
def State.bestSource (s : State) : Option Nat :=
  ((List.range 3).map (fun i => s.oct O.SOURCE_ORDER i)).find? (fun k => (s.source k).qualified)

/-- The holdover bound now (R366). -/
def State.holdErr (s : State) : Nat :=
  if s.timeState ≠ 3 then 0
  else match s.tim.growFrom with
    | some (e0, a) => min (2 ^ 32 - 1) (e0 + s.rd O.OSC_STABILITY_PPB * (s.now - a) / secTk)
    | none => s.rd O.HOLDOVER_ERR_NS

/-- HOLDOVER entered, or gone on with, without a source: the bound grows from E0. -/
def State.holdover (s : State) (e0 : Nat) : State :=
  let s1 := if s.timeState = 3 then s else s.bump O.HOLDOVER_ENTRIES
  ((s1.setTime 3).setSource 0).onTim (fun m => { m with growFrom := some (e0, s.now), good := 0, bad := 0 })

/-- FREERUN entered with no source. -/
def State.freerun (s : State) : State :=
  ((s.setTime 0).setSource 0).onTim (fun m => { m with growFrom := none, good := 0, bad := 0, ppsLock := false })

/-- The holdover bound has passed HOLDOVER_MAX_NS. -/
def State.holdExpire (s : State) : State := ((s.bump O.HOLDOVER_EXPIRIES).raiseEv O.TIME_EVENTS 3).freerun

/-- A source is lost (Table 10.2). -/
def State.sourceLost (s : State) (k : Nat) : State :=
  let s1 := s.onSource k (fun x => { x with qualified := false, progress := 0 })
  if s.rd O.SOURCE_NOW ≠ k then s1
  else match s.timeState with
    | 1 => match s1.bestSource with
      | some j => (s1.setSource j).onTim (fun m => { m with good := 0, bad := 0 })
      | none => s1.freerun
    | 2 => s1.holdover s1.tim.lastGood
    | 3 => s1.holdover (s1.rd O.HOLDOVER_ERR_NS)
    | _ => s1

/-- A source becomes qualified. -/
def State.sourceQualify (s : State) (k : Nat) : State :=
  if (s.source k).qualified then s else s.onSource k (fun x => { x with qualified := true, qualAt := s.now })

/-- The clock steps to the source's time (R356). -/
def State.timeStep (s : State) (e : Int) : State :=
  (((s.onTim (fun m => { m with base := m.base + e })).bump O.STEPS).raiseEv O.TIME_EVENTS 2).gridRealign

/-- LOCKED entered. -/
def State.lock (s : State) : State :=
  (s.setTime 2).onTim (fun m => { m with growFrom := none, bad := 0, ppsLock := s.rd O.SOURCE_NOW == 1 })

/-- A sample of the source followed (R365, R367): what the servo makes of it is open, so the trim is an open value in its range. -/
def State.applySample (s : State) (k : Nat) (e : Int) : State :=
  let a := e.natAbs
  let s1 := s.wr O.OFFSET_NS (satInt 32 e)
  let s2 := if 4 * s.rd O.UNLOCK_NS < a then s1.bump O.OUTLIERS
    else
      let (x, s2) := s1.free
      s2.wrI O.TRIM_CPPB 32 ((x % 20000001 : Nat) - 10000000)
  let s3 := if s2.bootLay ∧ s.rd O.STEP_NS ≤ a then s2.timeStep e else s2
  let good : Bool := decide (a < s.rd O.LOCK_NS)
  let bad : Bool := decide (s.rd O.UNLOCK_NS < a)
  let s4 := s3.onTim (fun m => { m with
    good := if good then m.good + 1 else 0
    bad := if bad then m.bad + 1 else 0
    lastGood := if good then a else m.lastGood })
  let full : Bool := decide (s.rd O.LOCK_SAMPLES ≤ s4.tim.good)
  match s.timeState with
  | 1 => if full then s4.lock else s4
  | 2 => if 4 ≤ s4.tim.bad then
      (s4.onSource k (fun x => { x with qualified := false, progress := 0 })).holdover s4.tim.lastGood
    else s4
  | 3 =>
    let s5 := (s4.wr O.HOLDOVER_ERR_NS (min (2 ^ 32 - 1) a)).onTim (fun m => { m with growFrom := none })
    if s.rd O.HOLDOVER_MAX_NS < a then s5.holdExpire else if full then s5.lock else s5
  | _ => s4

/-- A sample of a source: it selects a source where the unit is in FREERUN, and is applied where its source is the one followed. -/
def State.timeSample (s : State) (k : Nat) (e : Int) : State :=
  let s1 := s.onSource k (fun x => { x with last := e })
  let s2 := if s1.timeState = 0 then
      match s1.bestSource with
      | some j => ((s1.setTime 1).setSource j).onTim (fun m => { m with good := 0, bad := 0 })
      | none => s1
    else s1
  if s2.rd O.SOURCE_NOW = k then s2.applySample k e else s2

/-- A source has been qualified for SWITCH_HOLD_S: a switch while LOCKED, a selection in HOLDOVER (Table 10.2). -/
def State.switchHold (s : State) (k : Nat) : State :=
  let x := s.source k
  let now := s.rd O.SOURCE_NOW
  if !x.qualified ∨ s.now < x.qualAt + s.rd O.SWITCH_HOLD_S * secTk then s
  else if s.timeState = 2 ∧ s.sourceRank k < s.sourceRank now then
    ((s.setSource k).bump O.SOURCE_SWITCHES).onTim (fun m => { m with good := 0, bad := 0, ppsLock := k == 1 })
  else if s.timeState = 3 ∧ now = 0 then
    let s1 := ((s.setSource k).wr O.HOLDOVER_ERR_NS (min (2 ^ 32 - 1) x.last.natAbs)).onTim (fun m =>
      { m with good := 0, bad := 0, growFrom := none })
    if s.rd O.HOLDOVER_MAX_NS < x.last.natAbs then s1.holdExpire else s1
  else s

/-- A sample of the PARENT source (Table 10.1): the EB's TIME80 minus the local time at the end of its P2, plus PARENT_DELAY_NS. -/
def State.parentSample (s : State) (eb : Nat) (at_ : Nat) : State :=
  (s.sourceQualify 3).timeSample 3 (ofTime80 eb - s.netAt at_ + (s.rd O.PARENT_DELAY_NS : Nat))

/-! ## The two-step queue (R373, R374) -/

/-- The timestamp entries of a port, oldest first. -/
def State.tsq (s : State) (p : Nat) : List Nat := lookD s.tim.tsq p []

/-- The queue of a port replaced, with TS_HEAD and TS_DEPTH. -/
def State.setTsq (s : State) (p : Nat) (q : List Nat) : State :=
  ((s.onTim (fun m => { m with tsq := put m.tsq p q })).wr (O.TS_HEAD p) (q.headD 0)).wr (O.TS_DEPTH p) q.length

/-- An entry for a host frame that took its egress stamp; `false` where the queue was full. -/
def State.tsPush (s : State) (p cookie : Nat) (ns : Int) : Bool × State :=
  let q := s.tsq p
  if 32 ≤ q.length then (false, (s.bump (O.TS_OVERFLOW p)).raiseEv O.TIME_EVENTS 5)
  else (true, s.setTsq p (q ++ [cookie % 2 ^ 16 + s.eth.hostSeq * 2 ^ 16 + time80 ns * 2 ^ 48]))

/-- A write of TS_POP. -/
def State.opTsPop (s : State) (p val : Nat) : Except Abort State :=
  match s.tsq p with
  | e :: r => if bits e 16 32 = val then .ok (s.setTsq p r) else .error .valueRange
  | [] => .error .valueRange

/-! ## PPS (R364) -/

/-- A pulse on PPS_IN at `eighths` of a nanosecond of network time. -/
def State.ppsPulse (s : State) (eighths : Int) : State :=
  let early : Bool := match s.tim.ppsAt with
    | some a => decide (s.now < a + 180000000)
    | none => false
  if early then s.bump O.PPS_REJECTED
  else
    let ts8 := eighths - 8 * s.rdI O.PPS_CABLE_NS 32
    let ts := (ts8 + 4) / 8
    let sec : Int := match s.tim.ppsNext with
      | some n => (n : Int)
      | none => (ts + 500000000) / 1000000000
    let e := (sec * 8000000000 - ts8 + 4) / 8
    let s1 := (s.wr O.PPS_LAST (time80 ts)).onTim (fun m => { m with ppsAt := some s.now, ppsRow := 0, ppsNext := none, ppsCount := true })
    let s2 := s1.onSource 1 (fun x => { x with progress := x.progress + 1 })
    let s3 := if 4 ≤ (s2.source 1).progress then s2.sourceQualify 1 else s2
    s3.timeSample 1 e

/-- A second passes without an accepted pulse. -/
def State.ppsMiss (s : State) : State :=
  match s.tim.ppsAt with
  | none => s
  | some a =>
    if s.now < a + 220000000 + s.tim.ppsRow * secTk then s
    else
      let s1 := if s.flag O.PPS_ENABLE && s.tim.ppsCount then s.bump O.PPS_MISSED else s
      let s2 := (s1.onTim (fun m => { m with ppsRow := m.ppsRow + 1 })).onSource 1 (fun x => { x with progress := 0 })
      if s2.tim.ppsRow = 2 ∧ (s2.source 1).qualified then (s2.raiseEv O.TIME_EVENTS 4).sourceLost 1 else s2

end Sys2Proof.Machine
end

