-- ==== Sys2Proof/Machine/PtpOps.lean ====
section
/-!
DEFINITION. The PTP clock (10, §4): which frames it consumes, its messages on the three transports, the best master clock algorithm
over the Announces heard, delays, offset samples, and the egress stamps of its own event messages. Message layouts, multicast addresses
and the dataset comparison are those of IEEE 1588-2019, which the manual names (PRESUMED, notes/assumptions/38.md).
-/
namespace Sys2Proof.Machine

/-! ## Ports -/

/-- A PTP port. -/
def State.ptp (s : State) (p : Nat) : PtpPort := lookD s.tim.ptp p PtpPort.reset

/-- A PTP port changed. -/
def State.onPtp (s : State) (p : Nat) (f : PtpPort → PtpPort) : State :=
  s.onTim (fun m => { m with ptp := modify m.ptp p PtpPort.reset f })

/-- PTP runs on a port: CLOCK_ROLE, ENABLE and a link. -/
def State.ptpOn (s : State) (p : Nat) : Bool := s.rd O.CLOCK_ROLE != 0 && s.flag (O.ENABLE p) && s.isUp p

/-- PORT_STATE: 1 INITIALIZING, 4 LISTENING, 6 MASTER, 7 PASSIVE, 8 UNCALIBRATED, 9 SLAVE. -/
def State.ptpState (s : State) (p : Nat) : Nat := s.rd (O.PORT_STATE p)

/-- PORT_STATE set: a port that leaves SLAVE loses the PTP source (Table 10.1). -/
def State.setPtp (s : State) (p v : Nat) : State :=
  if s.ptpState p = v then s
  else
    let was := s.ptpState p
    let s1 := (s.wr (O.PORT_STATE p) v).onPtp p (fun x => { x with since := s.now })
    let s2 := if v = 8 ∨ v = 9 then s1.wr O.SLAVE_PORT p
      else if s1.rd O.SLAVE_PORT = p then s1.wr O.SLAVE_PORT 0xFF else s1
    if was = 9 then s2.sourceLost 2 else s2

/-- The ticks of an interval of 2^n seconds. -/
def logTk (n : Int) : Nat := if 0 ≤ n then secTk * 2 ^ n.toNat else secTk / 2 ^ (-n).toNat

/-- The Sync interval of a port. -/
def State.syncTk (s : State) (p : Nat) : Nat := logTk (s.rdI (O.LOG_SYNC p) 8)

/-- The Announce interval of a port. -/
def State.announceTk (s : State) (p : Nat) : Nat := logTk (s.rdI (O.LOG_ANNOUNCE p) 8)

/-! ## The clock's own dataset (R369) -/

/-- clockClass. -/
def State.clockClass (s : State) : Nat :=
  if s.flag O.SLAVE_ONLY then 255
  else if s.timeState = 2 ∧ s.rd O.SOURCE_NOW = 1 then 6
  else if s.timeState = 3 ∧ s.tim.ppsLock then 7 else 248

/-- clockAccuracy and timeSource. -/
def State.clockQuality (s : State) : Nat × Nat :=
  (if s.timeState = 2 ∧ s.rd O.SOURCE_NOW = 1 then 0x21 else 0xFE, if s.rd O.SOURCE_NOW = 1 then 0x20 else 0xA0)

/-- EUI64 as the number whose most significant octet is sent first. -/
def identityOf (v : Nat) : Nat := beField (octets v 8) 0 8

/-- The clock's own dataset as an Announce would state it; of the flags, ptpTimescale alone is set (R355). -/
def State.ownData (s : State) : Foreign :=
  { prio1 := s.rd O.PRIORITY1, cls := s.clockClass, accuracy := s.clockQuality.1, variance := 0xFFFF,
    prio2 := s.rd O.PRIORITY2, gm := identityOf (s.rd O.EUI64), steps := 0, sender := identityOf (s.rd O.EUI64) * 65536, at_ := 0,
    count := 2, flags := 8, utc := s.rd O.UTC_OFFSET_S, source := s.clockQuality.2 }

/-- The fields in the order the comparison takes them. -/
def Foreign.rank (f : Foreign) : List Nat := [f.prio1, f.cls, f.accuracy, f.variance, f.prio2, f.gm, f.steps, f.sender]

/-- One list of numbers comes before another. -/
def lexLt : List Nat → List Nat → Bool
  | a :: r, b :: q => decide (a < b) || (a == b && lexLt r q)
  | _, _ => false

/-- A dataset is better than another. -/
def Foreign.better (a b : Foreign) : Bool := lexLt a.rank b.rank

/-- The best foreign master of a port among those that the comparison may take: two Announces of it have come. -/
def State.erBest (s : State) (p : Nat) : Option Foreign :=
  if !s.ptpOn p then none
  else (s.ptp p).foreign.foldl (fun b f => if f.count < 2 then b else match b with
    | some g => if f.better g then some f else b
    | none => some f) none

/-- The best of all ports. -/
def State.eBest (s : State) : Option (Nat × Foreign) :=
  (List.range 4).foldl (fun (b : Option (Nat × Foreign)) (p : Nat) =>
    match s.erBest p, b with
    | some f, some (q, g) => if f.better g then some (p, f) else some (q, g)
    | some f, none => some (p, f)
    | none, x => x) none

/-- The state the BMCA gives a port. A LISTENING port that has heard no master stays so until its Announce receipt timeout; a slave port
that turns to another master is UNCALIBRATED again. -/
def State.bmcaPort (s : State) (p : Nat) : Nat :=
  let own := s.ownData
  let waits : Bool := s.ptpState p == 4 && decide (s.now < (s.ptp p).since + s.rd (O.ANNOUNCE_TIMEOUT p) * s.announceTk p)
  let slave := fun (e : Foreign) => if s.ptpState p = 9 ∧ (s.ptp p).master = e.sender then 9 else 8
  match s.erBest p, s.eBest with
  | none, none => if s.flag O.SLAVE_ONLY || waits then 4 else 6
  | er, some (q, e) =>
    if s.flag O.SLAVE_ONLY then (if q = p then slave e else 4)
    else if er.isNone && waits then 4
    else if own.cls < 128 then
      (match er with
       | some f => if own.better f then 6 else 7
       | none => 6)
    else if own.better e then 6
    else if q = p then slave e
    else match er with
      | some f => if f.gm = e.gm then 7 else 6
      | none => 6
  | some _, none => 4

/-- The BMCA over every port, and the parent dataset objects. -/
def State.bmca (s : State) : State :=
  let states := (List.range 4).map (fun p => if s.ptpOn p then (if s.ptpState p = 1 then 4 else s.bmcaPort p) else 1)
  let s1 := (List.range 4).foldl (fun s p => (s.setPtp p (states.getD p 1)).onPtp p (fun x => { x with
    master := ((s.erBest p).map (fun f => f.sender)).getD 0 })) s
  let s2 := s1.wr O.CLOCK_CLASS s1.clockClass
  match s2.eBest with
  | some (p, f) =>
    if s2.ptpState p = 8 ∨ s2.ptpState p = 9 then
      (s2.wr O.GM_IDENTITY (ofOctets (beOctets f.gm 8))).wr O.STEPS_REMOVED (f.steps + 1)
    else (s2.wr O.GM_IDENTITY (s2.rd O.EUI64)).wr O.STEPS_REMOVED 0
  | none => (s2.wr O.GM_IDENTITY (if s2.rd O.CLOCK_ROLE = 0 then 0 else s2.rd O.EUI64)).wr O.STEPS_REMOVED 0

/-! ## Messages -/

/-- A signed field of `n` octets. -/
def beInt (f : List Byte) (i n : Nat) : Int := toInt (8 * n) (beField f i n)

/-- A timestamp of a message: 6 octets of seconds, 4 of nanoseconds. -/
def stampAt (f : List Byte) (i : Nat) : Int := (beField f i 6 : Nat) * 1000000000 + (beField f (i + 6) 4 : Nat)

/-- A timestamp as a message holds it. -/
def stampOctets (ns : Int) : List Byte :=
  let n := (ns % (2 ^ 48 * 1000000000)).toNat
  beOctets (n / 1000000000) 6 ++ beOctets (n % 1000000000) 4

/-- A message: type, flags, correction in 2⁻¹⁶ ns, sequence number, log interval, body. -/
def State.ptpMsg (s : State) (p kind flags : Nat) (corr : Int) (seq : Nat) (log : Nat) (body : List Byte) : List Byte :=
  beOctets kind 1 ++ beOctets 0x12 1 ++ beOctets (34 + body.length) 2 ++ beOctets (s.rd O.DOMAIN) 1 ++ beOctets 0 1 ++
  beOctets flags 2 ++ beOctets (ofInt 64 corr) 8 ++ beOctets 0 4 ++
  octets (s.rd O.EUI64) 8 ++ beOctets (p + 1) 2 ++ beOctets seq 2 ++ beOctets 0 1 ++ beOctets log 1 ++ body

/-- twoStepFlag. -/
def twoStepFlag (one : Bool) : Nat := if one then 0 else 0x0200

/-- An event message, which takes a timestamp. -/
def ptpEvent (kind : Nat) : Bool := decide (kind < 4)

/-- The multicast group of a message: peer delay messages have their own. -/
def ptpPeer (kind : Nat) : Bool := kind == 2 || kind == 3 || kind == 10

/-- The frame of a message on the port's transport (Table 10.3). -/
def State.ptpFrame (s : State) (p kind : Nat) (msg : List Byte) : List Byte :=
  let tr := s.rd (O.TRANSPORT p)
  let src := octets (s.rd (O.PORT_MAC p)) 6
  let vid := s.rd (O.PTP_VID p)
  let tag := if vid = 0xFFFF then [] else beOctets 0x8100 2 ++ beOctets (s.qPcp p (s.rd (O.PTP_QUEUE p)) * 8192 + vid % 4096) 2
  let ports := beOctets (if ptpEvent kind then 319 else 320) 2 ++ beOctets (if ptpEvent kind then 319 else 320) 2
  match tr with
  | 0 => beOctets (if ptpPeer kind then 0x0180C200000E else 0x011B19000000) 6 ++ src ++ tag ++ beOctets 0x88F7 2 ++ msg
  | 1 =>
    let dst := if ptpPeer kind then 0xE000006B else 0xE0000181
    let ip := fixIp4 (beOctets 0x45 1 ++ beOctets 0 1 ++ beOctets (28 + msg.length) 2 ++ beOctets 0 4 ++ beOctets 1 1 ++
      beOctets 17 1 ++ beOctets 0 2 ++ beOctets (s.rd (O.PTP_IPV4 p)) 4 ++ beOctets dst 4)
    beOctets (0x01005E000000 + dst % 2 ^ 23) 6 ++ src ++ tag ++ beOctets 0x0800 2 ++ ip ++ ports ++
      beOctets (8 + msg.length) 2 ++ beOctets 0 2 ++ msg
  | _ =>
    let dst := if ptpPeer kind then 0xFF02 * 2 ^ 112 + 0x6B else 0xFF0E * 2 ^ 112 + 0x181
    let addrs := octets (s.rd (O.PTP_IPV6 p)) 16 ++ beOctets dst 16
    let udp := fun (c : Nat) => ports ++ beOctets (8 + msg.length) 2 ++ beOctets c 2 ++ msg
    let c := inetSum (addrs ++ beOctets (8 + msg.length) 4 ++ beOctets 17 4 ++ udp 0)
    beOctets (0x333300000000 + dst % 2 ^ 32) 6 ++ src ++ tag ++ beOctets 0x86DD 2 ++ beOctets 0x60000000 4 ++
      beOctets (8 + msg.length) 2 ++ beOctets 17 1 ++ beOctets 1 1 ++ addrs ++ udp (if c = 0 then 0xFFFF else c)

/-- A message sent into the port's PTP_QUEUE; one that finds it full is dropped (R370). -/
def State.ptpSend (s : State) (p kind : Nat) (mark : Option PtpMark) (msg : List Byte) : State :=
  let q := s.rd (O.PTP_QUEUE p)
  let f := { EthFrame.blank 5 (s.ptpFrame p kind msg) s.now with ptp := mark }
  if !s.isUp p ∨ qSize (s.qEntry p q) * 1024 < s.qOctets p q + f.len then s.bump (O.PTP_TX_DROPPED p)
  else
    let (n, s1) := (s.bump (O.PTP_TX p)).newNum
    s1.enqueueFrame p q { f with num := n }

/-- The mark of a message of the time unit's own. -/
def ptpMark (kind seq : Nat) (oneStep : Bool) (rxAt corr : Int) : Option PtpMark :=
  some { kind := kind, seq := seq, oneStep := oneStep, rxAt := rxAt, corr := corr }

/-- A Sync message. -/
def State.sendSync (s : State) (p : Nat) : State :=
  let one := s.flag (O.ONE_STEP p)
  let q := (s.ptp p).syncSeq
  (s.onPtp p (fun x => { x with syncSeq := (q + 1) % 65536, syncAt := s.now })).ptpSend p 0 (ptpMark 0 q one 0 0)
    (s.ptpMsg p 0 (twoStepFlag one) 0 q (s.rd (O.LOG_SYNC p)) (stampOctets 0))

/-- An Announce message: the parent's dataset of the BMCA with one step more, or the clock's own (R369). -/
def State.sendAnnounce (s : State) (p : Nat) : State :=
  let q := (s.ptp p).announceSeq
  let own := s.ownData
  let d := match s.eBest with
    | some (e, f) => if s.ptpState e = 8 ∨ s.ptpState e = 9 then { f with steps := f.steps + 1 } else own
    | none => own
  let body := stampOctets 0 ++ beOctets d.utc 2 ++ beOctets 0 1 ++ beOctets d.prio1 1 ++ beOctets d.cls 1 ++
    beOctets d.accuracy 1 ++ beOctets d.variance 2 ++ beOctets d.prio2 1 ++ beOctets d.gm 8 ++ beOctets d.steps 2 ++
    beOctets d.source 1
  (s.onPtp p (fun x => { x with announceSeq := (q + 1) % 65536, announceAt := s.now })).ptpSend p 11 none
    (s.ptpMsg p 11 d.flags 0 q (s.rd (O.LOG_ANNOUNCE p)) body)

/-- delayAsymmetry of a port, CABLE_ASYM_NS, in 2⁻¹⁶ ns (R371): taken from the correction of a request that leaves, added to that of a Sync
and of a Pdelay_Resp that comes. -/
def State.asym (s : State) (p : Nat) : Int := s.rdI (O.CABLE_ASYM_NS p) 32 * 65536

/-- A Delay_Req (E2E) or Pdelay_Req (P2P). -/
def State.sendDelayReq (s : State) (p : Nat) : State :=
  let q := (s.ptp p).reqSeq
  let peer := s.rd (O.DELAY_MECH p) == 1
  let kind := if peer then 2 else 1
  (s.onPtp p (fun x => { x with reqSeq := (q + 1) % 65536, reqAt := s.now })).ptpSend p kind (ptpMark kind q true 0 0)
    (s.ptpMsg p kind 0 (-(s.asym p)) q 0x7F (stampOctets 0 ++ (if peer then List.replicate 10 0 else [])))

/-! ## Egress stamps (R371, R372) -/

/-- A number of bit times at a port, in 2⁻¹⁶ ns. -/
def State.bitTime (s : State) (p n : Nat) : Int := ((n * 65536000 / max 1 (s.rate p) : Nat) : Int)

/-- The egress stamp of a frame that starts at the sluice now, in 2⁻¹⁶ ns: its message timestamp point at the TX balls (R371). -/
def State.egressStamp (s : State) (p : Nat) : Int := s.netAt (s.now + s.egressTk p) * 65536 + s.bitTime p 64

/-- The octets a frame leaves with: a one-step Sync takes its origin timestamp and the part below a nanosecond as its correction, a one-step
Pdelay_Resp its turnaround (R372). -/
def State.stampFrame (s : State) (p : Nat) (f : EthFrame) : List Byte :=
  match f.ptp with
  | none => f.data
  | some m =>
    let len := if m.kind ≤ 1 then 44 else 54
    let off := f.data.length - len
    let e := s.egressStamp p
    if !m.oneStep then f.data
    else if m.kind = 0 then
      patch (patch f.data (off + 34) (stampOctets (e / 65536))) (off + 8) (beOctets (ofInt 64 (beInt f.data (off + 8) 8 + e % 65536)) 8)
    else if m.kind = 3 then
      let corr := beInt f.data (off + 8) 8 + (e - m.rxAt)
      patch f.data (off + 8) (beOctets (ofInt 64 corr) 8)
    else f.data

/-- What the time unit does once a message of its own has its egress stamp `e`: follow-ups sent, requests remembered. -/
def State.ptpDeparted (s : State) (p : Nat) (f : EthFrame) (e : Int) : State :=
  match f.ptp with
  | none => s
  | some m =>
    match m.kind with
    | 0 => if m.oneStep then s else s.ptpSend p 8 none
        (s.ptpMsg p 8 0 (e % 65536) m.seq (s.rd (O.LOG_SYNC p)) (stampOctets (e / 65536)))
    | 3 => if m.oneStep then s
      else
        let req := (f.data.drop (f.data.length - 10)).take 10
        s.ptpSend p 10 none (s.ptpMsg p 10 0 (m.corr + e % 65536) m.seq 0x7F (stampOctets (e / 65536) ++ req))
    | _ => s.onPtp p (fun x => { x with req := some (m.seq, e) })

/-! ## Reception (R370) -/

/-- The PTP message in a frame on a port's transport, addressed to its multicast or its own address. -/
def State.ptpFind (s : State) (p : Nat) (f : List Byte) : Option (List Byte) :=
  let pos := 14 + 4 * s.tagCount f
  let ety := be16 f (pos - 2)
  let da := beField f 0 6
  match s.rd (O.TRANSPORT p) with
  | 0 => if ety = 0x88F7 ∧ (da = 0x011B19000000 ∨ da = 0x0180C200000E ∨ f.take 6 = octets (s.rd (O.PORT_MAC p)) 6) then
      some (f.drop pos) else none
  | 1 =>
    let ihl := beField f pos 1 % 16 * 4
    let dst := beField f (pos + 16) 4
    let dp := be16 f (pos + ihl + 2)
    if ety = 0x0800 ∧ beField f (pos + 9) 1 = 17 ∧ (dp = 319 ∨ dp = 320) ∧
        (dst = 0xE0000181 ∨ dst = 0xE000006B ∨ dst = s.rd (O.PTP_IPV4 p)) then some (f.drop (pos + ihl + 8)) else none
  | _ =>
    let dst := beField f (pos + 24) 16
    let dp := be16 f (pos + 42)
    if ety = 0x86DD ∧ beField f (pos + 6) 1 = 17 ∧ (dp = 319 ∨ dp = 320) ∧
        ((dst / 2 ^ 120 = 0xFF ∧ dst % 2 ^ 112 = 0x181) ∨ dst = 0xFF02 * 2 ^ 112 + 0x6B ∨
         dst = beField (octets (s.rd (O.PTP_IPV6 p)) 16) 0 16) then some (f.drop (pos + 48)) else none

/-- The PTP message that the time unit consumes of a frame received on a port: what R370 names decides, not CLOCK_ROLE. -/
def State.ptpConsumes (s : State) (p : Nat) (f : List Byte) : Option (List Byte) :=
  if !s.flag (O.ENABLE p) then none
  else (s.ptpFind p f).filter (fun m => decide (34 ≤ m.length) && beField m 4 1 == s.rd O.DOMAIN)

/-- An offset sample from the port's last Sync, where its delay is known (Table 10.1, R371). -/
def State.ptpSample (s : State) (p : Nat) : State :=
  match (s.ptp p).last, (s.ptp p).delay with
  | some (t1, t2), some d =>
    let e := (t1 + d - t2) / 65536
    let s1 := ((s.bump (O.SYNC_SAMPLES p)).setPtp p 9).wrI O.MEAN_PATH_NS 32 (d / 65536)
    let s2 := if (s1.ptp p).since + 4 * s1.syncTk p ≤ s1.now then s1.sourceQualify 2 else s1
    s2.timeSample 2 e
  | _, _ => s

/-- An Announce heard on a port: its sender's record is renewed, and counts on where the one before came within four Announce intervals. -/
def State.announced (s : State) (p : Nat) (m : List Byte) : State :=
  let f : Foreign :=
    { prio1 := beField m 47 1, cls := beField m 48 1, accuracy := beField m 49 1, variance := beField m 50 2,
      prio2 := beField m 52 1, gm := beField m 53 8, steps := beField m 61 2, sender := beField m 20 10, at_ := s.now, count := 1,
      flags := beField m 7 1, utc := beField m 44 2, source := beField m 63 1 }
  if f.gm = identityOf (s.rd O.EUI64) ∨ 255 ≤ f.steps then s
  else
    let l := (s.ptp p).foreign
    let n := match l.find? (fun g => g.sender == f.sender) with
      | some g => if s.now ≤ g.at_ + 4 * s.announceTk p then 2 else 1
      | none => 1
    (s.onPtp p (fun x => { x with foreign := l.filter (fun g => g.sender != f.sender) ++ [{ f with count := n }] })).bmca

/-- A consumed message acts on its port, received at `rx`, in 2⁻¹⁶ ns, at its timestamp point. -/
def State.ptpReceive (s : State) (p : Nat) (m : List Byte) (rx : Int) : State :=
  let s0 := s.bump (O.PTP_RX p)
  let x := s0.ptp p
  let kind := beField m 0 1 % 16
  let two := bitAt (beField m 6 1) 1
  let corr := beInt m 8 8
  let at_ := fun (i : Nat) => stampAt m i * 65536
  let seq := beField m 30 2
  let sender := beField m 20 10
  let mine : Bool := beField m 44 8 == identityOf (s0.rd O.EUI64) && beField m 52 2 == p + 1
  let slave : Bool := (s0.ptpState p == 8 || s0.ptpState p == 9) && x.master == sender
  let peer := s0.rd (O.DELAY_MECH p) == 1
  if kind = 12 ∨ kind = 13 then s0.bump (O.PTP_UNSUPPORTED p)
  else if !s0.ptpOn p then s0
  else match kind with
  | 0 => if !slave then s0
    else if two then s0.onPtp p (fun y => { y with sync := some (seq, rx, corr + s0.asym p) })
    else (s0.onPtp p (fun y => { y with last := some (at_ 34 + corr + s0.asym p, rx) })).ptpSample p
  | 8 => match x.sync with
    | some (q, t2, c) => if slave && q == seq then
        (s0.onPtp p (fun y => { y with sync := none, last := some (at_ 34 + corr + c, t2) })).ptpSample p
      else s0
    | none => s0
  | 1 => if s0.ptpState p = 6 ∧ !peer then
      s0.ptpSend p 9 none (s0.ptpMsg p 9 0 (corr - rx % 65536) seq (s0.rd (O.LOG_SYNC p)) (stampOctets (rx / 65536) ++ (m.drop 20).take 10))
    else s0
  | 9 => match x.req, x.last with
    | some (q, t3), some (t1, t2) => if slave && mine && q == seq && !peer then
        let d := ((t2 - t1) + (at_ 34 - corr - t3)) / 2
        (s0.onPtp p (fun y => { y with delay := some d, req := none })).wrI O.MEAN_PATH_NS 32 (d / 65536)
      else s0
    | _, _ => s0
  | 2 => if peer then
      let one := s0.flag (O.ONE_STEP p)
      let body := (if one then stampOctets 0 else stampOctets (rx / 65536)) ++ (m.drop 20).take 10
      s0.ptpSend p 3 (ptpMark 3 seq one rx corr) (s0.ptpMsg p 3 (twoStepFlag one) (if one then corr else -(rx % 65536)) seq 0x7F body)
    else s0
  | 3 => match x.req with
    | some (q, t1) => if peer && mine && q == seq then
        let c := corr + s0.asym p
        if two then s0.onPtp p (fun y => { y with presp := some (seq, rx, at_ 34 - c) })
        else
          let d := ((rx - t1) - c) / 2
          (s0.onPtp p (fun y => { y with delay := some d, req := none })).wrI (O.PEER_DELAY_NS p) 32 (d / 65536)
      else s0
    | none => s0
  | 10 => match x.req, x.presp with
    | some (q, t1), some (q2, t4, t2) => if peer && mine && q == seq && q2 == seq then
        let d := ((t4 - t1) - (at_ 34 + corr - t2)) / 2
        (s0.onPtp p (fun y => { y with delay := some d, req := none, presp := none })).wrI (O.PEER_DELAY_NS p) 32 (d / 65536)
      else s0
    | _, _ => s0
  | 11 => s0.announced p m
  | _ => s0

/-- The port's link or the group of PTP objects changed: ports begin or stop, and the path delays of Table 10.4 follow the mode. -/
def State.ptpAgain (s : State) : State :=
  let s1 := (List.range 4).foldl (fun s p =>
    let d := pathDelays (s.rd (O.MODE p)) (s.rd (O.FEC p))
    (s.wr (O.TX_PATH_NS p) d.2.1).wr (O.RX_PATH_NS p) d.2.2) s
  let s2 := (List.range 4).foldl (fun s p => if s.ptpOn p then s else s.onPtp p (fun x => { PtpPort.reset with
    syncSeq := x.syncSeq, announceSeq := x.announceSeq, reqSeq := x.reqSeq })) s1
  s2.bmca

/-- LINK of a port set, with what follows for PTP. -/
def State.linkTo (s : State) (p v : Nat) : State := (s.setLink p v).ptpAgain

end Sys2Proof.Machine
end

