-- ==== Sys2Proof/Machine/TimeCmd.lean ====
section
/-!
DEFINITION. The time family (10): pulses and missed seconds, the timers of the PTP ports, the switch hold and the end of holdover. The
writes of PPS_NEXT_S and TS_POP stand with the dictionary's.
-/
namespace Sys2Proof.Machine

/-- Domain LAY, the time unit's, is ON or IDLE. -/
def State.timeUp (s : State) : Bool := s.domainUp 8

/-- PPS_PULSE: an edge on PPS_IN (R364): without effect while PPS_ENABLE is 0, on the edge PPS_EDGE does not name, and while LAY is off. -/
def execPpsPulse (t : Tick) (falling : Bool) (frac : Fin 8) (s : State) : Host.Outcome State Fault Refusal :=
  let s1 := s.tickTo t
  .next (if s1.timeUp && s1.flag O.PPS_ENABLE && (s1.rd O.PPS_EDGE == 1) == falling then
      s1.ppsPulse (8 * s1.netNow + (5 * frac.val : Nat))
    else s1)

/-- PPS_MISSED (R364). -/
def execPpsMissed (t : Tick) (s : State) : Host.Outcome State Fault Refusal :=
  let s1 := s.tickTo t
  .next (if s1.timeUp then s1.ppsMiss else s1)

/-- PTP_SYNC_TIMER: a master port sends a Sync at each Sync interval (R368). -/
def execPtpSyncTimer (t : Tick) (port : Fin 4) (s : State) : Host.Outcome State Fault Refusal :=
  let s1 := s.tickTo t
  let p := port.val
  .next (if s1.ptpOn p && s1.ptpState p == 6 && decide ((s1.ptp p).syncAt + s1.syncTk p ≤ s1.now) then s1.sendSync p else s1)

/-- PTP_ANNOUNCE_TIMER: a master port sends an Announce at each Announce interval (R368). -/
def execPtpAnnounceTimer (t : Tick) (port : Fin 4) (s : State) : Host.Outcome State Fault Refusal :=
  let s1 := s.tickTo t
  let p := port.val
  .next (if s1.ptpOn p && s1.ptpState p == 6 && decide ((s1.ptp p).announceAt + s1.announceTk p ≤ s1.now) then
      s1.sendAnnounce p
    else s1)

/-- PTP_ANNOUNCE_TIMEOUT: ANNOUNCE_TIMEOUT intervals without an Announce: a foreign master silent for so long is forgotten and the BMCA runs
(R368). -/
def execPtpAnnounceTimeout (t : Tick) (port : Fin 4) (s : State) : Host.Outcome State Fault Refusal :=
  let s1 := s.tickTo t
  let p := port.val
  let old := fun (a : Nat) => decide (a + s1.rd (O.ANNOUNCE_TIMEOUT p) * s1.announceTk p ≤ s1.now)
  let lapsed : Bool := match (s1.ptp p).foreign with
    | [] => old (s1.ptp p).since
    | l => l.any (fun f => old f.at_)
  .next (if s1.ptpOn p && lapsed then
      (s1.onPtp p (fun x => { x with foreign := x.foreign.filter (fun f => !old f.at_) })).bmca
    else s1)

/-- SWITCH_HOLD_EXPIRE (R365). -/
def execSwitchHoldExpire (t : Tick) (source : Fin 4) (s : State) : Host.Outcome State Fault Refusal :=
  let s1 := s.tickTo t
  .next (if s1.timeUp then s1.switchHold source.val else s1)

/-- HOLDOVER_EXPIRE (R366). -/
def execHoldoverExpire (t : Tick) (s : State) : Host.Outcome State Fault Refusal :=
  let s1 := s.tickTo t
  .next (if s1.timeState = 3 ∧ s1.rd O.HOLDOVER_MAX_NS < s1.holdErr then s1.holdExpire else s1)

/-- PTP_DELAY_REQ_TIMER: a slave port sends its Delay_Req, a port of the peer delay mechanism its Pdelay_Req (R368); the interval is that of
LOG_SYNC (PRESUMED, notes/assumptions/29.md). -/
def execPtpDelayReqTimer (t : Tick) (port : Fin 4) (s : State) : Host.Outcome State Fault Refusal :=
  let s1 := s.tickTo t
  let p := port.val
  let role : Bool := s1.rd (O.DELAY_MECH p) == 1 || s1.ptpState p == 8 || s1.ptpState p == 9
  .next (if s1.ptpOn p && role && decide ((s1.ptp p).reqAt + s1.syncTk p ≤ s1.now) then s1.sendDelayReq p else s1)

end Sys2Proof.Machine
end

