-- ==== Sys2Proof/Machine/EthCmd.lean ====
section
/-!
DEFINITION. The backhaul family (09) but for FRAME_CLASSIFY, which reaches into the air MAC, and for the writes of dictionary objects:
reception, links, OAM, the sluice and pauses.
-/
namespace Sys2Proof.Machine

/-- Domain FAB, the router's, and the port's part of domain PORT are powered. -/
def State.portPowered (s : State) (p : Nat) : Bool := s.partUp 11 p

/-! ## Reception (R321 to R327) -/

/-- A MAC control frame: consumed, obeyed where the port says so (R321, R350). -/
def State.macControl (s : State) (p : Nat) (f : List Byte) : State :=
  let f := f.drop (4 * s.tagCount f)
  let op := be16 f 14
  if op = 0x0101 then
    let vec := be16 f 16
    let obey := (List.range 8).filter (fun k => bitAt vec k && s.flag (O.PFC_ENABLE p) k)
    let s1 := if obey.isEmpty then s else s.bump (O.PFC_RX p)
    obey.foldl (fun s k => s.pauseStart p k (be16 f (18 + 2 * k))) s1
  else if op = 0x0001 then
    if s.flag (O.PAUSE_ACCEPT p) then (List.range 8).foldl (fun s k => s.pauseStart p k (be16 f 16)) s
    else s.bump (O.PAUSE_IGNORED p)
  else s.bump (O.MAC_CONTROL_DROPPED p)

/-- An OAMPDU: the partner's Information TLV is kept; other OAMPDUs are discarded (R322). -/
def State.oamReceived (s : State) (p : Nat) (f : List Byte) : State :=
  let f := f.drop (4 * s.tagCount f)
  if !s.flag (O.OAM_ENABLE p) then s
  else if beField f 17 1 = 0 then s.onPort p (fun x => { x with oamRemote := (f.drop 18).take 16 })
  else s.bump (O.OAM_UNSUPPORTED p)

/-- A frame steered to a port queue (R327). As no steered frame is an uplink hitch frame, none joins a queue of class C0 (R337); a filter can
name one where the queue has become one since the filter's commit. -/
def State.steerQueue (s : State) (f : EthFrame) (n : Nat) : State :=
  let p := n / 64
  if qClass (s.qEntry p (n % 64)) = 0 then s.bump O.C0_QUEUE_REFUSED
  else if s.isUp p then s.enqueueFrame p (n % 64) f else s.bump O.NO_LINK

/-- The filters decide on a frame (R326, R327): dropped, steered to a queue, flow or the exception queue with the class of its PCP, C0 of which
is demoted (Table 9.9), or left for the classifier with its hint. -/
def State.rxFilter (s : State) (p : Nat) (f : EthFrame) : State :=
  let h := s.ethHead f.data
  let cls := s.pcpClass h
  let f1 := { f with hint := cls, cls := cls }
  match s.filterFor p h with
  | none => s.toParser f1
  | some (i, e) =>
    let s1 := s.wrBits O.FILTER_HITS (64 * i) 64 (bits (s.rd O.FILTER_HITS) (64 * i) 64 + 1)
    match bits e 68 2 with
    | 2 => s1.bump O.FILTER_DROPPED
    | 1 =>
      let (n, s2) := (if cls = 0 then s1.bump O.C0_NO_HITCH else s1).newNum
      let f2 := { f1 with num := n, cls := max 1 cls }
      match bits e 73 2 with
      | 0 => s2.steerQueue f2 (bits e 75 8)
      | 1 => s2.flowDeliver f2 (bits e 83 16)
      | _ => s2.exceptionDeliver f2 4 i
    | _ => s1.toParser (if bitAt e 70 then { f1 with hint := bits e 71 2 } else f1)

/-- A frame whose last bit has come in on a port that is UP (Table 9.3), its octets with the FCS. -/
def State.ethReceive (s : State) (p : Nat) (frame : List Byte) : State :=
  let len := frame.length
  let f := frame.take (len - 4)
  let rx := s.netNow * 65536 - s.bitTime p (len * 8)
  if len ≤ 63 then s.bump (O.RX_RUNT p)
  else if 16383 < len then s.bump (O.RX_JABBER p)
  else if frame.drop (len - 4) ≠ ethFcs false f then s.bump (O.RX_FCS_ERR p)
  else
    let long := s.tooLong p f
    let s1 := if long then (s.bump (O.RX_OVERSIZE p)).raiseEv (O.PORT_EVENTS p) 3
      else (s.bump64 (O.RX_FRAMES p) 1).bump64 (O.RX_OCTETS p) len
    let d := if long then f.take (s.allowance p f - 4) else f
    let ety := (s1.ethHead d).ety
    if ety = 0x8808 then s1.macControl p d
    else if ety = 0x8809 ∧ beField d 14 1 = 3 then s1.oamReceived p d
    else match s1.ptpConsumes p d with
      | some m => s1.ptpReceive p m rx
      | none => s1.rxFilter p { EthFrame.blank p d s1.now with oversize := long }

/-- ETH_FRAME_RECEIVED. A frame that was coming in when its link restarted is discarded (R319). -/
def execEthFrameReceived (t : Tick) (port : Fin 4) (frame : List Byte) (fecFixed fecBad : Nat) (s : State) :
    Host.Outcome State Fault Refusal :=
  let s1 := s.tickTo t
  let p := port.val
  let began := s1.now - bitsTk (s1.rate p) (frame.length * 8)
  .next (if !s1.portPowered p then s1
    else if began < (s1.port p).restartAt then s1.bump (O.RX_DISCARDED_RESTART p)
    else if !s1.isUp p then s1
    else
      let s2 := (s1.bumpBy (O.FEC_CORRECTED p) fecFixed).bumpBy (O.FEC_UNCORRECTED p) fecBad
      let s3 := if fecBad = 0 then s2 else s2.raiseEv (O.PORT_EVENTS p) 1
      s3.ethReceive p frame)

/-! ## Links (R318, R320) -/

/-- The partner's word of a negotiation gives an outcome of Table 9.1: in mode 4 its base page offers full duplex (Clause 37, bit 5), in mode 5
its link word says link up, full duplex and 1,000 Mb/s (bits 15, 12, [11:10] = 2); the layouts are PRESUMED, the standards' own (notes/assumptions/38.md). -/
def anAgreed (mode word : Nat) : Bool :=
  if mode = 4 then bitAt word 5 else bitAt word 15 && bitAt word 12 && bits word 10 2 == 2

/-- LINK_UP: a powered port with a MODE comes up; where the mode negotiates and the outcome is not one of Table 9.1 it stays down. -/
def execLinkUp (t : Tick) (port : Fin 4) (word : Nat) (s : State) : Host.Outcome State Fault Refusal :=
  let s1 := s.tickTo t
  let p := port.val
  let an : Bool := decide (4 ≤ s1.rd (O.MODE p)) && s1.flag (O.AN_ENABLE p)
  .next (if !s1.portPowered p ∨ s1.rd (O.MODE p) = 0 ∨ s1.isUp p then s1
    else if an && !anAgreed (s1.rd (O.MODE p)) word then s1.bump (O.AN_FAIL p)
    else s1.linkTo p 1)

/-- LINK_DOWN (R320). -/
def execLinkDown (t : Tick) (port : Fin 4) (s : State) : Host.Outcome State Fault Refusal :=
  let s1 := s.tickTo t
  let p := port.val
  .next (if s1.isUp p then s1.linkTo p (s1.linkIdle p) else s1)

/-- OAM_INFO_TIMER: once a second an Information OAMPDU leaves every port that runs OAM (R322). -/
def execOamInfoTimer (t : Tick) (s : State) : Host.Outcome State Fault Refusal :=
  let s1 := s.tickTo t
  .next (if s1.eth.oamAt + secTk ≤ s1.now then
      (List.range 4).foldl (fun s p => if s.isUp p && s.flag (O.OAM_ENABLE p) then
          s.oamSend p false
        else s) (s1.onEth (fun e => { e with oamAt := s1.now }))
    else s1)

/-! ## The sluice -/

/-- SLUICE_FRAME_START: the frame that R347 chooses starts; with none that may start, nothing does. -/
def execSluiceFrameStart (t : Tick) (port : Fin 4) (s : State) : Host.Outcome State Fault Refusal :=
  let s1 := s.tickTo t
  let p := port.val
  .next (match s1.nextFrame p with
    | some (q, f) => (s1.startFrame p q f (s1.stampFrame p f) (s1.egressStamp p / 65536)).ptpDeparted p f (s1.egressStamp p)
    | none => s1)

/-- A frame has finished: counted, and its host completion with the timestamp asked for (R354, R373). The stamp is the one of its start. -/
def State.frameSent (s : State) (p : Nat) (x : TxFrame) : State :=
  let s1 := ((s.bump64 (O.TX_FRAMES p) 1).bump64 (O.TX_OCTETS p) x.wire).onPort p (fun y => { y with tx := none })
  match x.frame.host with
  | none => s1
  | some h =>
    if h.ts then
      let (ok, s2) := s1.tsPush p h.cookie x.stamp
      s2.complete h 0 x.cut ok
    else s1.complete h 0 x.cut false

/-- ETH_FRAME_SENT: the frame in transmission ends (R348). -/
def execEthFrameSent (t : Tick) (port : Fin 4) (s : State) : Host.Outcome State Fault Refusal :=
  let s1 := s.tickTo t
  let p := port.val
  .next (match (s1.port p).tx with
    | some x => if x.stop ≤ s1.now then (s1.frameSent p x).sluiceAgain p else s1
    | none => s1)

/-- PAUSE_EXPIRE: a priority's pause time has run out (R350). -/
def execPauseExpire (t : Tick) (port : Fin 4) (prio : Fin 8) (s : State) : Host.Outcome State Fault Refusal :=
  let s1 := s.tickTo t
  .next (match look (s1.port port.val).pauses prio.val with
    | some (_, until_) => if until_ ≤ s1.now then s1.pauseEnd port.val prio.val else s1
    | none => s1)

end Sys2Proof.Machine
end

