-- ==== Sys2Proof/Machine/KeyStore.lean ====
section
/-!
DEFINITION. The key store in DRAM (08, §4.1, §5): its region, its records (Table 8.4), the root keys they are wrapped under, and what a slot
shows.
-/
namespace Sys2Proof.Machine

/-- STORE_BASE: the fitted capacity of channel 0 less 64 MiB (R302), as an address of its window; 0 where the channel is not fitted. -/
def State.storeBase (s : State) : Nat := if s.fittedCap 0 < 0x4000000 then 0 else chanBase 0 + s.fittedCap 0 - 0x4000000

/-- The record of a slot as memory holds it (Table 8.4), 512 bits. -/
def State.record (s : State) (n : Nat) : Nat := if s.storeBase = 0 then 0 else s.memRead (s.storeBase + 64 * n) 64

/-- A codeword of a slot's record is poisoned or uncorrectable. -/
def State.recordPoisoned (s : State) (n : Nat) : Bool :=
  [0, 16, 32, 48].any (fun k => match (s.wordJudge (s.storeBase + 64 * n + k) 0).1 with
    | .good | .corrected _ => false
    | _ => true)

/-- KIND of a record. -/
def rcKind (r : Nat) : Nat := bits r 20 4
/-- ROOT_GEN of a record. -/
def rcGen (r : Nat) : Nat := bits r 24 4
/-- SEQ of a record. -/
def rcSeq (r : Nat) : Nat := bits r 32 32

/-- The slots whose records are not EMPTY. -/
def State.storeSlots (s : State) : List Nat :=
  let base := s.storeBase
  if base = 0 then []
  else s.mem.cells.filterMap (fun c =>
    if base ≤ c.1 ∧ c.1 < base + 0x4000000 ∧ (c.1 - base) % 64 = 2 ∧ 16 ≤ c.2.toNat then some ((c.1 - base) / 64) else none)

/-- What the device knows of a slot beside its record. -/
def State.keyNote (s : State) (n : Nat) : KeyNote := lookD s.cph.notes n { corrupt := false, ver := 0 }

/-- A slot of the key store. -/
def State.keySlot (s : State) (n : Nat) : KeySlot :=
  let r := s.record n
  { kind := rcKind r, gen := rcGen r, seq := rcSeq r, corrupt := (s.keyNote n).corrupt, ver := (s.keyNote n).ver }

/-! ## Root keys (R309, R310) -/

/-- The rows of the root generations, oldest first. -/
def State.rootRows (s : State) : List OtpRec := (lookD s.otp.areas 3 []).filter (fun r => r.valid)

/-- The current root generation (R490). -/
def State.rootGen (s : State) : Nat := s.rootRows.length - 1

/-- The root key of a generation whose row is programmed and not retired. -/
def State.rootKey (s : State) (g : Nat) : Option (List Byte) :=
  (s.rootRows[g]?).bind (fun r => if r.retired then none else some (octets r.value 32))

/-- A record of a key of 32 octets, wrapped under a root key (Table 8.4). -/
def sealRecord (root : List Byte) (gen slot kind seq : Nat) (key : List Byte) : Nat :=
  let head := slot % 2 ^ 20 + kind % 16 * 2 ^ 20
  head + gen % 16 * 2 ^ 24 + seq * 2 ^ 32 + ofOctets (keyWrap root (key ++ octets head 4 ++ octets seq 4)) * 2 ^ 128

/-- The key that a record of a slot holds; none where a check of R303 fails: its root generation, the wrap, the slot's number, the SLOT and
KIND inside the wrap against the header. -/
def State.unsealRecord (s : State) (n r : Nat) : Option (List Byte) :=
  ((s.rootKey (rcGen r)).bind (fun k => keyUnwrap k (octets (r / 2 ^ 128) 48))).bind (fun p =>
    if r % 2 ^ 20 = n ∧ 1 ≤ rcKind r ∧ rcKind r ≤ 3 ∧ ofOctets ((p.drop 32).take 4) % 2 ^ 24 = r % 2 ^ 24 then some (p.take 32) else none)

/-- The info octets of the derivation of R312: "VHC7200 import". -/
def importInfo : List Byte := toBytes [0x56, 0x48, 0x43, 0x37, 0x32, 0x30, 0x30, 0x20, 0x69, 0x6D, 0x70, 0x6F, 0x72, 0x74]

/-- A record written to the store. -/
def State.putRecord (s : State) (n r : Nat) : State :=
  let a := s.storeBase + 64 * n
  if s.storeBase = 0 then s
  else if s.chServes 0 then s.blockStore 33 a (octets r 64)
  else (s.memWrite a (octets r 64)).memSound a (a + 64)

end Sys2Proof.Machine
end

