-- ==== Sys2Proof/Machine/CphOps.lean ====
section
/-!
DEFINITION. The cipher bank and the key store (08): engines and the dispatch of jobs (R296 to R300), outcomes (Table 8.3), early release
(R315 to R317), the key cache with fetches, pins and evictions (R303 to R308), imports and deletion (R312 to R314).
-/
namespace Sys2Proof.Machine

/-- The state with its cipher bank changed. -/
def State.onCph (s : State) (f : Cph → Cph) : State := { s with cph := f s.cph }

/-! ## Engines -/

/-- STATE of an engine: 0 OFF, 1 IDLE, 2 BUSY, 3 TEST, 4 RETIRED. -/
def State.engine (s : State) (n : Nat) : Nat := s.oct O.ENGINE_STATE n % 16

/-- STATE of an engine set, RESERVE kept. -/
def State.setEngine (s : State) (n st : Nat) : State := s.wrOct O.ENGINE_STATE n (s.oct O.ENGINE_STATE n / 16 * 16 + st)

/-- The job that runs on an engine. -/
def State.jobOn (s : State) (n : Nat) : Option Job :=
  s.cph.jobs.find? (fun j => j.engine == n && (j.state == 2 || j.state == 4))

/-- HEADER_LEN and TEXT_LEN. -/
def Job.hdrLen (j : Job) : Nat := j.hdr.length
/-- TEXT_LEN. -/
def Job.textLen (j : Job) : Nat := j.text.length

/-- The descriptor of a job (Table 8.2). -/
def Job.descriptor (j : Job) : Nat :=
  let b := fun (c : Bool) (n : Nat) => if c then 2 ^ n else 0
  j.op + j.level * 2 ^ 4 + j.cls * 2 ^ 7 + b j.early 9 + b j.restarted 10 + j.slot * 2 ^ 16 + j.hdrLen % 2 ^ 12 * 2 ^ 36 +
    j.textLen % 2 ^ 16 * 2 ^ 48 + j.psduLen % 2 ^ 16 * 2 ^ 64 + j.state * 2 ^ 80 + j.released % 2 ^ 16 * 2 ^ 96 + j.engine * 2 ^ 112 +
    j.inAddr * 2 ^ 128 + j.outAddr * 2 ^ 168 + j.flow * 2 ^ 208 + j.id * 2 ^ 224 + j.nonce * 2 ^ 256

/-- Octets that the bank writes to a buffer, where its memory is served. -/
def State.bufWrite (s : State) (a : Nat) (l : List Byte) : State := s.blockStore 33 a l

/-- A job's descriptor in memory as the job stands. -/
def State.showJob (s : State) (j : Job) : State := s.bufWrite j.descAddr (octets j.descriptor 64)

/-- A job replaced by its number, its descriptor with it. -/
def State.setJob (s : State) (j : Job) : State :=
  (s.onCph (fun c => { c with jobs := c.jobs.map (fun x => if x.id = j.id then j else x) })).showJob j

/-- Ticks of one block operation with the key a job uses (R290). -/
def Job.opTk (j : Job) : Nat := if j.kind = 3 then 60 else 44

/-- Block operations done by now in the run in progress, its count at most. -/
def Job.doneBy (j : Job) (now : Nat) : Nat := min j.ops (j.done + (now - j.startedAt) / j.opTk)

/-- Block operations of a job (Table 8.1). -/
def jobOps (op hdr text psdu : Nat) : Nat :=
  if op ≤ 1 then 2 * ceilDiv psdu 16 + 2 else ceilDiv hdr 16 + ceilDiv text 16 + 1

/-- Octets of a job's tag (Table 8.1). -/
def jobTag (op level : Nat) : Nat :=
  if 2 ≤ op then 16 else if level = 5 then 4 else if level = 6 then 8 else if level = 7 then 16 else 0

/-- A slot's kind fits a job's operation and level (Table 8.3, KEY_KIND). -/
def kindOk (op level kind : Nat) : Bool :=
  if op ≤ 1 then kind == 1 else (kind == 2 || kind == 3) && level == 0

/-- What a job computes (R291): the plaintext and whether the tag is good, or the protected text with its tag. -/
def Job.result (j : Job) : List Byte × Bool :=
  let key := j.key.take (if j.kind = 3 then 32 else 16)
  let m := jobTag j.op j.level
  match j.op with
  | 0 => if j.tag.length = m then ccmOpen key (octets j.nonce 13) j.hdr j.text j.tag else ([], false)
  | 1 => (ccmProtect key (octets j.nonce 13) j.hdr j.text m, true)
  | 2 => if j.tag.length = m then gcmOpen key (octets j.nonce 12) j.hdr j.text j.tag else ([], false)
  | _ => (gcmProtect key (octets j.nonce 12) j.hdr j.text, true)

/-- What a job that is done leaves at OUT_ADDR: the plaintext, or the whole protected frame. -/
def Job.output (j : Job) : List Byte := if j.op % 2 = 0 then j.result.1 else j.hdr ++ j.result.1

/-! ## The key cache -/

/-- The current key of a slot as the cache holds it. -/
def State.cacheKey (s : State) (n : Nat) : Option CacheKey :=
  s.cph.cache.find? (fun k => k.slot == n && k.ver == (s.keyNote n).ver)

/-- The current key of a slot is in the cache. -/
def State.cached (s : State) (n : Nat) : Bool := (s.cacheKey n).isSome

/-- A cached key is in use: a job that names it is queued, running or suspended. -/
def State.keyInUse (s : State) (k : CacheKey) : Bool := s.cph.jobs.any (fun j => j.slot == k.slot && j.ver == k.ver)

/-- A cached key can be evicted (R304). -/
def State.keyFree (s : State) (k : CacheKey) : Bool :=
  !s.keyInUse k && !(s.cph.pinned.contains k.slot && k.ver == (s.keyNote k.slot).ver)

/-- Retiring copies that no job uses any more leave the cache (R308). -/
def State.cacheTrim (s : State) : State :=
  s.onCph (fun c => { c with cache := c.cache.filter (fun k => k.ver == (s.keyNote k.slot).ver || s.keyInUse k) })

/-- A fetch of a slot begins: its record is read. -/
def State.fetchKey (s : State) (n : Nat) : State :=
  let f : KeyFetch := { slot := n, ver := (s.keyNote n).ver, rec_ := s.record n }
  if s.cph.fetches.any (fun x => x.slot == n && x.ver == f.ver) then s
  else (if s.storeBase = 0 then s else s.blockRead 33 (s.storeBase + 64 * n) 64).onCph (fun c => { c with fetches := c.fetches ++ [f] })

/-- Keys to fetch for a new set of pins. -/
def State.setPins (s : State) (pins : List Nat) : State :=
  (pins.filter (fun n => !s.cached n && (s.keySlot n).kind != 0 && !(s.keySlot n).corrupt)).foldl State.fetchKey
    (s.onCph (fun c => { c with pinned := pins, pinWait := c.pinWait.filter pins.contains }))

/-- The least recently used key that is free to evict. -/
def State.victim (s : State) : Option CacheKey :=
  s.cph.cache.foldl (fun (b : Option CacheKey) (k : CacheKey) =>
    if !s.keyFree k then b
    else match b with
      | none => some k
      | some x => if k.used < x.used then some k else some x) none

/-- A fetched key put into the cache, another evicted for it where the cache is full; `none` where no key can go (R304). -/
def State.cachePut (s : State) (k : CacheKey) : Option State :=
  if s.cph.cache.any (fun x => x.slot == k.slot && x.ver == k.ver) then some s
  else if s.cph.cache.length < s.rd O.CACHE_CAPACITY then some (s.onCph (fun c => { c with cache := c.cache ++ [k] }))
  else match s.victim with
    | some v => some ((s.bump O.EVICTIONS).onCph (fun c => { c with cache := c.cache.filter (· != v) ++ [k] }))
    | none => none

/-! ## Outcomes (Table 8.3) -/

/-- A job ends in a state: counted, taken from the list; its poison range is kept after a failed tag until the buffer is freed, and
reads as zero meanwhile (R317). -/
def State.jobEnds (s : State) (j : Job) (st : Nat) : Job × State :=
  let s1 := s.onCph (fun c => { c with
    jobs := c.jobs.filter (fun x => x.id != j.id)
    preempt := c.preempt.filter (fun x => x.2 != j.id)
    poisoned := if st = 6 then c.poisoned else c.poisoned.filter (· != j.id) })
  let s2 := match st with
    | 5 => s1.bump O.JOBS_DONE
    | 6 => (s1.bump O.AUTH_FAIL).raiseEv O.CIPHER_EVENTS 0
    | 7 => (s1.bump O.KEY_UNAVAILABLE).raiseEv O.CIPHER_EVENTS 4
    | 8 => s1.bump O.KEY_KIND
    | 9 => s1.bump O.LENGTH_FAULT
    | 10 => s1.bump O.CPH_CANCELLED
    | _ => (s1.bump O.JOB_REFUSED).raiseEv O.CIPHER_EVENTS 3
  let s3 := if st = 6 ∧ j.early then
      (((s2.bump O.ZEROIZED).raiseEv O.CIPHER_EVENTS 1).onMem (fun m => { m with
        cells := cellsClear m.cells j.outAddr (j.outAddr + j.textLen) })).onCph (fun c => { c with
        zeroed := c.zeroed ++ [(j.id, j.outAddr, j.textLen)] })
    else s2
  let j1 := { j with state := st }
  (j1, s3.cacheTrim.showJob j1)

/-! ## Dispatch (R296 to R299) -/

/-- Early release is applied to a job as it first starts (R315). -/
def State.earlyStart (s : State) (j : Job) : Job × State :=
  if j.op % 2 = 1 ∨ j.early ∨ !s.flag O.EARLY_RELEASE j.flow then (j, s)
  else
    let brine : Bool := decide (0x100000000 ≤ j.outAddr ∧ j.outAddr + j.textLen ≤ 0x104000000)
    if brine && decide (s.cph.poisoned.length < 64) then
      ({ j with early := true }, (s.bump O.BITTERN_JOBS).onCph (fun c => { c with poisoned := c.poisoned ++ [j.id] }))
    else (j, s.bump O.EARLY_SKIPPED)

/-- A job starts or resumes on an engine. -/
def State.startJob (s : State) (j : Job) (n : Nat) : State :=
  let (j1, s1) := if j.engine = 0xFF then s.earlyStart j else (j, s)
  let s2 := if j.state = 3 then s1.bump O.RESUMES else s1
  ((s2.setJob { j1 with state := if j1.released = 0 then 2 else 4, engine := n, startedAt := s.now }).setEngine n 2).onCph
    (fun c => { c with
      preempt := c.preempt.filter (fun x => x.2 != j.id)
      cache := c.cache.map (fun k => if k.slot = j.slot ∧ k.ver = j.ver then { k with used := s.now } else k) })

/-- An engine gets no C1 to C3 work (R147, R157, R158). -/
def State.engineBarred (s : State) (n : Nat) : Bool := s.memberBarred (0x400 + n)

/-- Engines that C1 to C3 work may take: idle, not forbidden, not prepared for a test. -/
def State.idleEngine (s : State) : Option Nat :=
  (List.range 32).find? (fun n => s.engine n == 1 && !s.engineBarred n)

/-- A C0 job runs on an engine, or is about to. -/
def State.c0On (s : State) (n : Nat) : Bool :=
  (match s.jobOn n with
   | some j => j.cls == 0
   | none => false) || s.cph.preempt.any (fun x => x.1 == n)

/-- The engine R298 gives a C0 job, and whether it must first take it over. -/
def State.c0Engine (s : State) (j : Job) : Option (Nat × Bool) :=
  let works := fun (n : Nat) => (s.engine n == 1 || s.engine n == 2) && !s.c0On n
  match s.cph.reserve.find? (fun e => some e.2 == j.hitch && works e.1) with
  | some e => some (e.1, s.engine e.1 == 2)
  | none =>
    match (List.range 16).find? (fun n => s.engine n == 1 && works n) with
    | some n => some (n, false)
    | none =>
      let room := decide ((s.cph.jobs.filter (fun x => x.state == 3)).length < 32)
      let last := (List.range 16).foldl (fun (b : Option (Nat × Nat)) (n : Nat) =>
        if !(works n && s.engine n == 2) then b
        else match s.jobOn n, b with
          | some x, some (a, m) => if a < x.startedAt then some (x.startedAt, n) else some (a, m)
          | some x, none => some (x.startedAt, n)
          | none, y => y) none
      if room then last.map (fun x => (x.2, true)) else none

/-- One C0 job placed, if one can be: the first ready one in arrival order. -/
def State.placeC0 (s : State) : Option State :=
  let ready := s.cph.jobs.filter (fun j => j.cls == 0 && j.state == 0 && !j.atInput && !s.cph.preempt.any (fun x => x.2 == j.id))
  ready.findSome? (fun j => (s.c0Engine j).map (fun e =>
    if e.2 then s.onCph (fun c => { c with preempt := c.preempt ++ [(e.1, j.id)] }) else s.startJob j e.1))

/-- The C1 to C3 job next in line: by class, a suspended job ahead of the queued ones, then arrival. -/
def State.nextJob (s : State) : Option Job :=
  let of := fun (c st : Nat) => s.cph.jobs.find? (fun j => j.cls == c && j.state == st)
  [of 1 3, of 1 0, of 2 3, of 2 0, of 3 3, of 3 0].findSome? id

/-- One C1 to C3 job placed: a suspended job on the engine it left where that is idle and available. -/
def State.placeRest (s : State) : Option State :=
  match s.nextJob, s.idleEngine with
  | some j, some n =>
    let back : Bool := j.state == 3 && decide (j.engine < 32) && s.engine j.engine == 1 && !s.engineBarred j.engine
    some (s.startJob j (if back then j.engine else n))
  | _, _ => none

/-- C0 places given to jobs that wait at the bank's input (R297): a hitch's own place, else one of 32 shared. -/
def State.c0Room (s : State) (h : Option Nat) : Bool :=
  let inside := s.cph.jobs.filter (fun j => j.cls == 0 && j.state < 2 && !j.atInput)
  let own := inside.filter (fun j => j.hitch == h)
  let hs := sortNub (inside.map (fun j => j.hitch.getD 1024))
  own.isEmpty || decide (inside.length - hs.length < 32)

/-- Jobs dispatched as far as engines go. -/
def State.cphDispatch : Nat → State → State
  | 0, s => s
  | n + 1, s =>
    match s.cph.jobs.find? (fun j => j.atInput && s.c0Room j.hitch) with
    | some j => State.cphDispatch n (s.setJob { j with atInput := false })
    | none => match s.placeC0 with
      | some s1 => State.cphDispatch n s1
      | none => match s.placeRest with
        | some s1 => State.cphDispatch n s1
        | none => s

/-- Dispatch after anything that bears on it. -/
def State.cphGo (s : State) : State := State.cphDispatch 96 s

/-! ## Submission (R296, R297) -/

/-- What a new job is made of. -/
structure NewJob where
  op : Nat
  level : Nat
  cls : Nat
  hitch : Option Nat
  slot : Nat
  hdr : List Byte
  text : List Byte
  tag : List Byte
  psduLen : Nat
  flow : Nat
  nonce : Nat
  use : JobUse

/-- A job submitted: it ends at once where its lengths, its key's kind or a full queue say so, and else is queued, its key fetched where
the cache does not hold it. The ended job, if it did. Its buffers and its descriptor stand at open addresses of the brine pool. -/
def State.cphSubmit (s : State) (n : NewJob) : List Job × State :=
  let (a, s1) := s.free
  let (b, s2) := s1.free
  let (d, s3) := s2.free
  let held := s.cacheKey n.slot
  let hit := held.isSome
  let j : Job :=
    { id := s.cph.nextJob, op := n.op, level := n.level, cls := n.cls, hitch := n.hitch, early := false, restarted := false,
      slot := n.slot, hdr := n.hdr, text := n.text, tag := n.tag, psduLen := n.psduLen, state := 0, released := 0, engine := 0xFF,
      inAddr := 0x100000000 + a % 0x3000000, outAddr := 0x100000000 + b % 0x3000000, flow := n.flow, nonce := n.nonce,
      descAddr := 0x100000000 + d % 0xC0000 * 64, use := n.use, ops := jobOps n.op n.hdr.length n.text.length n.psduLen, done := 0,
      ver := (s.keyNote n.slot).ver, kind := (held.map (fun k => k.kind)).getD 0, key := (held.map (fun k => k.key)).getD [],
      startedAt := 0, atInput := false }
  let s3 := (s3.onCph (fun c => { c with nextJob := (c.nextJob + 1) % 2 ^ 32 })).bufWrite j.inAddr (n.hdr ++ n.text ++ n.tag)
  let end_ := fun (st : Nat) =>
    let (j1, s4) := s3.jobEnds j st
    ([j1], s4)
  let waiting := (s.cph.jobs.filter (fun y => y.cls != 0 && y.state < 2)).length
  if n.psduLen < n.hdr.length + n.text.length + jobTag n.op n.level ∨ n.hdr.isEmpty then end_ 9
  else if n.cls ≠ 0 ∧ 4096 ≤ waiting then end_ 11
  else if hit ∧ !kindOk n.op n.level j.kind then end_ 8
  else
    let wait : Bool := n.cls == 0 && !s3.c0Room n.hitch
    let s4 := if wait then s3.bump O.C0_INPUT_WAIT else s3
    let j1 := { j with state := if hit then 0 else 1, atInput := wait }
    let s5 := (s4.onCph (fun c => { c with jobs := c.jobs ++ [j1] })).showJob j1
    ([], (if hit then s5 else s5.fetchKey n.slot).cphGo)

/-! ## Fetches (R303) -/

/-- Jobs end in a state. -/
def State.endJobs (s : State) (l : List Job) (st : Nat) : List Job × State :=
  l.foldl (fun (a : List Job × State) j =>
    let (j1, s1) := a.2.jobEnds j st
    (a.1 ++ [j1], s1)) ([], s)

/-- The jobs that wait for what a fetch brings. -/
def State.waitFor (s : State) (f : KeyFetch) : List Job :=
  s.cph.jobs.filter (fun j => j.state == 1 && j.slot == f.slot && j.ver == f.ver)

/-- A check of a record failed: its slot is CORRUPT unless another record has been written since. -/
def State.unwrapFails (s : State) (f : KeyFetch) : State :=
  let s1 := s.bump O.UNWRAP_FAIL
  if f.ver = (s.keyNote f.slot).ver then s1.onCph (fun c => { c with notes := put c.notes f.slot { corrupt := true, ver := f.ver } }) else s1

/-- The oldest fetch of a slot ends, not while its rank's window is open (R424): the key in the cache and its jobs queued, or the jobs ended KEY_UNAVAILABLE or KEY_KIND; `o` what the
memory and the lanyard did. -/
def State.fetchDone (s : State) (slot : Nat) (o : FetchEnd) : List Job × State :=
  match s.cph.fetches.find? (fun f => f.slot == slot) with
  | none => ([], s)
  | some f =>
    let drop := fun (s : State) => s.onCph (fun c => { c with fetches := c.fetches.filter (· != f) })
    let fail := fun (s : State) => (drop s).endJobs (s.waitFor f) 7
    let stale : Bool := (s.keyNote slot).corrupt && f.ver == (s.keyNote slot).ver
    if s.chServes 0 ∧ s.rankHeld 0 (s.memOf (s.storeBase + 64 * slot)).2 then ([], s)
    else if !s.chServes 0 then fail (s.bump O.FETCH_SHED)
    else if rcKind f.rec_ = 0 ∨ stale then fail s
    else match (if s.recordPoisoned slot then .checkFails else o), s.unsealRecord slot f.rec_ with
    | .lanyardFails, some _ => fail (s.bump O.LANYARD_ERRORS)
    | .sound, some key =>
      match s.cachePut { slot := slot, ver := f.ver, kind := rcKind f.rec_, key := key, used := s.now } with
      | none => ([], s)
      | some s1 =>
        let s2 := (drop (s1.bump O.FETCHES)).onCph (fun c => { c with pinWait := c.pinWait.filter (· != slot) })
        let fits := fun (j : Job) => kindOk j.op j.level (rcKind f.rec_)
        let (ended, s3) := s2.endJobs ((s2.waitFor f).filter (fun j => !fits j)) 8
        let s4 := (s3.waitFor f).foldl (fun s j => s.setJob { j with state := 0, kind := rcKind f.rec_, key := key }) s3
        (ended, s4.cacheTrim.cphGo)
    | _, _ => fail (s.unwrapFails f)

/-! ## Suspension, restart, end (R298 to R300, R316, R317) -/

/-- The job on an engine is suspended at a block boundary, its record in the context store. -/
def State.engineSuspend (s : State) (n : Nat) : State :=
  match s.jobOn n with
  | some j =>
    let d := j.doneBy s.now
    ((s.setJob { j with state := 3, done := d }).bump64 O.BLOCK_OPS (d - j.done)).setEngine n 1
  | none => s

/-- A C0 job takes its engine over at the block boundary. -/
def State.preemptNow (s : State) (n : Nat) : State :=
  match s.cph.preempt.find? (fun x => x.1 == n) with
  | none => s
  | some (_, id) =>
    match s.cph.jobs.find? (fun j => j.id == id) with
    | none => s.onCph (fun c => { c with preempt := c.preempt.filter (fun x => x.1 != n) })
    | some j =>
      if s.engine n = 1 then s.startJob j n
      else match s.jobOn n with
        | some x => if x.cls = 0 then s else (((s.engineSuspend n).bump O.PREEMPTIONS).startJob j n).cphGo
        | none => s

/-- A C1 to C3 job still on an engine at a TEST RUN tick is suspended and resumes on another engine (R147), as far as the context store has
room; `engineLost` restarts it otherwise. -/
def State.engineYield (s : State) (n : Nat) : State :=
  match s.jobOn n with
  | some j => if j.cls != 0 && decide ((s.cph.jobs.filter (fun x => x.state == 3)).length < 32) then s.engineSuspend n else s
  | none => s

/-- An engine is shed, retired or isolated while it runs a job: the job restarts from its first block operation (R300). -/
def State.engineLost (s : State) (n st : Nat) : State :=
  let s1 := s.setEngine n st
  let s2 := s1.onCph (fun c => { c with preempt := c.preempt.filter (fun x => x.1 != n) })
  match s.jobOn n with
  | some j =>
    (((s2.setJob { j with state := 0, done := 0, restarted := true }).bump O.CPH_RESTARTS).raiseEv O.CIPHER_EVENTS 2).cphGo
  | none => s2.cphGo

/-- A counter operation of an early-release job ends: a block of plaintext is written and released (R316). -/
def State.bitternRelease (s : State) (n : Nat) : State :=
  match s.jobOn n with
  | some j => if j.early ∧ j.released < j.textLen then
      (s.bufWrite (j.outAddr + j.released) ((j.result.1.drop j.released).take 16)).setJob { j with
        state := 4, released := min j.textLen (j.released + 16) }
    else s
  | none => s

/-- The job on an engine has run its count: its verdict, with the engine idle again. -/
def State.jobDone (s : State) (n : Nat) : Option Job × State :=
  match s.jobOn n with
  | some j =>
    if s.now < j.startedAt + (j.ops - j.done) * j.opTk then (none, s)
    else
      let s1 := (s.bump64 O.BLOCK_OPS (j.ops - j.done)).setEngine n 1
      let st := if j.result.2 then 5 else 6
      let s1 := if st = 5 then s1.bufWrite j.outAddr j.output else s1
      let (j1, s2) := s1.jobEnds { j with released := if j.early ∧ st = 5 then j.textLen else j.released } st
      let s3 := match s2.cph.preempt.find? (fun x => x.1 == n) with
        | some _ => s2.preemptNow n
        | none => s2
      (some j1, s3.cphGo)
  | none => (none, s)

/-- Poison ranges of failed jobs whose buffers no item holds any more are free again (R317). -/
def State.poisonSweep (s : State) : State :=
  let held := fun (id : Nat) =>
    s.cph.jobs.any (fun j => j.id == id) || s.cores.serving.any (fun x => x.item.taints.contains id) ||
    s.cores.queued.any (fun i => i.taints.contains id) || s.cores.kept.any (fun b => b.2.contains id)
  s.onCph (fun c => { c with poisoned := c.poisoned.filter held, zeroed := c.zeroed.filter (fun z => held z.1) })

/-- A job that has not started is cancelled (R270). -/
def State.jobCancel (s : State) (p : JobUse → Bool) : State :=
  (s.cph.jobs.filter (fun j => j.state < 2 && p j.use)).foldl (fun s j => (s.jobEnds j 10).2) s

/-! ## Imports, deletion, queries (R308, R312 to R314) -/

/-- A slot's record written: jobs keep the key they have, the cache takes the new one for a pinned slot (R308). -/
def State.writeSlot (s : State) (n r : Nat) (corrupt : Bool) : State :=
  let note := s.keyNote n
  let s1 := ((s.putRecord n r).onCph (fun c => { c with notes := put c.notes n { corrupt := corrupt, ver := note.ver + 1 } })).cacheTrim
  if rcKind r != 0 && s.cph.pinned.contains n then
    (if (s.keySlot n).kind = 0 then (s1.journal s1.lay.asn 0x13 6 0 noId noId noId n 5 0).onCph (fun c => { c with
      pinWait := c.pinWait ++ [n] }) else s1).fetchKey n
  else s1

/-- The key-encryption key of a batch with an ephemeral public key (R312); none where that is not on the curve. -/
def importKek (point : List Byte) : Option (List Byte) :=
  let x := beField point 0 32
  let y := beField point 32 32
  if onP256 x y then
    some (hkdf32 (octets Config.serialNumber 8) (beOctets (ecX (ecMul Config.importPrivate (x, y, 1) 256)) 32) importInfo)
  else none

/-- The next entry of the import in progress (R313): its result octet and, at the last, DONE. -/
def State.importNext (s : State) : State :=
  match s.cph.importLeft with
  | [] => s
  | e :: rest =>
    let x := ((importKek s.cph.importPoint).bind (fun k => keyUnwrap k e)).getD []
    let key := x.take 32
    let head := ofOctets ((x.drop 32).take 4)
    let slot := bits head 0 20
    let kind := bits head 20 4
    let seq := ofOctets (x.drop 36)
    let bad128 : Bool := (kind == 1 || kind == 2) && (key.drop 16).any (· != 0)
    let code := if x.isEmpty then 1
      else if !s.chServes 0 ∨ (s.rootKey s.rootGen).isNone then 4
      else if seq ≤ (s.keySlot slot).seq then 2
      else if kind = 0 ∨ 3 < kind ∨ bad128 then 3 else 0
    let n := s.len O.IMPORT_RESULTS
    let s1 := s.wrLen O.IMPORT_RESULTS (n + 1) (setOctet (s.rd O.IMPORT_RESULTS) n code)
    let s2 := match (if code = 0 then s.rootKey s.rootGen else none) with
      | some root => (s1.bump O.IMPORTED).writeSlot slot (sealRecord root s.rootGen slot kind seq key) false
      | none => (s1.bump O.IMPORT_REFUSED).raiseEv O.IMPORT_STATUS 1
    let s3 := s2.onCph (fun c => { c with importLeft := rest })
    if rest.isEmpty then (s3.setSt O.IMPORT_STATUS 12 4 2).raiseEv O.IMPORT_STATUS 0 else s3

/-- An import begins, of `len` octets (R312): its results empty, STATE BUSY; an empty one is DONE at once. -/
def State.importStart (s : State) (len v : Nat) : State :=
  let es := (List.range ((len - 64) / 48)).map (fun n => octets (bits v (512 + 384 * n) 384) 48)
  let s1 := (s.wrLen O.IMPORT_RESULTS 0 0).onCph (fun c => { c with importLeft := es, importPoint := octets v 64 })
  if es.isEmpty then (s1.setSt O.IMPORT_STATUS 12 4 2).raiseEv O.IMPORT_STATUS 0 else s1.setSt O.IMPORT_STATUS 12 4 1

/-- A write of KEY_DELETE (R314): the record's KIND is EMPTY, the rest of it, SEQ among it, stays (R308). -/
def State.opKeyDelete (s : State) (n : Nat) : State :=
  (s.bump O.DELETED).writeSlot n (setBits (s.record n) 20 4 0) (s.keyNote n).corrupt

/-- A write of SLOT_QUERY: SLOT_INFO of the requester. -/
def State.opSlotQuery (s : State) (r : Req) (n : Nat) : State :=
  let x := s.keySlot n
  let copies := s.cph.cache.filter (fun k => k.slot == n)
  let b := fun (c : Bool) (i : Nat) => if c then 2 ^ i else 0
  let flags := b (s.cached n) 0 + b (s.cph.pinned.contains n) 1 + b (copies.any s.keyInUse) 2 +
    b (copies.any (fun k => k.ver != x.ver)) 3
  let st := if x.corrupt then 2 else if x.kind = 0 then 0 else 1
  s.wrReq r O.SLOT_INFO (st + x.kind * 2 ^ 8 + x.gen * 2 ^ 16 + flags * 2 ^ 24 + x.seq * 2 ^ 32)

/-! ## Derived objects -/

/-- JOBS_WAITING: queued jobs of C0 to C3. -/
def State.jobsWaiting (s : State) : Nat :=
  (List.range 4).foldl (fun v c => v + 2 ^ (32 * c) * (s.cph.jobs.filter (fun j => j.cls == c && j.state < 2)).length) 0

/-- CACHE_PINNED: pinned keys in the cache. -/
def State.cachePinned (s : State) : Nat := (s.cph.cache.filter (fun k => s.cph.pinned.contains k.slot && k.ver == (s.keyNote k.slot).ver)).length

/-- Every key and context is gone: the cache and what depended on it (R306, R311). Jobs that had not begun wait for their slot's key as it is
now, which is the only one left; suspended ones, whose records go with the context store, start over (R300). -/
def State.cacheLost (s : State) : State :=
  (s.cph.jobs.filter (fun j => j.state ≤ 1 || j.state == 3)).foldl (fun s j =>
    let s1 := s.setJob { j with
      state := 1, ver := (s.keyNote j.slot).ver, key := [], done := 0, restarted := j.restarted || j.state == 3 }
    if j.state = 3 then (s1.bump O.CPH_RESTARTS).raiseEv O.CIPHER_EVENTS 2 else s1)
    (s.onCph (fun c => { c with cache := [] }))

/-- CIPHER is ON again: pinned keys are fetched first, then those that jobs wait for (R306). -/
def State.cipherBack (s : State) : State :=
  let s1 := (List.range 32).foldl (fun s n => if s.engine n = 0 ∧ s.idPowered (0x400 + n) then
      s.setEngine n (if s.barred (0x400 + n) then 4 else 1) else s) s
  let s2 := s1.setPins s1.cph.pinned
  ((s2.cph.jobs.filter (fun j => j.state == 1)).foldl (fun s j => s.fetchKey j.slot) s2).cphGo

/-- Engines whose power is gone stop; those of a shed domain lose the cache too (R300, R306). -/
def State.cipherDown (s : State) (ns : List Nat) (cache : Bool) : State :=
  let s1 := ns.foldl (fun s n => if s.engine n = 0 then s else s.engineLost n 0) s
  if cache then (s1.cacheLost).onCph (fun c => { c with reserve := [], fetches := [] }) else s1

end Sys2Proof.Machine
end

