-- ==== Sys2Proof/Machine/RxOps.lean ====
section
/-!
DEFINITION. The receive path (06): channel streams (R203 to R205), profiles (R210), lane windows and their states (Table 6.8), the
hand-over of detections with second frames and false preambles (R206 to R209, §5), PHR checks (Table 6.9), quality records (Table 6.12).
-/
namespace Sys2Proof.Machine

/-- The state with its receive path changed. -/
def State.onRx (s : State) (f : Rx → Rx) : State := { s with rx := f s.rx }

/-! ## Streams and profiles -/

/-- A stream table entry (Table 6.2). -/
def State.streamEntry (s : State) (n : Nat) : Nat := bits (s.rd O.STREAM_TABLE) (64 * n) 64

/-- WIDTH of a stream table entry. -/
def strWidth (e : Nat) : Nat := bits e 32 3

/-- ENABLE of a stream table entry. -/
def strEnable (e : Nat) : Bool := bitAt e 35

/-- DEFAULT_PROFILE of a stream table entry. -/
def strProfile (e : Nat) : Nat := bits e 36 6

/-- A profile (Table 6.5). -/
def State.profile (s : State) (p : Nat) : Nat := bits (s.rd O.PROFILES) (128 * p) 128

/-- MODE: 0 FSK2, 1 FSK4, 2 OFDM, 3 PLY, 15 UNUSED. -/
def prMode (p : Nat) : Nat := bits p 0 4
/-- RATE_OPT. -/
def prRate (p : Nat) : Nat := bits p 4 4
/-- MAX_PSDU. -/
def prMax (p : Nat) : Nat := bits p 19 11
/-- PREAMBLE_OCTETS. -/
def prPreamble (p : Nat) : Nat := bits p 30 10
/-- DETECT_SYMBOLS. -/
def prSymbols (p : Nat) : Nat := bits p 40 6
/-- DETECT_THRESH. -/
def prThresh (p : Nat) : Nat := bits p 46 10
/-- REQ_SNR_QDB. -/
def prSnr (p : Nat) : Nat := bits p 56 8
/-- DIVERSITY. -/
def prDiversity (p : Nat) : Bool := bitAt p 72

/-- An FSK mode. -/
def prFsk (p : Nat) : Bool := decide (prMode p ≤ 1)

/-- Bits per symbol of an FSK mode. -/
def prBps (p : Nat) : Nat := prMode p + 1

/-- The rate of an FSK mode in kb/s (Table 6.5). -/
def fskRate (p : Nat) : Nat := match prRate p with
  | 0 => 50
  | 1 => 100
  | 2 => 150
  | 3 => 200
  | _ => 300

/-- `n` FSK symbols in ticks, rounded up. -/
def fskTk (p n : Nat) : Nat := ceilDiv (n * 200000 * prBps p) (fskRate p)

/-- Octets of an FSK mode's SFD (R213): 16 symbols, so 2 for 2-FSK and 4 for 4-FSK. -/
def sfdOctets (p : Nat) : Nat := 2 * prBps p

/-- The narrowest width a SUN profile needs (Table 6.1); 4 for PLY. -/
def prWidth (p : Nat) : Nat :=
  match prMode p with
  | 0 => if prRate p = 0 then 0 else if prRate p ≤ 2 then 1 else 2
  | 1 => if prRate p = 1 then 0 else 1
  | 2 => if prRate p = 1 then 3 else if prRate p = 2 then 2 else if prRate p = 3 then 1 else 0
  | _ => 4

/-- A profile does not fit a stream's width: wider, a ply mode on another width, or a ply width with another mode (Table 6.3, 0x43). -/
def widthMisfit (p w : Nat) : Bool :=
  if prMode p = 3 then decide (w < 4) else decide (4 ≤ w) || (prMode p != 15 && decide (w < prWidth p))

/-- A profile does not fit a LANE CELL on a stream of a width: UNUSED, PLY, or wider than the stream (R224). -/
def cellMisfit (p w : Nat) : Bool := prMode p == 15 || prMode p == 3 || decide (w < prWidth p)

/-- The SFD deadline of a reception that began at a tick (R221); SUN OFDM and ply symbols of 24,000 tk and 14,400 tk. -/
def sfdDeadline (p start : Nat) : Nat :=
  if prFsk p then start + fskTk p (8 * prPreamble p / prBps p + 8 * sfdOctets p / prBps p + 16)
  else if prMode p = 2 then start + 8 * 24000
  else start + 3 * 14400

/-- A stream is valid (`5001.05`). -/
def State.streamValid (s : State) (n : Nat) : Bool := s.flag O.STREAM_VALID n && strEnable (s.streamEntry n)

/-- The streams of a transceiver (R201). -/
def streamsOf (x : Nat) : List Nat := match x with
  | 0 => List.range 64
  | 1 => upFrom 64 192
  | _ => upFrom 256 256

/-! ## Lanes -/

/-- Front-end state of a lane: 0 OFF, 1 FREE, 2 ARMED, 3 SEARCH, 4 STANDBY, 5 ACQUIRE, 6 HEADER, 7 PAYLOAD, 8 TEST, 9 RETIRED. -/
def State.laneState (s : State) (n : Nat) : Nat := s.oct O.LANE_STATE n

/-- A lane's state set. -/
def State.setLane (s : State) (n st : Nat) : State := s.wrOct O.LANE_STATE n st

/-- The open window of a lane. -/
def State.lane (s : State) (n : Nat) : Option LaneRun := look s.rx.lanes n

/-- A lane's window replaced. -/
def State.setRun (s : State) (n : Nat) (x : LaneRun) : State := s.onRx (fun r => { r with lanes := put r.lanes n x })

/-- The state a lane returns to when a reception ends (R215); `paid` where it had reached PAYLOAD. -/
def returnState (r : LaneRole) (paid : Bool) : Nat := match r with
  | .cell true => 2
  | .cell false => 3
  | .gang _ _ => 2
  | .contention => if paid then 1 else 2
  | .capture => 4
  | .spare => 4

/-- A lane's reception is over: the front end returns. -/
def State.endRx (s : State) (n : Nat) (x : LaneRun) : State :=
  if x.stays then (s.onRx (fun r => { r with lanes := del r.lanes n })).setLane n 1
  else (s.setRun n { x with rx := none }).setLane n (returnState x.role (s.laneState n == 7))

/-- Why a reception is abandoned (R222). -/
inductive RxLoss where
  | window | swap | stream | shed
deriving DecidableEq, Repr

/-- An abandoned reception counted. -/
def State.countLoss (s : State) : RxLoss → State
  | .window => (s.bump O.LANE_WINDOW_CUT).raiseEv O.LANE_EVENTS 3
  | .swap => s.bump O.SWAP_ABANDONED
  | .stream => (s.bump O.LANE_STREAM_INVALID).raiseEv O.LANE_EVENTS 6
  | .shed => s.bump O.LANE_SHED

/-- A failed ply burst counted (Table 6.18). -/
def State.plyFail (s : State) (counter : Nat) : State := (s.bump counter).raiseEv O.LANE_EVENTS 5

/-- A gang's member lost its stream: with it the last of the burst is lost, where no other member receives on (Table 6.18). -/
def State.gangLoss (s : State) (x : LaneRun) (why : RxLoss) : State :=
  match x.role with
  | .gang _ g =>
    let on := s.rx.lanes.any (fun e => e.2.rx.isSome && (match e.2.role with
      | .gang _ h => g == h
      | _ => false))
    if why = .stream ∧ !on then s.plyFail O.SEGMENT_LOST else s
  | _ => s

/-- A reception in progress on a lane is abandoned (R222). -/
def State.abandonRx (s : State) (n : Nat) (why : RxLoss) : State :=
  match s.lane n with
  | some x => if x.rx.isSome then ((s.countLoss why).endRx n x).gangLoss x why else s
  | none => s

/-- A lane's window closes: a reception in it is abandoned, the lane FREE unless it is off, in test or retired (Table 6.8). -/
def State.closeLane (s : State) (n : Nat) (why : RxLoss) : State :=
  let s1 := (s.abandonRx n why).onRx (fun r => { r with lanes := del r.lanes n })
  if 2 ≤ s1.laneState n ∧ s1.laneState n ≤ 7 then s1.setLane n 1 else s1

/-- A window opens on a lane that is free or whose last window gives way to it. -/
def State.openLane (s : State) (n st : Nat) (x : LaneRun) : State :=
  let s1 := s.closeLane n .window
  if s1.laneState n = 1 then (s1.setRun n x).setLane n st else s1

/-- A lane leaves service: its domain is off, it is retired or isolated for a test. -/
def State.laneOut (s : State) (n st : Nat) (why : RxLoss) : State := (s.closeLane n why).setLane n st

/-! ## Streams become valid and invalid (R205) -/

/-- Every lane on a stream of the list abandons its reception. -/
def State.abandonStreams (s : State) (l : List Nat) : State :=
  (s.rx.lanes.filter (fun e => match e.2.rx with
    | some r => l.contains r.stream
    | none => false)).foldl (fun s e => s.abandonRx e.1 .stream) s

/-- Streams flagged invalid. -/
def State.streamsOff (s : State) (l : List Nat) : State :=
  ((s.wr O.STREAM_VALID (l.foldl clearBit (s.rd O.STREAM_VALID))).abandonStreams l).onRx (fun r => { r with
    ghosts := r.ghosts.filter (fun g => !l.contains g.stream) })

/-- The enabled streams of a list valid, but for those of a band whose rake is off or under test (R205). -/
def State.streamsOn (s : State) (l : List Nat) : State :=
  s.wr O.STREAM_VALID ((l.filter (fun n => strEnable (s.streamEntry n) && s.partUp 5 (streamBand n) &&
    !s.underTest (0x450 + streamBand n))).foldl setBit (s.rd O.STREAM_VALID))

/-! ## Metric and SNR (R207, R228, R229)

The rake's estimate S is 10·log10(M / (1,024 − M)), at most 30.1 dB. A lane's estimate is in 0.25 dB. -/

/-- The preamble metric M (R207); silence has none. -/
def rakeMetric (c : Correlation) : Nat := min 1023 (1024 * c.power / (c.received * c.reference))

/-- S(m) is at least a level in 0.25 dB: an inequality between fortieth powers. -/
def snrAbove (m : Nat) (level : Int) : Bool :=
  decide (10 ^ level.toNat * (1024 - m) ^ 40 ≤ m ^ 40 * 10 ^ (-level).toNat)

/-- The largest number of `n` bits whose fortieth power times `d` does not pass `v`. -/
def root40 (v d : Nat) : Nat → Nat → Nat
  | 0, y => y
  | n + 1, y => root40 v d n (if (y + 2 ^ n) ^ 40 * d ≤ v then y + 2 ^ n else y)

/-- The ratio of a level in 0.25 dB, in units of 2⁻⁶⁴, rounded down. -/
def levelRatio (q : Int) : Nat := root40 (10 ^ q.toNat * 2 ^ 2560) (10 ^ (-q).toNat) (66 + q.toNat / 12) 0

/-- The expected success of a new frame is above that of the frame in progress (R229): s·(1 + s) of the new frame, s = m / (1,024 − m), times
the ratio of the required SNRs, against s·(1 + s) of the frame in progress. -/
def newSucceeds (m req : Nat) (snr0 : Int) (req0 : Nat) : Bool :=
  let y := levelRatio snr0
  decide (y * (2 ^ 64 + y) * (1024 - m) ^ 2 < 1024 * m * levelRatio ((req0 : Int) - (req : Int)) * 2 ^ 64)

/-! ## Detections (R206 to R209, §5) -/

/-- A detection (R207): stream, profile, metric, frequency step of 500 Hz, and the first symbol of its window. -/
structure Detection where
  stream : Nat
  prof : Nat
  metric : Nat
  step : Int
  start : Nat
deriving DecidableEq, Repr

/-- The receptions on a stream that the rake gave out. -/
def State.rxOn (s : State) (stream : Nat) : List (Nat × LaneRun × Reception) :=
  s.rx.lanes.filterMap (fun e => e.2.rx.bind (fun r => if r.stream = stream ∧ !r.own then some (e.1, e.2, r) else none))

/-- The reception the rake tracks on a stream: the one with the highest metric. -/
def State.tracked (s : State) (stream : Nat) : Option (Nat × LaneRun × Reception) :=
  (s.rxOn stream).foldl (fun (b : Option (Nat × LaneRun × Reception)) x => match b with
    | none => some x
    | some y => if y.2.2.metric < x.2.2.metric then some x else some y) none

/-- Lanes with an open window of a role on a stream, in the order of their resource IDs. -/
def State.lanesOn (s : State) (stream : Nat) (p : LaneRun → Bool) : List Nat :=
  (s.rx.lanes.filter (fun e => e.2.stream == stream && p e.2)).map (fun e => e.1)

/-- A lane's window is an armed cell. -/
def LaneRun.armed (x : LaneRun) : Bool := x.role == .cell true

/-- A lane's window is a gang's. -/
def LaneRun.gang (x : LaneRun) : Option Nat := match x.role with
  | .gang _ g => some g
  | _ => none

/-- The profile the rake searches a stream with (R206): the open armed cell of the lowest ID, else the stream's own. -/
def State.searchProfile (s : State) (stream : Nat) : Nat :=
  match s.lanesOn stream LaneRun.armed with
  | n :: _ => match s.lane n with
    | some x => x.profile
    | none => 0
  | [] => strProfile (s.streamEntry stream)

/-- A reception begins on a lane: ACQUIRE, from the first symbol of the window and the rake's coarse frequency (Table 6.8, R216, R217). -/
def State.startRx (s : State) (n : Nat) (d : Detection) (captured preempted own : Bool) : State :=
  match s.lane n with
  | none => s
  | some x =>
    let p := s.profile d.prof
    let r : Reception :=
      { stream := d.stream, metric := d.metric, profNo := d.prof, prof := p, start := d.start, deadline := sfdDeadline p d.start,
        gain := (lookD s.radio.trxs (streamBand d.stream) Trx.reset).gainStep, sfdAt := 0, freqErr := 500 * d.step, snr := 0, header := none,
        captured := captured, preempted := preempted, diversity := false, own := own }
    (s.setRun n { x with rx := some r }).setLane n 5

/-- A counter of RAKE_STREAM_COUNTS: 0 DETECTIONS, 1 UNSERVED, 2 OVERLAPS. -/
def State.rakeCount (s : State) (stream k : Nat) : State := s.bumpAt O.RAKE_STREAM_COUNTS (3 * stream + k)

/-- A reported frame that no lane takes is tracked up to its SFD deadline (R208). DESIGN CHOICE, notes/assumptions/22.md: the rake does not see such a frame end. -/
def State.ghost (s : State) (d : Detection) : State :=
  s.onRx (fun r => { r with
    ghosts := r.ghosts ++ [{ stream := d.stream, metric := d.metric, until_ := sfdDeadline (s.profile d.prof) d.start }] })

/-- A detection that second frames hide is ignored. -/
def State.overlapIgnored (s : State) (d : Detection) : State := ((s.bump O.RAKE_OVERLAP_IGNORED).rakeCount d.stream 2).ghost d

/-- The streams of the open cells tagged with a hitch. -/
def State.hitchStreams (s : State) (h : Nat) : List Nat :=
  (s.rx.lanes.filter (fun e => e.2.hitch == some h && (match e.2.role with
    | .cell _ => true
    | .gang _ _ => true
    | _ => false))).map (fun e => e.2.stream)

/-- A bight's lane stands in a state for a frame, and placement does not bar it (R147, R157). -/
def State.laneFor (s : State) (n st : Nat) : Bool := s.laneState n == st && !s.memberBarred (0x100 + n)

/-- The hitch of the cell a lane's window belongs to. -/
def LaneRun.cellHitch (x : LaneRun) : Option Nat := match x.role with
  | .cell _ => x.hitch
  | .gang _ _ => x.hitch
  | _ => none

/-- A free lane for a second frame on a stream, `hitch` that of the first lane's cell, in the order of R227: a CAPTURE lane tagged with it;
another free CAPTURE lane, one whose hitch has an open cell on the stream first, and one tagged with a hitch whose open cells stand on other
streams never (R229); a SPARE lane, never where a hitch's cell is open on the stream (R149). -/
def State.secondLane (s : State) (stream : Nat) (hitch : Option Nat) : Option Nat :=
  let free := fun (role : LaneRole) => s.rx.lanes.filter (fun e => e.2.role == role && s.laneFor e.1 4)
  let caps := free .capture
  let here := fun (e : Nat × LaneRun) => match e.2.hitch with
    | some h => (s.hitchStreams h).contains stream
    | none => false
  let any_ := fun (e : Nat × LaneRun) => match e.2.hitch with
    | some h => (s.hitchStreams h).isEmpty
    | none => true
  let own := caps.find? (fun e => hitch.isSome && e.2.hitch == hitch)
  let guarded := s.rx.lanes.any (fun e => e.2.stream == stream && e.2.cellHitch.isSome)
  let spare := if guarded || !s.triggerOn 2 then none else (free .spare).head?
  (((own.orElse (fun _ => caps.find? here)).orElse (fun _ => caps.find? any_)).orElse (fun _ => spare)).map (fun e => e.1)

/-- A lane taken from SPARE serves a detection. -/
def State.spareServed (s : State) (n : Nat) : State := match s.lane n with
  | some x => if x.role = .spare then s.bump O.SPARE_SERVED else s
  | none => s

/-- The lane of a reception restarts on a new frame: the first was false (R226). -/
def State.falsePreempt (s : State) (n : Nat) (d : Detection) : State :=
  ((s.bump O.LANE_FALSE_PREEMPTED).raiseEv O.LANE_EVENTS 2).startRx n d false true false

/-- A capture candidate finds no free lane: the frame of the higher expected success keeps the lane, the other is lost (R229). -/
def State.captureContest (s : State) (n : Nat) (x : LaneRun) (r : Reception) (d : Detection) : State :=
  let s1 := match x.hitch with
    | some h => s.hitchLostRx h
    | none => s
  if newSucceeds d.metric (prSnr (s.profile d.prof)) r.snr (prSnr r.prof) then (s1.bump O.CAPTURE_OLD_LOST).startRx n d false false false
  else (s1.bump O.CAPTURE_NEW_LOST).ghost d

/-- A detection on a stream whose tracked reception is on lane `n` (Table 6.10). -/
def State.secondFrame (s : State) (n : Nat) (x : LaneRun) (r : Reception) (d : Detection) : State :=
  let st := s.laneState n
  let lane := s.secondLane d.stream x.cellHitch
  if x.gang.isSome then s.overlapIgnored d
  else if st = 5 then s.falsePreempt n d
  else if st = 6 then
    match lane with
    | some m => ((s.bump O.HEADER_TO_BIGHT).spareServed m).startRx m d false false false
    | none => s.falsePreempt n d
  else if !(s.flag O.CAPTURE_ENABLE) || !snrAbove d.metric (r.snr + ((s.rd O.CAPTURE_MARGIN_QDB : Nat) : Int)) then s.overlapIgnored d
  else
    match lane with
    | some m => (((s.bump O.CAPTURE_TAKEN).raiseEv O.LANE_EVENTS 1).spareServed m).startRx m d true false false
    | none => s.captureContest n x r d

/-- A detection on a member's stream starts every member of the gang whose stream is valid, each in its stream's profile (R244). -/
def State.gangDetection (s : State) (g : Nat) (d : Detection) : State :=
  let members := s.rx.lanes.filter (fun e => e.2.gang == some g)
  if members.any (fun e => e.2.rx.isSome) then s.overlapIgnored d
  else (members.filter (fun e => s.streamValid e.2.stream)).foldl (fun s e =>
    s.startRx e.1 { d with stream := e.2.stream, prof := strProfile (s.streamEntry e.2.stream) } false false false) s

/-- A reported detection handed to a lane, or unserved (R209). -/
def State.handDetection (s : State) (d : Detection) : State :=
  let s1 := (s.bump O.RAKE_DETECTIONS).rakeCount d.stream 0
  let ready := fun (p : LaneRun → Bool) => (s.lanesOn d.stream p).find? (fun n => s.laneState n == 2)
  match (s.rx.lanes.find? (fun e => e.2.stream == d.stream && e.2.gang.isSome)).bind (fun e => e.2.gang) with
  | some g => s1.gangDetection g d
  | none =>
    match ready (fun x => x.armed && x.profile == d.prof) with
    | some n => s1.startRx n d false false false
    | none =>
      match (s.lanesOn d.stream (fun x => x.role == .contention)).find? (fun n => s.laneFor n 2) with
      | some n => s1.startRx n d false false false
      | none =>
        match s.tracked d.stream with
        | some (n, x, r) => s1.secondFrame n x r d
        | none =>
          match (if s.triggerOn 2 then s.rx.lanes.find? (fun e => e.2.role == .spare && s.laneFor e.1 4) else none) with
          | some e => (s1.bump O.SPARE_SERVED).startRx e.1 d false false false
          | none => (((s1.bump O.RAKE_UNSERVED).rakeCount d.stream 1)).ghost d

/-- The frames tracked without a lane on a stream that have not ended. -/
def State.ghostsOn (s : State) (stream : Nat) : List Ghost := s.rx.ghosts.filter (fun g => g.stream == stream && decide (s.now < g.until_))

/-- The highest metric of the frames tracked on a stream (R208). -/
def State.trackedMetric (s : State) (stream : Nat) : Option Nat :=
  ((s.rxOn stream).map (fun x => x.2.2.metric) ++ (s.ghostsOn stream).map (fun g => g.metric)).max?

/-- A tracked frame's preamble yields a metric again: it rises (R208). -/
def State.trackRaise (s : State) (stream metric : Nat) : State :=
  let s1 := (s.rxOn stream).foldl (fun s (e : Nat × LaneRun × Reception) =>
    if s.laneState e.1 = 5 then s.setRun e.1 { e.2.1 with rx := some { e.2.2 with metric := max e.2.2.metric metric } } else s) s
  s1.onRx (fun r => { r with ghosts := r.ghosts.map (fun g => if g.stream = stream then { g with metric := max g.metric metric } else g) })

/-- The rake's best correlation on a stream (R207, R208): no detection below the threshold, out of the AFC range or on an invalid stream; a
tracked frame's metric rises, and only 64 above it is a new detection. -/
def State.rakeDetects (s : State) (stream : Nat) (c : Correlation) (start : Nat) : State :=
  let prof := s.searchProfile stream
  let p := s.profile prof
  let d : Detection := { stream := stream, prof := prof, metric := rakeMetric c, step := c.step, start := start }
  if !s.streamValid stream || prMode p == 15 || decide (d.metric < prThresh p) || decide (bits p 64 8 < c.step.natAbs) then s
  else
    let s0 := s.onRx (fun r => { r with ghosts := r.ghosts.filter (fun g => decide (s.now < g.until_)) })
    match s0.trackedMetric stream with
    | some m => if d.metric < m + 64 then s0.trackRaise stream d.metric else s0.handDetection d
    | none => s0.handDetection d

/-! ## SFD, PHR and the end of the frame -/

/-- The lanes of a gang that are in a reception, or the lane itself. -/
def State.gangOf (s : State) (n : Nat) : List (Nat × LaneRun × Reception) :=
  match s.lane n with
  | none => []
  | some x =>
    let l : List (Nat × LaneRun) := match x.gang with
      | some g => s.rx.lanes.filter (fun e => e.2.gang == some g)
      | none => [(n, x)]
    l.filterMap (fun e => e.2.rx.map (fun r => (e.1, e.2, r)))

/-- The SFD is found: AFC frozen within its range, SFD_TS and the SNR estimate taken, HEADER (R217, R218, R231). -/
def State.sfdFound (s : State) (n : Nat) (freqErr snr : Int) : State :=
  if s.laneState n ≠ 5 then s
  else (s.gangOf n).foldl (fun s (e : Nat × LaneRun × Reception) =>
    let lim : Int := ((bits e.2.2.prof 64 8 * 500 : Nat) : Int)
    let single : Bool := match look s.radio.trxs (streamBand e.2.2.stream) with
      | some x => x.rxSingle
      | none => false
    let r := { e.2.2 with sfdAt := s.now, freqErr := max (-lim) (min lim freqErr), snr := snr, diversity := prDiversity e.2.2.prof && !single }
    (s.setRun e.1 { e.2.1 with rx := some r }).setLane e.1 6) s

/-- The PHR's length check: the counter of the first check of Table 6.9 that fails. -/
def phrFails (p : Nat) : AirHeader → Option Nat
  | .fsk ms fcs32 _ _ len =>
    if ms then some O.LANE_MS_UNSUPPORTED else lens p fcs32 len
  | .ofdm hcsOk mcs fcs32 len =>
    if !hcsOk ∨ !mcsOk (prRate p) mcs then some O.LANE_PHR_FAIL
    else if mcs < bits p 13 3 ∨ bits p 16 3 < mcs then some O.LANE_PHR_FAIL
    else lens p fcs32 len
  | .ply _ => none
where
  /-- Checks 4 to 6. -/
  lens (p : Nat) (fcs32 : Bool) (len : Nat) : Option Nat :=
    if len = 0 then some O.LANE_LEN_ZERO
    else if len < (if fcs32 then 6 else 4) then some O.LANE_LEN_SHORT
    else if prMax p < len then some O.LANE_LEN_OVER
    else none
  /-- The MCS set of an OFDM option (Table 6.7). -/
  mcsOk (opt mcs : Nat) : Bool := match opt with
    | 1 => decide (mcs ≤ 3)
    | 2 => decide (mcs ≤ 6)
    | 3 => decide (1 ≤ mcs ∧ mcs ≤ 6)
    | _ => decide (2 ≤ mcs ∧ mcs ≤ 6)

/-- A failed PHR check: the frame is discarded and counted (R219). -/
def State.phrFailed (s : State) (n : Nat) (x : LaneRun) (counter : Nat) : State :=
  ((s.bump counter).raiseEv O.LANE_EVENTS 0).endRx n x

/-- The last air symbol: the frame goes to the back end, the front end returns (R223). -/
def State.frameEnds (s : State) (n : Nat) : State :=
  if s.laneState n ≠ 7 then s
  else
    let g := s.gangOf n
    let segs := g.foldl (fun v (e : Nat × LaneRun × Reception) => match e.2.1.role with
      | .gang seg _ => setBit v seg
      | _ => v) 0
    match g with
    | [] => s
    | (m, x, r) :: _ =>
      let lead := g.foldl (fun (b e : Nat × LaneRun × Reception) => match b.2.1.role, e.2.1.role with
        | .gang a _, .gang c _ => if c < a then e else b
        | _, _ => b) (m, x, r)
      let f : BackFrame :=
        { rx := lead.2.2, role := lead.2.1.role, cell := lead.2.1.cell, hitch := lead.2.1.hitch, endAt := s.now, slotAsn := s.lay.asn,
          slotAt := s.lay.slotAt, segments := segs }
      (g.foldl (fun s (e : Nat × LaneRun × Reception) => s.endRx e.1 e.2.1) s).onRx (fun y => { y with back := put y.back lead.1 f })

/-- The cell a window counts under: none for CAPTURE and SPARE lanes (Table 6.12). -/
def LaneRole.cellOf (r : LaneRole) (cell : Nat) : Option Nat := match r with
  | .capture => none
  | .spare => none
  | _ => some cell

/-- The cell a reception counts under. -/
def BackFrame.cellOf (f : BackFrame) : Option Nat := f.role.cellOf f.cell

/-- A frame of a cell of a slot is still in a back end. -/
def State.inBack (s : State) (cell asn : Nat) : Bool := s.rx.back.any (fun e => e.2.cellOf == some cell && e.2.slotAsn == asn)

/-- A lane's window of a cell is open. -/
def State.laneInCell (s : State) (cell : Nat) : Bool := s.rx.lanes.any (fun e => e.2.role.cellOf e.2.cell == some cell)

/-- The quality record (Table 6.12) as the number of its 32 octets; `sfd` and `end_` on the radio timestamp counter, GAIN the LNA step
of the window it came in. -/
def qualityRecord (lane sfd end_ : Nat) (f : BackFrame) (m : Measured) : Nat :=
  let fl := fun (b : Bool) (n : Nat) => if b then 2 ^ n else 0
  let bight : Bool := f.role == .contention || f.role == .capture
  let (fec, white, fcs32, mode) := match f.rx.header with
    | some (.fsk _ c e w _) => (e, w, c, 0)
    | some (.ofdm _ mcs c _) => (false, false, c, mcs)
    | some (.ply w) => (false, false, false, bits w 24 8 + bits w 16 8 * 256)
    | none => (false, false, false, 0)
  let ply : Bool := prMode f.rx.prof == 3
  let flags := fl f.rx.captured 0 + fl bight 1 + fl (f.role == .spare) 2 + fl f.rx.preempted 3 + fl f.rx.diversity 4 + fl fec 5 +
    fl white 6 + fl fcs32 7 + fl ply 8 + fl f.hitch.isSome 9
  sfd % 2 ^ 32 + end_ % 2 ^ 32 * 2 ^ 32 + ofInt 16 m.rssi * 2 ^ 64 + ofInt 8 m.rssi1 * 2 ^ 80 +
    (if f.rx.diversity then ofInt 8 m.rssi2 else 0x80) * 2 ^ 88 + ofInt 16 m.snr * 2 ^ 96 + ofInt 32 f.rx.freqErr * 2 ^ 112 +
    m.evm % 2 ^ 16 * 2 ^ 144 + lane * 2 ^ 160 + f.rx.stream * 2 ^ 176 + f.cellOf.getD 0xFFFF % 2 ^ 16 * 2 ^ 192 + f.rx.profNo * 2 ^ 208 +
    (f.rx.gain + 8 * f.rx.gain) * 2 ^ 216 + flags * 2 ^ 224 + mode * 2 ^ 240

/-- A delivered frame's record, kept in the ring where QUALITY_TAP selects its stream (R232). -/
def State.keepQuality (s : State) (stream rec : Nat) : State :=
  let tap := s.rd O.QUALITY_TAP
  if tap = 0xFFFF ∨ tap = stream then s.onRx (fun r => { r with quality := pushRing 64 r.quality rec }) else s

end Sys2Proof.Machine
end

