-- ==== Sys2Proof/Machine/SunPhy.lean ====
section
/-!
DEFINITION. The SUN PHY subset on transmission (R213, R214): SHR, PHR and whitening of an FSK frame, and the air time of a frame. The standard's
parameters, which the manual only names, are PRESUMED (notes/assumptions/22.md).
-/
namespace Sys2Proof.Machine

/-- The `n` low bits of a number, most significant first. -/
def bitsHigh (v n : Nat) : List Bool := (List.range n).map (fun k => bitAt v (n - 1 - k))

/-- A 4-FSK symbol of a bit of preamble or SFD. -/
def quadBits (l : List Bool) : List Bool := l.flatMap (fun b => [b, true])

/-- The bits of an FSK frame's SHR: preamble, then the SFD for a coded or an uncoded frame. -/
def fskShr (p : Nat) (coded : Bool) : List Bool :=
  let sfd := bitsHigh (if coded then 0x6F4E else 0x904E) 16
  if prBps p = 1 then (List.replicate (prPreamble p) (bitsHigh 0x55 8)).flatten ++ sfd
  else (List.replicate (prPreamble p) (bitsHigh 0x77 8)).flatten ++ quadBits sfd

/-- The bits of an FSK frame's PHR: MS, two reserved, FCS type (1 for 16 bits), whitening, and the length of the PSDU with its FCS. -/
def fskPhr (fcs32 whitened : Bool) (len : Nat) : List Bool := [false, false, false, !fcs32, whitened] ++ bitsHigh len 11

/-- `n` bits of PN9 from a state of ones. -/
def pn9 : Nat → Nat → List Bool
  | 0, _ => []
  | n + 1, st =>
    let b := bitAt st 8 != bitAt st 4
    b :: pn9 n (2 * st % 512 + (if b then 1 else 0))

/-- Whitened bits. -/
def whiten (l : List Bool) : List Bool := (l.zip (pn9 l.length 0x1FF)).map (fun x => x.1 != x.2)

/-- The bits of an uncoded FSK frame on the air; whether it is whitened its PHR says. -/
def fskFrame (p : Nat) (fcs32 whitened : Bool) (psdu : List Byte) : List Bool :=
  let data := octetBits psdu
  fskShr p false ++ fskPhr fcs32 whitened psdu.length ++ (if whitened then whiten data else data)

/-- Bits of a coded FSK frame after its SHR: PHR and PSDU with tail and padding, at rate 1/2. -/
def codedBits (len : Nat) : Nat := 2 * (8 * (2 + len) + 3 + (if len % 2 = 0 then 5 else 13))

/-- Bits of a SUN OFDM symbol of 24,000 tk by option and MCS, in halves. -/
def ofdmHalfBits (opt mcs : Nat) : Nat :=
  let k := [1, 2, 4, 8, 12, 16, 24].getD mcs 24
  k * (match opt with
    | 1 => 24
    | 2 => 12
    | 3 => 6
    | _ => 3)

/-- Ticks of the SHR of a profile: preamble and SFD, or six OFDM symbols. -/
def shrTk (p : Nat) : Nat := if prFsk p then fskTk p ((prPreamble p + sfdOctets p) * 8 / prBps p) else 6 * 24000

/-- Ticks of a frame of `len` PSDU octets, FCS included, from the first SHR sample to the end of its last symbol. -/
def airTk (p mcs : Nat) (coded : Bool) (len : Nat) : Nat :=
  if prFsk p then
    let after := if coded then codedBits len else (2 + len) * 8
    fskTk p (ceilDiv ((prPreamble p + sfdOctets p) * 8 + after) (prBps p))
  else
    let phr := if prRate p = 1 then 3 else 6
    (6 + phr + ceilDiv ((8 * len + 6) * 2) (ofdmHalfBits (prRate p) mcs)) * 24000

end Sys2Proof.Machine
end

