-- ==== Sys2Proof/Machine/Mac802.lean ====
section
/-!
DEFINITION. IEEE 802.15.4-2020 MAC frames as the air MAC reads and builds them (07, R247): headers, security headers, header IEs,
nonces, acknowledgements, wake-up frames and enhanced beacons. Layouts of the standard that the manual only
names are PRESUMED (notes/assumptions/38.md).
-/
namespace Sys2Proof.Machine

/-- Little-endian field of `n` octets at a position of a frame. -/
def leField (f : List Byte) (i n : Nat) : Nat := ofOctets ((f.drop i).take n)

/-- A MAC header. Addresses are a mode (0 none, 2 short, 3 extended) and the address as a number (an extended one with its first octet
most significant). `bad` where the header runs past the frame. -/
structure Mhr where
  ftype : Nat
  ver : Nat
  sec : Bool
  ack : Bool
  dsn : Option Nat
  dpan : Option Nat
  dmode : Nat
  daddr : Nat
  spanid : Option Nat
  smode : Nat
  saddr : Nat
  level : Nat
  keyMode : Nat
  keyIndex : Nat
  fc : Option Nat
  asnNonce : Bool
  ies : List (Nat × List Byte)
  payIes : Bool
  len : Nat
  bad : Bool
deriving DecidableEq, Repr

/-- Octets of an address mode. -/
def addrLen (m : Nat) : Nat := if m = 2 then 2 else if m = 3 then 8 else 0

/-- Which PAN IDs a frame carries: destination and source (Table 7-2 of the standard for version 2; the older rule before). -/
def panFields (ver : Nat) (comp : Bool) (dm sm : Nat) : Bool × Bool :=
  if ver < 2 then (dm != 0, sm != 0 && !(comp && dm != 0))
  else if dm = 0 ∧ sm = 0 then (comp, false)
  else if sm = 0 then (!comp, false)
  else if dm = 0 then (false, !comp)
  else if dm = 3 ∧ sm = 3 then (!comp, false)
  else (true, !comp)

/-- Header IEs from a position: identifiers and contents, whether payload IEs follow, and the position behind them. -/
def headerIes (f : List Byte) : Nat → Nat → List (Nat × List Byte) → List (Nat × List Byte) × Bool × Nat × Bool
  | 0, pos, acc => (acc, false, pos, true)
  | n + 1, pos, acc =>
    if f.length < pos + 2 then (acc, false, pos, f.length != pos)
    else
      let d := leField f pos 2
      let len := d % 128
      let id := bits d 7 8
      if id = 0x7F then (acc, false, pos + 2, false)
      else if id = 0x7E then (acc, true, pos + 2, false)
      else headerIes f n (pos + 2 + len) (acc ++ [(id, (f.drop (pos + 2)).take len)])

/-- The MAC header of a PSDU. -/
def parseMhr (f : List Byte) : Mhr :=
  let fcf := leField f 0 2
  let ver := bits fcf 12 2
  let dm := bits fcf 10 2
  let sm := bits fcf 14 2
  let supp : Bool := bitAt fcf 8 && ver == 2
  let p1 := if supp then 2 else 3
  let (hasD, hasS) := panFields ver (bitAt fcf 6) dm sm
  let p2 := p1 + (if hasD then 2 else 0)
  let p3 := p2 + addrLen dm
  let p4 := p3 + (if hasS then 2 else 0)
  let p5 := p4 + addrLen sm
  let sec := bitAt fcf 3
  let sc := if sec then leField f p5 1 else 0
  let noFc := bitAt sc 5
  let km := bits sc 3 2
  let p6 := if sec then p5 + 1 + (if noFc then 0 else 4) else p5
  let kl := if !sec then 0 else if km = 1 then 1 else if km = 2 then 5 else if km = 3 then 9 else 0
  let p7 := p6 + kl
  let (ies, pay, p8, bad) := if bitAt fcf 9 && ver == 2 then headerIes f 64 p7 [] else ([], false, p7, false)
  { ftype := bits fcf 0 3, ver := ver, sec := sec, ack := bitAt fcf 5, dsn := if supp then none else some (leField f 2 1),
    dpan := if hasD then some (leField f p1 2) else none, dmode := dm, daddr := leField f p2 (addrLen dm),
    spanid := if hasS then some (leField f p3 2) else none, smode := sm, saddr := leField f p4 (addrLen sm),
    level := sc % 8, keyMode := km, keyIndex := if km = 1 then leField f p6 1 else 0,
    fc := if sec && !noFc then some (leField f (p5 + 1) 4) else none, asnNonce := bitAt sc 6, ies := ies, payIes := pay, len := p8,
    bad := bad || decide (f.length < p8) }

/-- The payload behind payload IEs: group 0xF ends them. -/
def skipPayIes : Nat → List Byte → List Byte
  | 0, f => f
  | n + 1, f =>
    let d := leField f 0 2
    if f.length < 2 ∨ !bitAt d 15 then f
    else if bits d 11 4 = 0xF then f.drop 2
    else skipPayIes n (f.drop (2 + d % 2048))

/-- Content of a header IE. -/
def Mhr.ie (h : Mhr) (id : Nat) : Option (List Byte) := (h.ies.find? (fun e => e.1 == id)).map (fun e => e.2)

/-- An extended address as its eight octets in canonical order, from an object or entry that holds octet 0 first. -/
def euiNum (v : Nat) : Nat := beField (octets v 8) 0 8

/-- The nonce of CCM* (13 octets): source address, frame counter and level, or source address and ASN (TSCH). -/
def ccmNonce (eui fc asn level : Nat) (asnMode : Bool) : Nat :=
  ofOctets (beOctets eui 8 ++ (if asnMode then beOctets asn 5 else beOctets fc 4 ++ beOctets level 1))

/-! ## Frames sent -/

/-- The frame control field of a version-2 frame. -/
def fcf2 (ftype : Nat) (sec ack comp ies : Bool) (dm sm : Nat) : Nat :=
  let b := fun (c : Bool) (n : Nat) => if c then 2 ^ n else 0
  ftype + b sec 3 + b ack 5 + b comp 6 + b ies 9 + dm * 2 ^ 10 + 2 * 2 ^ 12 + sm * 2 ^ 14

/-- An auxiliary security header: level, key index (mode 1 where not zero), frame counter (none where the ASN is in the nonce). -/
def auxHeader (level keyIndex : Nat) (fc : Option Nat) : List Byte :=
  let km := if keyIndex = 0 then 0 else 1
  let sc := level + km * 8 + (match fc with
    | some _ => 0
    | none => 0x60)
  octets sc 1 ++ (match fc with
    | some c => octets c 4
    | none => []) ++ (if km = 1 then octets keyIndex 1 else [])

/-- The header of a data frame from Carand's short address: to a short or extended address, acknowledged unless it is broadcast. -/
def dataHeader (pan dsn dm daddr src level keyIndex : Nat) (fc : Option Nat) (ack : Bool) : List Byte :=
  octets (fcf2 1 (level != 0) ack true false dm 2) 2 ++ octets dsn 1 ++ octets pan 2 ++ octets daddr (addrLen dm) ++ octets src 2 ++
    (if level = 0 then [] else auxHeader level keyIndex fc)

/-- A header IE descriptor. -/
def ieDesc (id len : Nat) : List Byte := octets (len + id * 128) 2

/-- An Enh-Ack with its Time Correction IE (R254): `corr` in µs, negative corrections in 12 bits. -/
def enhAck (pan dsn dm daddr level keyIndex : Nat) (fc : Option Nat) (corr : Int) : List Byte :=
  octets (fcf2 2 (level != 0) false false true dm 0) 2 ++ octets dsn 1 ++ octets pan 2 ++ octets daddr (addrLen dm) ++
    (if level = 0 then [] else auxHeader level keyIndex fc) ++ ieDesc 0x1E 2 ++ octets (ofInt 12 corr) 2

/-- An Imm-Ack. -/
def immAck (ver dsn : Nat) : List Byte := octets (2 + ver * 2 ^ 12) 2 ++ octets dsn 1

/-- A wake-up frame (R274): a multipurpose frame with a long frame control, to a short address, with its Rendezvous Time. -/
def wakeFrame (pan dsn daddr rz : Nat) : List Byte :=
  octets (5 + 2 ^ 3 + 2 * 2 ^ 4 + 2 ^ 8 + 2 ^ 15) 2 ++ octets dsn 1 ++ octets pan 2 ++ octets daddr 2 ++ ieDesc 0x1D 2 ++ octets rz 2

/-- A payload IE. -/
def payIe (group : Nat) (c : List Byte) : List Byte := octets (c.length + group * 2 ^ 11 + 2 ^ 15) 2 ++ c

/-- A short nested IE. -/
def shortIe (id : Nat) (c : List Byte) : List Byte := octets (c.length + id * 2 ^ 8) 2 ++ c

/-- A long nested IE. -/
def longIe (id : Nat) (c : List Byte) : List Byte := octets (c.length + id * 2 ^ 11 + 2 ^ 15) 2 ++ c

/-- The enhanced beacon of a BEACON cell (R276). -/
def State.ebFrame (s : State) (asn bsn : Nat) : List Byte :=
  let n := s.len O.HOP_SEQUENCE / 2
  let seq := octets (s.rd O.HOP_SEQUENCE) (2 * n)
  let mlme := shortIe 0x1A (octets asn 5 ++ octets (s.rd O.JOIN_METRIC) 1) ++ shortIe 0x1C (octets 0 1) ++
    longIe 0x09 (octets 0 1 ++ octets 0 1 ++ octets 0 2 ++ octets 0 4 ++ octets n 2 ++ seq ++ octets (asn % max 1 n) 2)
  let vendor := octets (s.rd O.VENDOR_OUI) 3 ++ (List.range 4).flatMap (fun k =>
    octets (bits (s.rd O.TEMPLATES) (64 * k) 32 / 200) 2 ++ octets (bits (s.rd O.TEMPLATES) (64 * k + 32) 32 / 200) 2 ++ octets k 1)
  octets (fcf2 0 false false true true 2 3) 2 ++ octets bsn 1 ++ octets (s.rd O.PAN_ID) 2 ++ octets 0xFFFF 2 ++
    octets (euiNum (s.rd O.EUI64)) 8 ++ ieDesc 0x7E 0 ++ payIe 1 mlme ++ payIe 2 vendor ++
    octets (s.rd O.EB_TRAILER_IES) (s.len O.EB_TRAILER_IES)

end Sys2Proof.Machine
end

