-- ==== Sys2Proof/Machine/Lowpan.lean ====
section
/-!
DEFINITION. 6LoWPAN (07, §9): IPv6 header compression and decompression of RFC 6282 with the contexts of `6005.01`, fragmentation of
RFC 4944 with replicated headers (R282), interface identifiers (R281). Layouts of the RFCs are PRESUMED (notes/assumptions/38.md).
-/
namespace Sys2Proof.Machine

/-- A context: VALID, prefix length and prefix octets (Table 7.14). -/
def State.ctx (s : State) (n : Nat) : Bool × Nat × List Byte :=
  let e := bits (s.rd O.CONTEXTS) (192 * n) 192
  (octet e 0 == 1, octet e 1, octets (bits e 64 128) 16)

/-- Interface identifier of an extended address: the universal/local bit inverted (R281). -/
def iidExt (a : Nat) : List Byte := beOctets (a ^^^ 2 ^ 57) 8

/-- Interface identifier of a short address: 0000:00FF:FE00:XXXX. -/
def iidShort (a : Nat) : List Byte := beOctets (0x000000FFFE000000 + a % 65536) 8

/-- Interface identifier of a MAC address of a mode. -/
def iidOf (mode a : Nat) : List Byte := if mode = 3 then iidExt a else iidShort a

/-- The first `n` bits of one octet list over those of another. -/
def overlay (pre : List Byte) (n : Nat) (addr : List Byte) : List Byte :=
  let a := beField addr 0 16
  let p := beField pre 0 16
  let k := 128 - min n 128
  beOctets (p / 2 ^ k * 2 ^ k + a % 2 ^ k) 16

/-- The link-local prefix with eight octets of zero behind it. -/
def linkLocal : List Byte := beOctets (0xFE80 * 2 ^ 112) 16

/-- An address lies under a prefix. -/
def underPrefix (pre : List Byte) (n : Nat) (a : List Byte) : Bool :=
  let k := 128 - min n 128
  beField pre 0 16 / 2 ^ k == beField a 0 16 / 2 ^ k

/-- The context of a prefix that an address lies under. -/
def State.ctxFor (s : State) (a : List Byte) : Option Nat :=
  (List.range 16).find? (fun n => let c := s.ctx n; c.1 && underPrefix c.2.2 c.2.1 a)

/-! ## Decompression -/

/-- A unicast address of IPHC: stateful or not, mode, context, the interface identifier of the frame's address, and the octets left. -/
def State.unicastIn (s : State) (ac : Bool) (am ctx : Nat) (iid : List Byte) (f : List Byte) : Option (List Byte × List Byte) :=
  let c := s.ctx ctx
  let base := if ac then List.replicate 16 0 else linkLocal
  let fill := fun (id rest : List Byte) =>
    if ac then (if c.1 then some (overlay c.2.2 c.2.1 (base.take 8 ++ id), rest) else none) else some (base.take 8 ++ id, rest)
  let need := if am = 0 then (if ac then 0 else 16) else if am = 1 then 8 else if am = 2 then 2 else 0
  if f.length < need then none
  else match am with
    | 0 => if ac then some (List.replicate 16 0, f) else some (f.take 16, f.drop 16)
    | 1 => fill (f.take 8) (f.drop 8)
    | 2 => fill (iidShort (beField f 0 2)) (f.drop 2)
    | _ => fill iid f

/-- A multicast address of IPHC. -/
def State.multicastIn (s : State) (ac : Bool) (am ctx : Nat) (f : List Byte) : Option (List Byte × List Byte) :=
  let z := fun (n : Nat) => List.replicate n (0 : Byte)
  let ff : Byte := 0xFF
  if ac then
    let c := s.ctx ctx
    if am = 0 ∧ 6 ≤ f.length ∧ c.1 then
      some (ff :: f.take 2 ++ [BitVec.ofNat 8 c.2.1] ++ c.2.2.take 8 ++ (f.drop 2).take 4, f.drop 6)
    else none
  else match am with
    | 0 => if f.length < 16 then none else some (f.take 16, f.drop 16)
    | 1 => if f.length < 6 then none else some (ff :: f.take 1 ++ z 9 ++ (f.drop 1).take 5, f.drop 6)
    | 2 => if f.length < 4 then none else some (ff :: f.take 1 ++ z 11 ++ (f.drop 1).take 3, f.drop 4)
    | _ => if f.length < 1 then none else some (ff :: (2 : Byte) :: z 13 ++ f.take 1, f.drop 1)

/-- What a decompressed header chain is: the headers behind the IPv6 header with UDP's length and checksum zero where elided, the
position of the UDP header among them, and the octets left. -/
structure NhcOut where
  hdrs : List Byte
  udpAt : Option Nat
  rest : List Byte

/-- The EID of NHC by IPv6 protocol number, and back. -/
def eidProto : List (Nat × Nat) := [(0, 0), (1, 43), (2, 44), (3, 60), (4, 135)]

/-- Padding of an extension header to a multiple of 8 octets (R280; RFC 6282). -/
def padExt (h : List Byte) : List Byte :=
  let r := (8 - h.length % 8) % 8
  if r = 0 then h else if r = 1 then h ++ [0] else h ++ ([1, BitVec.ofNat 8 (r - 2)] ++ List.replicate (r - 2) 0)

/-- The next protocol number that a next-header octet of NHC stands for. -/
def nhcProto (b : Nat) : Option Nat :=
  if b / 8 = 0x1E then some 17
  else if b / 16 = 0xE then (if b / 2 % 8 = 7 then some 41 else look eidProto (b / 2 % 8))
  else none

/-- NHC headers from the octets that follow the addresses. -/
def nhcIn : Nat → List Byte → List Byte → Option NhcOut
  | 0, _, _ => none
  | n + 1, acc, f =>
    let b := beField f 0 1
    if f.isEmpty then none
    else if b / 8 = 0x1E then
      let r := f.drop 1
      let need := (match b % 4 with
        | 0 => 4
        | 3 => 1
        | _ => 3) + (if bitAt b 2 then 0 else 2)
      if r.length < need then none
      else
        let (sp, dp, r1) := match b % 4 with
          | 0 => (beField r 0 2, beField r 2 2, r.drop 4)
          | 1 => (beField r 0 2, 0xF000 + beField r 2 1, r.drop 3)
          | 2 => (0xF000 + beField r 0 1, beField r 1 2, r.drop 3)
          | _ => (0xF0B0 + beField r 0 1 / 16, 0xF0B0 + beField r 0 1 % 16, r.drop 1)
        let (ck, r2) := if bitAt b 2 then (0, r1) else (beField r1 0 2, r1.drop 2)
        some { hdrs := acc ++ beOctets sp 2 ++ beOctets dp 2 ++ beOctets 0 2 ++ beOctets ck 2, udpAt := some acc.length, rest := r2 }
    else if b / 16 = 0xE then
      match look eidProto (b / 2 % 8) with
      | none => none
      | some _ =>
        let nhc : Bool := b % 2 = 1
        let (nh, r) := if nhc then (0, f.drop 1) else (beField f 1 1, f.drop 2)
        let len := beField r 0 1
        let body := (r.drop 1).take len
        let rest := r.drop (1 + len)
        if r.length < 1 + len then none
        else
          let nh1 := if nhc then (nhcProto (beField rest 0 1)).getD 59 else nh
          let h := padExt (beOctets nh1 1 ++ [0] ++ body)
          let h1 := if b / 2 % 8 = 2 then h else h.take 1 ++ [BitVec.ofNat 8 (h.length / 8 - 1)] ++ h.drop 2
          if nhc then nhcIn n (acc ++ h1) rest else some { hdrs := acc ++ h1, udpAt := none, rest := rest }
    else none

/-- An IPHC header taken off the front of a payload: the uncompressed headers for a datagram of `size` octets (its own extent where
`none`), and the octets that follow. -/
def State.iphcIn (s : State) (srcIid dstIid : List Byte) (size : Option Nat) (f : List Byte) : Option (List Byte × List Byte) :=
  let w := beField f 0 2
  if f.length < 2 ∨ w / 2 ^ 13 ≠ 3 then none
  else
    let cid := bitAt w 7
    let r0 := f.drop 2
    let (sci, dci, r1) := if cid then (beField r0 0 1 / 16, beField r0 0 1 % 16, r0.drop 1) else (0, 0, r0)
    let tf := bits w 11 2
    let (tc, fl, r2) := match tf with
      | 0 => (beField r1 0 1 % 64 * 4 + beField r1 0 1 / 64, beField r1 1 3 % 2 ^ 20, r1.drop 4)
      | 1 => (beField r1 0 1 / 64, beField r1 0 3 % 2 ^ 20, r1.drop 3)
      | 2 => (beField r1 0 1 % 64 * 4 + beField r1 0 1 / 64, 0, r1.drop 1)
      | _ => (0, 0, r1)
    let nhc := bitAt w 10
    let (nh, r3) := if nhc then (0, r2) else (beField r2 0 1, r2.drop 1)
    let (hl, r4) := match bits w 8 2 with
      | 0 => (beField r3 0 1, r3.drop 1)
      | 1 => (1, r3)
      | 2 => (64, r3)
      | _ => (255, r3)
    match s.unicastIn (bitAt w 6) (bits w 4 2) sci srcIid r4 with
    | none => none
    | some (src, r5) =>
      let dst := if bitAt w 3 then s.multicastIn (bitAt w 2) (bits w 0 2) dci r5
        else if bitAt w 2 ∧ bits w 0 2 = 0 then none
        else s.unicastIn (bitAt w 2) (bits w 0 2) dci dstIid r5
      match dst with
      | none => none
      | some (da, r6) =>
        let out := if nhc then nhcIn 8 [] r6 else some { hdrs := [], udpAt := none, rest := r6 }
        match out with
        | none => none
        | some o =>
          let nh1 := if nhc then (nhcProto (beField r6 0 1)).getD 59 else nh
          let total := size.getD (40 + o.hdrs.length + o.rest.length)
          let hdrs := match o.udpAt with
            | some k => o.hdrs.take (k + 4) ++ beOctets (total - 40 - k) 2 ++ o.hdrs.drop (k + 6)
            | none => o.hdrs
          some (beOctets (6 * 2 ^ 28 + tc * 2 ^ 20 + fl) 4 ++ beOctets (total - 40) 2 ++ beOctets nh1 1 ++ beOctets hl 1 ++ src ++ da ++ hdrs,
            o.rest)

/-- The headers and payload of an unfragmented payload or of a first fragment; dispatch 0x41 is uncompressed IPv6. -/
def State.lowpanIn (s : State) (srcIid dstIid : List Byte) (size : Option Nat) (f : List Byte) : Option (List Byte) :=
  if beField f 0 1 = 0x41 ∧ 41 ≤ f.length then some (f.drop 1)
  else (s.iphcIn srcIid dstIid size f).map (fun p => p.1 ++ p.2)

/-- The one's complement sum of a list of octets, as 16 bits. -/
def ones16 (f : List Byte) : Nat → Nat → Nat
  | 0, acc => acc
  | n + 1, acc =>
    let w := acc + beField f (2 * n) 1 * 256 + (if 2 * n + 1 < f.length then beField f (2 * n + 1) 1 else 0)
    ones16 f n (w % 65536 + w / 65536)

/-- The position of the UDP header of an IPv6 datagram, behind its extension headers. -/
def udpPos (f : List Byte) : Nat → Nat → Nat → Option Nat
  | 0, _, _ => none
  | n + 1, nh, pos =>
    if nh = 17 then some pos
    else if nh = 0 ∨ nh = 43 ∨ nh = 60 ∨ nh = 135 then udpPos f n (beField f pos 1) (pos + 8 * (beField f (pos + 1) 1 + 1))
    else none

/-- A datagram with an elided UDP checksum gets its own (R280); a checksum of zero stands for an elided one. -/
def fillChecksum (f : List Byte) : List Byte :=
  match udpPos f 8 (beField f 6 1) 40 with
  | some p =>
    if f.length < p + 8 ∨ beField f (p + 6) 2 ≠ 0 then f
    else
      let udp := f.drop p
      let pseudo := (f.drop 8).take 32 ++ beOctets udp.length 4 ++ beOctets 17 4
      let c := 65535 - ones16 (pseudo ++ udp) (ceilDiv (pseudo ++ udp).length 2) 0
      f.take (p + 6) ++ beOctets (if c = 0 then 65535 else c) 2 ++ f.drop (p + 8)
  | none => f

/-! ## Compression: the shortest encoding (R281) -/

/-- The shortest encoding of a unicast address with a context or without: AC, mode and inline octets. -/
def State.unicastOut (s : State) (ctx : Option Nat) (iid a : List Byte) : Option (Bool × Nat × List Byte) :=
  let id := a.drop 8
  let modes := fun (ac : Bool) (whole : List Byte → Bool) =>
    if whole iid then some (ac, 3, [])
    else if whole (iidShort (beField a 14 2)) then some (ac, 2, a.drop 14)
    else if whole id then some (ac, 1, id)
    else none
  match ctx with
  | some n =>
    let c := s.ctx n
    if c.1 then modes true (fun i => overlay c.2.2 c.2.1 (List.replicate 8 0 ++ i) == a) else none
  | none =>
    match modes false (fun i => linkLocal.take 8 ++ i == a) with
    | some x => some x
    | none => some (false, 0, a)

/-- The shortest encoding of a destination: M, AC, mode and inline octets. -/
def State.destOut (s : State) (ctx : Option Nat) (iid a : List Byte) : Option (Bool × Bool × Nat × List Byte) :=
  if beField a 0 1 = 0xFF then
    if ctx.isSome then none
    else if beField a 1 1 = 2 ∧ beField a 2 13 = 0 then some (true, false, 3, a.drop 15)
    else if beField a 2 11 = 0 then some (true, false, 2, (a.drop 1).take 1 ++ a.drop 13)
    else if beField a 2 9 = 0 then some (true, false, 1, (a.drop 1).take 1 ++ a.drop 11)
    else some (true, false, 0, a)
  else (s.unicastOut ctx iid a).map (fun x => (false, x))

/-- The shorter of two encodings. -/
def shorter {α : Type} (len : α → Nat) (a : Option α) (b : Option α) : Option α :=
  match a, b with
  | some x, some y => if len y < len x then some y else some x
  | some x, none => some x
  | none, y => y

/-- The best encoding over no context and every context, with the context taken. -/
def bestCtx {α : Type} (inl : α → Nat) (f : Option Nat → Option α) : Option (Nat × α) :=
  (List.range 16).foldl (fun b n =>
    shorter (fun x => inl x.2 + (if x.1 = 0 then 0 else 1)) b ((f (some n)).map (fun x => (n, x)))) ((f none).map (fun x => (0, x)))

/-- The EID of an extension header's protocol number. -/
def eidOf (p : Nat) : Option Nat := (eidProto.find? (fun e => e.2 == p)).map (fun e => e.1)

/-- NHC headers for what follows the IPv6 header: the compressed octets, the uncompressed extent they stand for, `none` where the next
header has no NHC form. -/
def nhcOut (f : List Byte) : Nat → Nat → Nat → List Byte → Option (List Byte × Nat)
  | 0, _, _, _ => none
  | n + 1, nh, pos, acc =>
    if nh = 17 ∧ pos + 8 ≤ f.length then
      let sp := beField f pos 2
      let dp := beField f (pos + 2) 2
      let (p, ports) :=
        if sp / 16 = 0xF0B ∧ dp / 16 = 0xF0B then (3, beOctets (sp % 16 * 16 + dp % 16) 1)
        else if dp / 256 = 0xF0 then (1, beOctets sp 2 ++ beOctets (dp % 256) 1)
        else if sp / 256 = 0xF0 then (2, beOctets (sp % 256) 1 ++ beOctets dp 2)
        else (0, beOctets sp 2 ++ beOctets dp 2)
      some (acc ++ beOctets (0xF0 + p) 1 ++ ports ++ (f.drop (pos + 6)).take 2, pos + 8)
    else match eidOf nh with
      | none => none
      | some e =>
        let len := if nh = 44 then 8 else 8 * (beField f (pos + 1) 1 + 1)
        let next := beField f pos 1
        if f.length < pos + len then none
        else
          let body := ((f.drop (pos + 2)).take (len - 2))
          match nhcOut f n next (pos + len) (acc ++ beOctets (0xE0 + 2 * e + 1) 1 ++ beOctets body.length 1 ++ body) with
          | some x => some x
          | none => some (acc ++ beOctets (0xE0 + 2 * e) 1 ++ beOctets next 1 ++ beOctets body.length 1 ++ body, pos + len)

/-- The compressed header of a datagram and the uncompressed extent it stands for. -/
def State.iphcOut (s : State) (srcIid dstIid : List Byte) (f : List Byte) : List Byte × Nat :=
  let w := beField f 0 4
  let tc := bits w 20 8
  let fl := bits w 0 20
  let ecn := tc % 4
  let dscp := tc / 4
  let (tf, tfo) :=
    if tc = 0 ∧ fl = 0 then (3, [])
    else if fl = 0 then (2, beOctets (ecn * 64 + dscp) 1)
    else if dscp = 0 then (1, beOctets (ecn * 2 ^ 22 + fl) 3)
    else (0, beOctets (ecn * 64 + dscp) 1 ++ beOctets fl 3)
  let nh := beField f 6 1
  let nhc := nhcOut f 8 nh 40 []
  let hl := beField f 7 1
  let (hm, hlo) := if hl = 1 then (1, []) else if hl = 64 then (2, []) else if hl = 255 then (3, []) else (0, beOctets hl 1)
  let src := (f.drop 8).take 16
  let dst := (f.drop 24).take 16
  let sb := (bestCtx (fun (x : Bool × Nat × List Byte) => x.2.2.length) (fun c => s.unicastOut c srcIid src)).getD (0, false, 0, src)
  let db := (bestCtx (fun (x : Bool × Bool × Nat × List Byte) => x.2.2.2.length) (fun c => s.destOut c dstIid dst)).getD (0, false, false, 0, dst)
  let cid : Bool := sb.1 != 0 || db.1 != 0
  let b := fun (c : Bool) (n : Nat) => if c then 2 ^ n else 0
  let base := 3 * 2 ^ 13 + tf * 2 ^ 11 + b nhc.isSome 10 + hm * 2 ^ 8 + b cid 7 + b sb.2.1 6 + sb.2.2.1 * 2 ^ 4 + b db.2.1 3 +
    b db.2.2.1 2 + db.2.2.2.1
  let hdr := beOctets base 2 ++ (if cid then beOctets (sb.1 * 16 + db.1) 1 else []) ++ tfo ++
    (if nhc.isSome then [] else beOctets nh 1) ++ hlo ++ sb.2.2.2 ++ db.2.2.2.2
  match nhc with
  | some (c, e) => (hdr ++ c, e)
  | none => (hdr, 40)

/-! ## Fragments (R282) -/

/-- The largest payload that ends on a multiple of 8 uncompressed octets: `room` octets, starting at uncompressed offset `off`. -/
def fragTake (off room : Nat) : Nat := (off + room) / 8 * 8 - off

/-- The fragments behind the first: payload from uncompressed offset `off`. -/
def fragsFrom (size tag max ch : Nat) (hdr : List Byte) (repl : Bool) : Nat → Nat → List Byte → List (List Byte)
  | 0, _, _ => []
  | n + 1, off, rest =>
    if rest.isEmpty then []
    else
      let extra := if repl then ch else 0
      let room := max - 5 - extra
      let k := if rest.length ≤ room then rest.length else fragTake off room
      let f := beOctets (0xE000 + size) 2 ++ beOctets tag 2 ++ beOctets (off / 8) 1 ++ (if repl then hdr else []) ++ rest.take k
      if k = 0 then [] else f :: fragsFrom size tag max ch hdr repl n (off + k) (rest.drop k)

/-- The payloads of the PSDUs of a datagram: one where its compressed form fits `max` octets of MAC payload, else its fragments;
`none` where it would need fragments and is larger than REASM_MAX. -/
def State.lowpanOut (s : State) (srcIid dstIid : List Byte) (max tag : Nat) (repl : Bool) (f : List Byte) : Option (List (List Byte)) :=
  let (hdr, ext) := s.iphcOut srcIid dstIid f
  let rest := f.drop ext
  if hdr.length + rest.length ≤ max then some [hdr ++ rest]
  else if s.rd O.REASM_MAX < f.length then none
  else
    let k := fragTake ext (max - 4 - hdr.length)
    some ((beOctets (0xC000 + f.length) 2 ++ beOctets tag 2 ++ hdr ++ rest.take k) ::
      fragsFrom f.length tag max hdr.length hdr repl f.length (ext + k) (rest.drop k))

/-! ## Reassembly (R283) -/

/-- Pieces of a reassembly overlap with different content, or one reaches beyond the datagram. -/
def pieceConflict (size : Nat) (pieces : List (Nat × List Byte)) (off : Nat) (p : List Byte) : Bool :=
  decide (size < off + p.length) ||
    pieces.any (fun e =>
      let a := max e.1 off
      let b := min (e.1 + e.2.length) (off + p.length)
      decide (a < b) && (e.2.drop (a - e.1)).take (b - a) != (p.drop (a - off)).take (b - a))

/-- The octets of a datagram from offset `at_` on that the pieces give without a gap. -/
def pieceRun (pieces : List (Nat × List Byte)) : Nat → Nat → List Byte → List Byte
  | 0, _, acc => acc
  | n + 1, at_, acc =>
    match pieces.find? (fun e => decide (e.1 ≤ at_ ∧ at_ < e.1 + e.2.length)) with
    | some e => pieceRun pieces n (e.1 + e.2.length) (acc ++ e.2.drop (at_ - e.1))
    | none => acc

end Sys2Proof.Machine
end

