-- ==== Sys2Proof/Machine/RadioOps.lean ====
section
/-!
DEFINITION. The radio front ends (05): synthesizer codes, hops and locks (§3), receive windows (§4), calibrations (§5), transmissions
with their checks, mask and power (§6), the tuner (§7), the region profile and the duty cycle (§8).
-/
namespace Sys2Proof.Machine

/-- A transceiver beside its objects. -/
def State.trx (s : State) (x : Nat) : Trx := lookD s.radio.trxs x Trx.reset

/-- The state with its radios changed. -/
def State.onRadio (s : State) (f : Radio → Radio) : State := { s with radio := f s.radio }

/-- A transceiver changed. -/
def State.onTrx (s : State) (x : Nat) (f : Trx → Trx) : State :=
  s.onRadio (fun r => { r with trxs := modify r.trxs x Trx.reset f })

/-- TRX_STATE: 0 OFF, 1 STARTUP, 2 READY, 3 TUNING, 4 LOCKED, 5 RX, 6 TX. -/
def State.trxState (s : State) (x : Nat) : Nat := s.rd (O.TRX_STATE x)

/-- TRX_STATE set. -/
def State.setTrx (s : State) (x st : Nat) : State := s.wr (O.TRX_STATE x) st

/-- The RX window is open on the receive path with lock, so that streams taken up now are valid. -/
def State.rxLive (s : State) (x : Nat) : Bool :=
  (s.trx x).rxOpen && (s.trx x).locked && !(s.trx x).rxSilent && s.rd (O.PATH x) == 0 && (s.trx x).streamsAt.isNone

/-- An event of TRX_EVENTS. -/
def State.trxEvent (s : State) (x bit : Nat) : State := s.raiseEv (O.TRX_EVENTS x) bit

/-! ## Bands (Table 5.1) -/

/-- The band of a transceiver in Hz, both ends included. -/
def bandRange (x : Nat) : Nat × Nat := match x with
  | 0 => (400000000, 480000000)
  | 1 => (779000000, 960000000)
  | _ => (2400000000, 2483500000)

/-- Instantaneous receive span in Hz. -/
def bandSpan (x : Nat) : Nat := match x with
  | 0 => 8000000
  | 1 => 28000000
  | _ => 84000000

/-- Receive IF offset in Hz. -/
def bandIf (x : Nat) : Nat := match x with
  | 0 => 2000000
  | 1 => 7000000
  | _ => 6000000

/-- DC guard about the receive LO in Hz. -/
def bandGuard (x : Nat) : Nat := match x with
  | 0 => 100000
  | 1 => 200000
  | _ => 400000

/-- Output divider D. -/
def bandDiv (x : Nat) : Nat := match x with
  | 0 => 8
  | 1 => 4
  | _ => 2

/-- The frequency of a channel of the plan, 0 unused (R164). -/
def State.chanFreq (s : State) (x c : Nat) : Nat := bits (s.rd (O.CHAN_PLAN x)) (32 * c) 32

/-- N_INT * 2^24 + N_FRAC for a channel's frequency and path: the nearest step, ties upward (R163). -/
def synthCode (x f : Nat) (path : Bool) : Nat :=
  let vco := (if path then f else f - bandIf x) * bandDiv x
  (2 * vco * 2 ^ 24 + 76800000) / (2 * 76800000)

/-! ## The region profile (R195 to R199) -/

/-- The built-in profile (R196): no transmission; every band receives over its whole range (DEDUCED, notes/assumptions/16.md). -/
def builtinProfile : Nat :=
  (List.range 3).foldl (fun v b =>
    let r := bandRange b
    let o := 8 * (16 + 512 * b)
    v + 2 * 2 ^ o + r.1 * 2 ^ (o + 8 * 136) + r.2 * 2 ^ (o + 8 * 140)) 0

/-- The profile in force: the one read from OTP, or the built-in one. -/
def State.regProfile (s : State) : Nat := if s.radio.profile = 0 then builtinProfile else s.radio.profile

/-- A field of a band's block of the profile, by octet offset and width in bits. -/
def State.regField (s : State) (x at_ w : Nat) : Nat := bits s.regProfile (8 * (16 + 512 * x + at_)) w

/-- A frequency lies in one of `n` ranges at an offset of a band's block. -/
def State.regIn (s : State) (x at_ n f : Nat) : Bool :=
  (List.range n).any (fun k =>
    let a := s.regField x (at_ + 8 * k) 32
    let b := s.regField x (at_ + 8 * k + 4) 32
    b != 0 && decide (a ≤ f ∧ f ≤ b))

/-- A channel is masked for a path (R198). -/
def State.regMasked (s : State) (x : Nat) (path : Bool) (c : Nat) : Bool :=
  let f := s.chanFreq x c
  if path then !bitAt (s.regField x 0 8) 0 || !s.regIn x 8 16 f
  else !bitAt (s.regField x 0 8) 1 || !s.regIn x 136 4 f

/-- The transmit limit L of a band in 0.25 dBm (R190). -/
def State.txLimit (s : State) (x : Nat) : Int :=
  min 40 (toInt 16 (s.regField x 4 16) - toInt 16 (s.regField x 6 16))

/-- The sub-band (band * 16 + number) that holds a frequency (R199). -/
def State.subBand (s : State) (x f : Nat) : Option Nat :=
  ((List.range 16).find? (fun k =>
    let a := s.regField x (168 + 12 * k) 32
    let b := s.regField x (172 + 12 * k) 32
    b != 0 && decide (a ≤ f ∧ f ≤ b))).map (fun k => 16 * x + k)

/-- The lowest limit, in 0.25 dBc, that the band's mask sets at an offset from the carrier in Hz (R189, Table 5.9). -/
def State.maskLimit (s : State) (x : Nat) (offset : Int) : Option Int :=
  (List.range 16).foldl (fun (m : Option Int) k =>
    let f := fun (o : Nat) => toInt 16 (s.regField x (360 + 8 * k + o) 16)
    if f 4 ≠ 0 ∧ f 0 * 5000 ≤ offset ∧ offset ≤ f 2 * 5000 then some (min (f 4) (m.getD (f 4))) else m) none

/-- An average, its bins as (offset from the carrier in Hz, level in 0.25 dB), violates the band's mask (R189). -/
def State.maskBad (s : State) (x : Nat) (bins : List (Int × Int)) : Bool :=
  let top := bins.foldl (fun m b => max m b.2) ((bins.map (fun b => b.2)).headD 0)
  bins.any (fun b => match s.maskLimit x b.1 with
    | some l => decide (l < b.2 - top)
    | none => false)

/-- DUTY of a sub-band in 0.01 %. -/
def State.dutyOf (s : State) (sb : Nat) : Nat := s.regField (sb / 16) (176 + 12 * (sb % 16)) 16

/-- Ticks transmitted in a sub-band in the rolling hour (R199). -/
def State.dutySum (s : State) (sb : Nat) : Nat := (lookD s.radio.duty sb []).foldl (fun n e => n + e.2) 0

/-- A transmission of `len` ticks would take a sub-band over its ceiling. -/
def State.dutyOver (s : State) (sb : Option Nat) (len : Nat) : Bool :=
  match sb with
  | some k => decide (s.dutyOf k * 360 * msTk < s.dutySum k + len)
  | none => false

/-- A transmission counted in its sub-band, in the current bin. -/
def State.dutyAdd (s : State) (sb : Option Nat) (len : Nat) : State :=
  match sb with
  | some k => s.onRadio (fun r => { r with duty := modify r.duty k [] (fun l => modify l r.dutySec 0 (· + len)) })
  | none => s

/-! ## The calibration table (Table 5.3) -/

/-- The entry of a channel. -/
def State.calEntry (s : State) (x c : Nat) : Nat := bits (s.rd (O.CAL_TABLE x)) (128 * c) 128

/-- The entry of a channel replaced. -/
def State.setCal (s : State) (x c e : Nat) : State := s.wrBits (O.CAL_TABLE x) (128 * c) 128 e

/-- The VALID bit of a path. -/
def calValidBit (path : Bool) : Nat := if path then 1 else 0

/-- The first bit of a path's codes. -/
def calAt (path : Bool) : Nat := if path then 32 else 8

/-- VCO_BAND, VTUNE and CP_I of a path. -/
def calCodes (e : Nat) (path : Bool) : List Nat :=
  [bits e (calAt path) 6, bits e (calAt path + 8) 8, bits e (calAt path + 16) 4]

/-- CAL_TEMP of an entry in °C. -/
def calTemp (e : Nat) : Int := ((bits e 56 8 : Nat) : Int) - 64

/-- A path's codes count as a valid stored entry (R166). -/
def State.calValid (s : State) (x c : Nat) (path : Bool) : Bool :=
  let e := s.calEntry x c
  bitAt e (calValidBit path) && bits e 64 32 == s.chanFreq x c &&
    decide (((s.trx x).dieTemp - calTemp e).natAbs < 40)

/-- A path's codes invalidated. -/
def State.calDrop (s : State) (x c : Nat) (path : Bool) : State :=
  s.setCal x c (clearBit (s.calEntry x c) (calValidBit path))

/-- The codes in use as the objects report them. -/
def State.codesInUse (s : State) (x : Nat) (codes : List Nat) : State :=
  ((s.wr (O.VCO_BAND x) (codes.getD 0 0)).wr (O.VTUNE x) (codes.getD 1 0)).wr (O.CP_I x) (codes.getD 2 0)

/-! ## Agreement of runs (R178) -/

/-- Two runs of a calibration of a kind (0 RX_DC, 1 RX_IQ, 2 TX_LO, 3 TX_IQ, 4 SYNTH) agree. -/
def calAgree (kind : Nat) (a b : List Int) : Bool :=
  a.length == b.length &&
    if kind = 4 then a.getD 0 0 == b.getD 0 0 && a.getD 2 0 == b.getD 2 0 && decide ((a.getD 1 0 - b.getD 1 0).natAbs ≤ 4)
    else (a.zip b).all (fun p => decide ((p.1 - p.2).natAbs ≤ 2))

/-- The mean of two codes, ties toward zero. -/
def meanCode (a b : Int) : Int := (a + b).tdiv 2

/-- The accepted value of two runs. -/
def runsMean (a b : List Int) : List Int := (a.zip b).map (fun p => meanCode p.1 p.2)

/-- The last two of the runs made. -/
def lastTwo : List (List Int) → Option (List Int × List Int)
  | [a, b] => some (a, b)
  | _ :: r => lastTwo r
  | [] => none

/-- Ticks of one run of a calibration (Table 5.5). -/
def runTk (kind : Nat) : Nat := match kind with
  | 0 => 1600
  | 1 => 40000
  | 2 => 30000
  | 3 => 50000
  | _ => 16000

/-! ## The calibration queue (R180 to R183) -/

/-- CAL_STATUS BUSY as the queue has it. -/
def State.calBusy (s : State) (x : Nat) : State :=
  let t := s.trx x
  s.setSt (O.CAL_STATUS x) 15 1 (if t.calQueue.isEmpty && t.calRun.isNone then 0 else 1)

/-- A calibration queued, unless it is queued already. -/
def State.calQueue (s : State) (x : Nat) (q : CalReq) : State :=
  let same := fun (y : CalReq) => y.kind == q.kind && y.unit == q.unit && y.channel == q.channel && y.path == q.path
  let t := s.trx x
  if t.calQueue.any same || (match t.calRun with
    | some y => same y
    | none => false) then s
  else (s.onTrx x (fun t => { t with calQueue := t.calQueue ++ [q] })).calBusy x

/-- The units of a chain calibration: chains and gain steps for RX_DC, chains for RX_IQ, the TX chain (Table 5.5). -/
def calUnits (kind : Nat) : Nat := match kind with
  | 0 => 16
  | 1 => 2
  | _ => 1

/-- A request for a unit of one of the four chain calibrations. -/
def calOf (kind unit : Nat) (startup : Bool) : CalReq :=
  { kind := kind, unit := unit, channel := 0, path := false, runs := [], startup := startup }

/-- A request for SYNTH of a channel and path. -/
def synthOf (channel : Nat) (path : Bool) (runs : List (List Int)) (startup : Bool) : CalReq :=
  { kind := 4, unit := 0, channel := channel, path := path, runs := runs, startup := startup }

/-- A chain calibration queued for each of its units. -/
def State.calKind (s : State) (x kind : Nat) (startup : Bool) : State :=
  (List.range (calUnits kind)).foldl (fun s u => s.calQueue x (calOf kind u startup)) s

/-- RX_DC, RX_IQ, TX_LO and TX_IQ queued. -/
def State.calAll (s : State) (x : Nat) (startup : Bool) : State :=
  (List.range 4).foldl (fun s k => s.calKind x k startup) s

/-- SYNTH queued for plan channels, receive path first; `every` or only those invalid or STALE (R180, R183). -/
def State.calSynths (s : State) (x : Nat) (every startup : Bool) : State :=
  (List.range 1024).foldl (fun s c =>
    if s.chanFreq x c = 0 then s
    else [false, true].foldl (fun s path =>
      if every || !s.calValid x c path || bitAt (s.calEntry x c) 4 then
        s.calQueue x (synthOf c path [] startup)
      else s) s) s

/-- STARTUP ends with its last calibration (Table 5.2). -/
def State.startupOver (s : State) (x : Nat) : State :=
  let t := s.trx x
  let left := t.calQueue.any (fun q => q.startup) || (match t.calRun with
    | some q => q.startup
    | none => false)
  if s.trxState x = 1 ∧ !left then s.setTrx x 2 else s

/-- The gap leaves room for a number of runs of a kind: their time, 400 tk, and for SYNTH the hop back (R181). -/
def State.calFits (s : State) (x runs kind : Nat) : Bool :=
  decide (s.now + runs * runTk kind + 400 + (if kind = 4 then 2800 else 0) ≤ (s.trx x).gapEnd)

/-- The next calibration that fits the gap starts (R181). Those queued on entry to STARTUP keep their order (R180). -/
def State.calStart (s : State) (x : Nat) : State :=
  let t := s.trx x
  if t.calRun.isSome || t.rxOpen || t.txOpen || t.tune.isSome || s.trxState x == 0 then s
  else
    let first := t.calQueue.find? (fun q => q.startup)
    let fits := fun (q : CalReq) => s.calFits x 2 q.kind && (!q.startup || first == some q)
    match findAt t.calQueue fits with
    | some (k, q) => (s.onTrx x (fun t => { t with calQueue := t.calQueue.eraseIdx k, calRun := some q })).calBusy x
    | none => s

/-- The end of a gap that is open now: the next entry of the transceiver's strands, or the slot's end (R181). -/
def State.gapLimit (s : State) (x : Nat) : Nat :=
  ((strandsOf s.runWords s.runSec).filter (fun st => decide (st.id / 4 = x ∧ st.id < 12))).foldl (fun m st =>
    (st.inSlot s.slotPos).foldl (fun m e => if s.now < s.lay.slotAt + eTick e.w then min m (s.lay.slotAt + eTick e.w) else m) m)
    s.nextSlotAt

/-- A background run is abandoned for a lay entry and requeued; it counts as no disagreement (R182). -/
def State.calAbandon (s : State) (x : Nat) : State :=
  match (s.trx x).calRun with
  | some q => s.onTrx x (fun t => { t with calRun := none, calQueue := q :: t.calQueue, gapEnd := 0 })
  | none => s.onTrx x (fun t => { t with gapEnd := 0 })

/-- Codes of a SYNTH calibration stored as accepted (R168, Table 5.3). -/
def State.synthStore (s : State) (x c : Nat) (path : Bool) (codes : List Int) : State :=
  let e := s.calEntry x c
  let at_ := calAt path
  let e1 := setBits (setBits (setBits e at_ 6 (codes.getD 0 0).toNat) (at_ + 8) 8 (codes.getD 1 0).toNat) (at_ + 16) 4 (codes.getD 2 0).toNat
  let e2 := clearBit (clearBit (setBit e1 (calValidBit path)) (2 + calValidBit path)) 4
  let e3 := setBits (setBits e2 56 8 ((s.trx x).dieTemp + 64).toNat) 64 32 (s.chanFreq x c)
  s.setCal x c (setBits e3 96 16 (min 65535 (bits e3 96 16 + 1)))

/-- A calibration is given up: the previous result stays, the failure is flagged (R178). -/
def State.calFailed (s : State) (x : Nat) (q : CalReq) : State :=
  let s1 := (((s.bump (O.CAL_FAILS x)).raiseEv (O.CAL_STATUS x) 1).trxEvent x 3)
  if q.kind = 4 then
    let e := setBit (s1.calEntry x q.channel) (2 + calValidBit q.path)
    s1.setCal x q.channel (setBits e 112 16 (min 65535 (bits e 112 16 + 1)))
  else s1

/-- Corrections of a unit in force at once. -/
def State.corrNow (s : State) (x key : Nat) (v : List Int) : State := s.onTrx x (fun t => { t with corr := put t.corr key v })

/-- The quality figure of an accepted calibration of a unit (Table 5.5). -/
def State.calQuality (s : State) (x kind unit : Nat) (q : Int) : State :=
  match kind with
  | 0 => s.wrI (if unit < 8 then O.RX1_DC_DBFS x else O.RX2_DC_DBFS x) 16 q
  | 1 => s.wrI (if unit = 0 then O.RX1_IMAGE_DB x else O.RX2_IMAGE_DB x) 16 q
  | 2 => s.wrI (O.TX_LO_LEAK_DBC x) 16 q
  | _ => s.wrI (O.TX_IMAGE_DB x) 16 q

/-- A calibration is accepted: in force at once, or at the end of the window open (Table 5.5). -/
def State.calAccepted (s : State) (x : Nat) (q : CalReq) (v quality : List Int) : State :=
  let s1 := s.raiseEv (O.CAL_STATUS x) 0
  if q.kind = 4 then s1.synthStore x q.channel q.path v
  else
    let t := s1.trx x
    let key := 16 * q.kind + q.unit
    let s2 := (if (q.kind = 1 ∧ t.rxOpen) ∨ (q.kind = 3 ∧ t.txOpen) then s1.onTrx x (fun t => { t with corrNext := put t.corrNext key v })
      else s1.corrNow x key v).calQuality x q.kind q.unit (quality.getD 0 0)
    if q.kind = 1 then s2.onTrx x (fun t => { t with rxIqAt := some s.now, rxIqTemp := t.dieTemp })
    else if q.kind = 3 then s2.wr (O.TX_TRIM_QDB x) 0
    else s2

/-- Corrections of a kind that waited for a window to end come into force. -/
def State.corrApply (s : State) (x kind : Nat) : State :=
  (List.range (calUnits kind)).foldl (fun s u => match look (s.trx x).corrNext (16 * kind + u) with
    | some v => (s.corrNow x (16 * kind + u) v).onTrx x (fun t => { t with corrNext := del t.corrNext (16 * kind + u) })
    | none => s) s

/-- A background run is done (R178): more runs, acceptance, or the end after five. -/
def State.calRunDone (s : State) (x : Nat) (q : CalReq) (values quality : List Int) : State :=
  let runs := q.runs ++ [values]
  let s1 := s.bump (O.CAL_RUNS x)
  let past := fun (s : State) => (((s.onTrx x (fun t => { t with calRun := none })).calBusy x).startupOver x).calStart x
  match lastTwo runs with
  | some (a, b) =>
    if calAgree q.kind a b then past (s1.calAccepted x q (runsMean a b) quality)
    else if 5 ≤ runs.length then past (s1.calFailed x q)
    else
      if s1.calFits x 1 q.kind then s1.onTrx x (fun t => { t with calRun := some { q with runs := runs } })
      else s1.onTrx x (fun t => { t with calRun := none, calQueue := { q with runs := runs } :: t.calQueue })
  | none => s1.onTrx x (fun t => { t with calRun := some { q with runs := runs } })

/-! ## Hops and locks (R167 to R173) -/

/-- A state that is neither a window's nor OFF: READY, TUNING or LOCKED as the synthesizer stands. -/
def State.synthState (s : State) (x st : Nat) : State :=
  if (s.trx x).rxOpen || (s.trx x).txOpen || s.trxState x == 0 then s else s.setTrx x st

/-- The synthesizer stops or starts afresh: unlocked, streams without samples. -/
def State.synthStop (s : State) (x : Nat) (blocked : Bool) : State :=
  ((s.calAbandon x).streamsOff (streamsOf x)).onTrx x (fun t => { t with
    locked := false, seeking := false, tune := none, streamsAt := none, blocked := blocked })

/-- A HOP or RECAL to a channel of the plan (R167, R168, R198). -/
def State.synthTune (s : State) (x : Nat) (path : Bool) (c : Nat) (recal : Bool) : State :=
  if s.regMasked x path c then
    ((((s.synthStop x true).synthState x 2).bump (O.REG_MASK_BLOCK x)).trxEvent x 9)
  else
      let s0 := s.synthStop x false
      let f := s0.chanFreq x c
      let valid := s0.calValid x c path
      let code := synthCode x f path
      let s1 := ((s0.wr (O.N_INT x) (code / 2 ^ 24)).wr (O.N_FRAC x) (code % 2 ^ 24))
      let s2 := if valid then s1.codesInUse x (calCodes (s1.calEntry x c) path) else s1
      let s3 := if !valid && !recal then (s2.bump (O.HOP_MISS x)).trxEvent x 2 else s2
      (s3.onTrx x (fun t => { t with
        tune := some { channel := c, path := path, since := s.now, full := recal || !valid, miss := !valid, runs := [] } })).synthState x 3

/-- Lock is reported: the channel and path recorded; an open receive window's streams become valid 2,000 tk on (R171). -/
def State.synthLocked (s : State) (x : Nat) : State :=
  let t := s.trx x
  let s1 := match t.tune with
    | some u => ((s.wr (O.CHANNEL x) u.channel).wr (O.PATH x) (if u.path then 1 else 0)).onTrx x (fun t => { t with tune := none, faults := 0 })
    | none => s.onTrx x (fun t => { t with seeking := false })
  let s2 := match t.tune with
    | some u => if u.full then s1.bump (O.RECAL_DONE x) else s1
    | none => s1
  let open_ : Bool := t.rxOpen && !t.rxSilent && s2.rd (O.PATH x) == 0
  (s2.onTrx x (fun t => { t with locked := true, streamsAt := if open_ then some (s.now + 2000) else none })).synthState x 4

/-- A hop with a valid entry did not lock in 2,800 tk: the codes are discarded, the entry invalid, and a full calibration follows
(R169, R170). -/
def State.lockLate (s : State) (x : Nat) (u : Tune) : State :=
  (s.calDrop x u.channel u.path).onTrx x (fun t => { t with tune := some { u with full := true, miss := true } })

/-- No lock 36,000 tk after a hop (R169). -/
def State.synthFault (s : State) (x : Nat) : State :=
  let n := (s.trx x).faults + 1
  let s1 := (((s.bump (O.SYNTH_FAULT x)).trxEvent x 10).onTrx x (fun t => { t with tune := none, faults := n })).synthState x 2
  if 3 ≤ n then s1.faultN 3 else s1

/-- A run of the full calibration in progress (R168): after the second, the codes to lock with; a disagreement leaves the entry and
queues the further runs. -/
def State.tuneRun (s : State) (x : Nat) (u : Tune) (values : List Int) : State :=
  let runs := u.runs ++ [values]
  let s1 := (s.bump (O.CAL_RUNS x)).onTrx x (fun t => { t with tune := some { u with runs := runs } })
  match lastTwo runs with
  | some (a, b) =>
    if runs.length ≠ 2 then s1
    else if calAgree 4 a b then
      (s1.synthStore x u.channel u.path (runsMean a b)).codesInUse x ((runsMean a b).map Int.toNat)
    else
      let e := s1.calEntry x u.channel
      let codes := if bitAt e (calValidBit u.path) then calCodes e u.path else b.map Int.toNat
      (s1.codesInUse x codes).calQueue x (synthOf u.channel u.path runs false)
  | none => s1

/-! ## Receive windows (§4) -/

/-- The LNA step of a new window (R176). DESIGN CHOICE: step 0 where no step keeps the power of the window before at or below the target
(the spec names none; notes/assumptions/21.md). -/
def State.gainFor (s : State) (x : Nat) : Nat :=
  if s.rd (O.AGC_MODE x) = 1 then s.rd (O.FIXED_GAIN_STEP x)
  else match (s.trx x).agcPower with
    | none => 4
    | some p => (List.range 8).foldl (fun (b k : Nat) => if p + 6 * (k : Int) ≤ s.rdI (O.AGC_TARGET_DBFS x) 8 then k else b) 0

/-- The RX window closes; the wideband power of its last 64 µs is an open value. -/
def State.rxCloseWin (s : State) (x : Nat) : State :=
  if !(s.trx x).rxOpen then s
  else
    let (p, s1) := (s.streamsOff (streamsOf x)).free
    let s2 := s1.onTrx x (fun t => { t with rxOpen := false, rxSilent := false, streamsAt := none, agcPower := some (toInt 8 p) })
    (if s.trxState x = 0 then s2 else s2.setTrx x (if (s2.trx x).locked then 4 else 2)).corrApply x 1

/-! ## Transmissions (§6) -/

/-- The air MAC's attempts on a transceiver that have not ended count as cut (R267). -/
def State.flightsCut (s : State) (x : Nat) : State :=
  { s with mac := { s.mac with flights := s.mac.flights.map (fun f => if f.trx = x then { f with cut := true } else f) } }

/-- The tick at which the transceiver is done with a transmission whose last symbol ends at a tick (Table 5.6). -/
def State.txDone (s : State) (x e : Nat) : Nat := e + s.rd (O.RAMP_TK x) + s.rd (O.TRSW_LAG_TK x)

/-- The transmission of a transceiver whose last symbol ends at a tick: the releases of PA and switch follow (Table 5.6). -/
def State.txEndsAt (s : State) (x e : Nat) : State :=
  s.onTrx x (fun t => { t with
    tx := t.tx.map (fun r => { r with ends := e, stop := e + s.rd (O.RAMP_TK x) })
    swUntil := s.txDone x e, paUntil := e + s.rd (O.RAMP_TK x) + s.rd (O.PA_LAG_TK x) })

/-- A transmission in progress ramps down on a transceiver and, for a ply burst, on every one it spans. -/
def State.txStop (s : State) (x : Nat) : State :=
  match (s.trx x).tx with
  | some r =>
    if r.ended then s
    else (if r.ply then r.span else [x]).foldl (fun s y =>
      ((((s.txEndsAt y s.now).onTrx y (fun t => { t with tx := t.tx.map (fun r => { r with ended := true }) })).emit
        (.txStops y)).flightsCut y)) s
  | none => s

/-- A transmission is in progress. -/
def State.txBusy (s : State) (x : Nat) : Bool := match (s.trx x).tx with
  | some r => !r.ended
  | none => false

/-- The first PSDU-carrying sample of a transmission whose entry is now. -/
def State.txFirst (s : State) (x : Nat) : Nat := s.now + 1000 + s.rd (O.RAMP_TK x)

/-- The carrier of a transceiver. -/
def State.carrier (s : State) (x : Nat) : Nat := s.chanFreq x (s.rd (O.CHANNEL x))

/-- The duty-cycle check and the fit of a transmission from `first` to `e` in a window that closes at `closes` (R185): each failure
counted unless the window follows a masked hop (R198), and whether both hold. -/
def State.txRoom (s : State) (x first e closes : Nat) (sb : Option Nat) : Bool × State :=
  if (s.trx x).blocked then (false, s) else
  let len := e + s.rd (O.RAMP_TK x) - (first - s.rd (O.RAMP_TK x))
  let past := s.dutyOver sb len
  let misfit := decide (closes < s.txDone x e)
  let s1 := if past then (s.bump (O.DUTY_BLOCK x)).trxEvent x 8 else s
  (!past && !misfit, if misfit then s1.bump (O.TX_NO_FIT x) else s1)

/-- A transmission starts (Table 5.6), its first PSDU-carrying sample at `first`, with the ramp before it (R234): counted, its time added to its
sub-band. -/
def State.txBegin (s : State) (x first e : Nat) (sb : Option Nat) (cell : Nat) (hitch : Option Nat) (ply : Bool) (span : List Nat) (psdu : Nat) :
    State :=
  let ramp := s.rd (O.RAMP_TK x)
  let r : TxRun :=
    { at_ := first - ramp, ends := e, stop := e + ramp, cell := cell, hitch := hitch, ply := ply, span := span, psdu := psdu, maskBad := 0,
      allWell := true, measured := false, ended := false }
  (((s.bump (O.TX_STARTED x)).dutyAdd sb (e + ramp - (first - ramp))).onTrx x (fun t => { t with tx := some r })).txEndsAt x e

/-- The drive of a transmission in 0.25 dBm: the setpoint less the trim and, after a poor return loss, BACKOFF_QDB (R190, R193). -/
def State.txDrive (s : State) (x : Nat) : Int :=
  s.rdI (O.TX_POWER_QDBM x) 16 - s.rdI (O.TX_TRIM_QDB x) 16 - (if (s.trx x).tuner.backoff then ((s.rd (O.BACKOFF_QDB x) : Nat) : Int) else 0)

/-- The FIR set of a TX profile (R188). -/
def State.firSet (s : State) (x profile : Nat) : Nat := octet (s.rd (O.FIR_MAP x)) profile

/-- A loopback calibration runs, during which the driver is muted and the PA and the switch are off (R179). -/
def State.loopback (s : State) (x : Nat) : Bool := match (s.trx x).calRun with
  | some q => decide (1 ≤ q.kind ∧ q.kind ≤ 3)
  | none => false

/-- PAx_EN (Table 5.6); it floats while the transceiver's domain is off (R186). -/
def State.paEn (s : State) (x : Nat) : Option Bool :=
  if s.trxState x = 0 then none
  else some (!s.loopback x && decide (s.now < (s.trx x).paUntil) && (match (s.trx x).tx with
    | some r => decide (r.at_ ≤ s.now + s.rd (O.PA_LEAD_TK x))
    | none => true))

/-- SWx_TX (Table 5.6); it floats while the transceiver's domain is off (R186). -/
def State.swTx (s : State) (x : Nat) : Option Bool :=
  if s.trxState x = 0 then none else some (!s.loopback x && decide (s.now < (s.trx x).swUntil))

/-- The transceiver's power is gone or its stage is shed: OFF, a transmission in progress cut without ramp-down (Table 5.2, R186). -/
def State.trxOff (s : State) (x : Nat) : State :=
  if s.trxState x = 0 then s
  else
    let s1 := if s.txBusy x then (s.txStop x).bump (O.TRX_TX_CUT x) else s
    (((s1.streamsOff (streamsOf x)).setTrx x 0).onTrx x (fun t => { t with
      locked := false, seeking := false, tune := none, rxOpen := false, txOpen := false, rxSilent := false, blocked := false, streamsAt := none,
      calQueue := [], calRun := none, gapEnd := 0, tx := none, swUntil := 0, paUntil := 0, agcPower := none })).calBusy x

/-- The transceiver's domain is ON: STARTUP with its calibrations (R162, R180); the first window uses step 4. -/
def State.trxStartup (s : State) (x : Nat) : State :=
  if s.trxState x ≠ 0 then s
  else ((((s.setTrx x 1).onTrx x (fun t => { t with agcPower := none, calPeriodAt := s.now })).calAll x true).calSynths x false true).startupOver x

/-! ## The tuner (§7) -/

/-- A tuner preset (R191). -/
def State.tunerPreset (s : State) (x n : Nat) : Nat :=
  if 4 * n + 4 ≤ s.len (O.TUNER_PRESETS x) then bits (s.rd (O.TUNER_PRESETS x)) (32 * n) 32 else 0x01000000

/-- A new tuner code, also sent on the serial lines where EXT_TUNER asks for it (R194). -/
def State.tunerCode (s : State) (x code : Nat) : State :=
  let s1 := s.wr (O.TUNER_CODES x) code
  if s.flag (O.EXT_TUNER x) ∧ s.rd (O.TUNER_CODES x) ≠ code then s1.emit (.tunerWord x (s.rd (O.EXT_ADDR x)) code) else s1

/-- A step of a bank of a code, within its range and AUTO_LIMIT of the preset. -/
def tunerMove (code preset limit bank : Nat) (up : Bool) : Option Nat :=
  let v := bits code (8 * bank) 6
  let p := bits preset (8 * bank) 6
  if up then (if v < 63 ∧ v + 1 ≤ p + limit then some (setBits code (8 * bank) 6 (v + 1)) else none)
  else (if 0 < v ∧ p ≤ v - 1 + limit then some (setBits code (8 * bank) 6 (v - 1)) else none)

/-- The first move there is, from a place of the cycle CS, CP1, CP2 with +1 then −1 on each, with the place after it. -/
def tunerNext (code preset limit : Nat) : Nat → Nat → Option (Nat × Nat)
  | 0, _ => none
  | n + 1, k => match tunerMove code preset limit (k / 2 % 3) (k % 2 == 0) with
    | some c => some (c, (k + 1) % 6)
    | none => tunerNext code preset limit n ((k + 1) % 6)

/-- The automatic step after a TX window with a valid measurement (R192): the last step kept or reverted, then the next made. -/
def State.tunerStep (s : State) (x : Nat) (rl : Int) : State :=
  let u := (s.trx x).tuner
  let code := s.rd (O.TUNER_CODES x)
  let (base, rl0) := match u.trial with
    | some (old, before) => if before + 2 ≤ rl then (code, rl) else (old, before)
    | none => (code, rl)
  match tunerNext base u.preset (s.rd (O.AUTO_LIMIT x)) 6 (2 * u.bank + (if u.up then 0 else 1)) with
  | some (c, k) => (s.tunerCode x c).onTrx x (fun t => { t with
      tuner := { t.tuner with trial := some (base, rl0), bank := k / 2, up := k % 2 == 0 } })
  | none => (s.tunerCode x base).onTrx x (fun t => { t with tuner := { t.tuner with trial := none } })

/-- The TX window closes: the driver muted, backoff judged, a tuner step made (R162, R192, R193). -/
def State.txCloseWin (s : State) (x : Nat) : State :=
  if !(s.trx x).txOpen then s
  else
    let s1 := s.txStop x
    let t := s1.trx x
    let run := t.tx
    let s2 := s1.onTrx x (fun t => { t with txOpen := false, tx := none })
    let s3 := (if s.trxState x = 0 then s2 else s2.setTrx x (if t.locked then 4 else 2)).corrApply x 3
    match run with
    | some r =>
      let s4 := if r.measured && r.allWell then s3.onTrx x (fun t => { t with tuner := { t.tuner with backoff := false } }) else s3
      if r.measured && t.tuner.measuring then s4.tunerStep x (s4.rdI (O.RL_LAST_QDB x) 16) else s4
    | none => s3

/-! ## Windows open (Table 5.2) -/

/-- The state without a window of a transceiver: what an entry that opens one ends (R161). -/
def State.winsClose (s : State) (x : Nat) : State := (s.rxCloseWin x).txCloseWin x

/-- An RX window opens (R161, R162, R171): late where the synthesizer is unlocked, or a window is open still. -/
def State.rxOpenWin (s : State) (x : Nat) (single : Bool) : State :=
  if s.trxState x = 0 then s
  else
    let s0 := (((s.calAbandon x).winsClose x).streamsOff (streamsOf x)).event (32 * (x + 1))
    let t := s0.trx x
    let late := decide (5 ≤ s.trxState x) || !t.locked
    let wrong := t.locked && s0.rd (O.PATH x) == 1
    let silent := t.blocked || wrong
    let g := s0.gainFor x
    let s1 := (s0.setTrx x 5).onTrx x (fun t => { t with
      rxOpen := true, rxSingle := single, gainStep := g, rxSilent := silent,
      streamsAt := if t.locked && !silent then some (s.now + 2000) else none })
    if t.blocked then s1
    else if late then (s1.bump (O.RX_LATE_LOCK x)).trxEvent x 0
    else if wrong then s1.bump (O.RX_WRONG_PATH x)
    else s1

/-- A TX window opens (R161, R162), silent in a retired device (Table 15.4); LATE_LOCK, WRONG_PATH and INHIBITED are counted whether or not a
PSDU is bound. What is left is whether a transmission may start as far as the synthesizer and the inhibit go. -/
def State.txOpenWin (s : State) (x : Nat) : Bool × State :=
  if s.trxState x = 0 then (false, s)
  else
    let s0 := ((s.calAbandon x).winsClose x).streamsOff (streamsOf x)
    let t := s0.trx x
    let s1 := (s0.setTrx x 6).onTrx x (fun t => { t with txOpen := true, tx := none })
    if t.blocked then (false, s1)
    else
      let late := decide (5 ≤ s.trxState x) || !t.locked
      let inhibited := s1.flag (O.TRX_EVENTS x) 7 || s1.rd O.LIFECYCLE_NOW == 4
      let s2 := if late then (s1.bump (O.TX_LATE_LOCK x)).trxEvent x 0
        else if s1.rd (O.PATH x) = 0 then s1.bump (O.TX_WRONG_PATH x) else s1
      let s3 := if inhibited then s2.bump (O.TX_INHIBITED x) else s2
      (!late && s1.rd (O.PATH x) == 1 && !inhibited, s3)

/-- The synthesizer powered down: READY, no window open (Table 5.2). -/
def State.synthOff (s : State) (x : Nat) : State :=
  if s.trxState x = 0 then s else ((s.synthStop x false).winsClose x).setTrx x 2

/-- A HOP or RECAL (R164, R167, R168, R198). -/
def State.synthHop (s : State) (x : Nat) (path : Bool) (c : Nat) (recal : Bool) : State :=
  if s.trxState x = 0 then s
  else if s.chanFreq x c = 0 then ((s.synthOff x).bump (O.HOP_MISS x)).trxEvent x 2
  else s.synthTune x path c recal

/-- An average of the mask checker: two in a row that violate the mask ramp the transmission down (R189). -/
def State.maskCheck (s : State) (x : Nat) (r : TxRun) (bins : List (Int × Int)) : State :=
  let n := if s.maskBad x bins then r.maskBad + 1 else 0
  let s1 := s.onTrx x (fun t => { t with tx := some { r with maskBad := n } })
  if 2 ≤ n then ((s1.bump (O.MASK_ABORT x)).trxEvent x 4).txStop x else s1

/-- One coupler measurement of a transmission (R190); each valid one acts together with the one before it (R193). -/
def State.powerMeasure (s : State) (x : Nat) (r : TxRun) (fwd rl : Int) : State :=
  let s1 := s.wrI (O.FWD_PWR_QDBM x) 16 fwd
  let s2 := if s.txLimit x + 4 < fwd then (s1.bump (O.POWER_TRIM x)).wrI (O.TX_TRIM_QDB x) 16 (s1.rdI (O.TX_TRIM_QDB x) 16 + 2) else s1
  if fwd < -40 then s2
  else
    let last := (s.trx x).tuner.lastRl
    let low := fun (k : Nat) => decide (rl < ((s.rd k : Nat) : Int)) && (match last with
      | some l => decide (l < ((s.rd k : Nat) : Int))
      | none => false)
    let r1 := { r with measured := true, allWell := r.allWell && decide (((s.rd (O.RL_WARN x) : Nat) : Int) ≤ rl) }
    let s3 := (s2.wrI (O.RL_LAST_QDB x) 16 rl).onTrx x (fun t => { t with tx := some r1, tuner := { t.tuner with lastRl := some rl } })
    let s4 := if low (O.RL_WARN x) then (s3.bump (O.TUNER_WARN x)).trxEvent x 5 else s3
    let s5 := if low (O.RL_BACKOFF x) then ((s4.bump (O.TUNER_BACKOFF x)).trxEvent x 6).onTrx x (fun t => { t with tuner := { t.tuner with backoff := true } })
      else s4
    if low (O.RL_INHIBIT x) then (s5.setSt (O.TRX_EVENTS x) 7 1 1).txStop x else s5

/-! ## Dictionary operations -/

/-- A write of CHAN_PLAN: refused for a frequency outside the band, else in force at the next slot boundary (R164). -/
def State.opChanPlan (s : State) (x v : Nat) : Except Abort State :=
  let r := bandRange x
  if (List.range 1024).any (fun c => let f := bits v (32 * c) 32; f != 0 && !decide (r.1 ≤ f ∧ f ≤ r.2)) then .error .valueRange
  else .ok (s.onTrx x (fun t => { t with planNext := some v }))

/-- A channel plan takes effect at a slot boundary: entries whose frequency changed are invalid on both paths (R164). -/
def State.chanPlanApply (s : State) (x : Nat) : State :=
  match (s.trx x).planNext with
  | none => s
  | some v =>
    let s1 := (List.range 1024).foldl (fun s c =>
      if s.chanFreq x c ≠ bits v (32 * c) 32 then (s.calDrop x c false).calDrop x c true else s) s
    (s1.wr (O.CHAN_PLAN x) v).onTrx x (fun t => { t with planNext := none })

/-- A write of MANUAL_HOP (R173); its reserved bits are ignored (R44). -/
def State.opManualHop (s : State) (x v : Nat) : Except Abort State :=
  let held := (strandsOf s.runWords s.runSec).any (fun st => st.id / 4 == x && decide (st.id < 12))
  if held then .error .valueRange else .ok (s.synthHop x (bitAt v 10) (v % 1024) false)

/-- A write of TX_INHIBIT_CLEAR: only 1 clears it (R193). -/
def State.opInhibitClear (s : State) (x v : Nat) : State := if v = 1 then s.setSt (O.TRX_EVENTS x) 7 1 0 else s

/-- A write of CAL_INVALIDATE (R165). -/
def State.opCalInvalidate (s : State) (x v : Nat) : Except Abort State :=
  if v = 0xFFFF then .ok ((List.range 1024).foldl (fun s c => (s.calDrop x c false).calDrop x c true) s)
  else if 1024 ≤ v then .error .valueRange
  else .ok ((s.calDrop x v false).calDrop x v true)

/-- A write of CAL_COMMAND (R183); its reserved bits are ignored (R44). -/
def State.opCalCommand (s : State) (x v : Nat) : State :=
  let s1 := (List.range 4).foldl (fun s k => if bitAt v k then s.calKind x k false else s) s
  let s2 := if bitAt v 4 then s1.calSynths x true false else s1
  if bitAt v 5 then s2.calSynths x false false else s2

/-- DUTY_USED: ms in the rolling hour of each sub-band. -/
def State.dutyUsed (s : State) : Nat := (List.range 48).foldl (fun v k => v + s.dutySum k / msTk * 2 ^ (32 * k)) 0

/-- A profile as it reads, with its CRC-32C. -/
def profileRead (x : Nat) : Nat :=
  let p := x % 2 ^ (8 * 1552)
  p + crc32c ((octets p 1552).map (fun b => b.toNat)) * 2 ^ (8 * 1552)

/-- The profile in force as `4300.01` reads it. -/
def State.regRead (s : State) : Nat := profileRead s.regProfile

end Sys2Proof.Machine
end

