-- ==== Sys2Proof/Machine/MacOps.lean ====
section
/-!
DEFINITION. The air MAC's tables and its uplink (07, §1 to §4, §8, §9): cells (R248 to R250), guard times (R255), the sensor table (R277 to
R279), the checks of Table 7.5 with the cipher bank's part in them, acceptance (R258), the duplicate cache (R262 to R264), reassembly (R283).
-/
namespace Sys2Proof.Machine

/-- The state with its air MAC changed. -/
def State.onMac (s : State) (f : Mac → Mac) : State := { s with mac := f s.mac }

/-! ## Cells (R248 to R250) -/

/-- A cell table entry (Table 7.2). -/
def State.cell (s : State) (h : Nat) : Nat := bits (s.rd O.CELL_TABLE) (64 * h) 64
/-- TYPE: 1 UPLINK, 2 DOWNLINK, 3 SHARED_UP, 4 SHARED_DOWN, 5 BEACON, 6 CSL, 7 CONTENTION, 8 PLY_DATA, 9 PARENT_BEACON, 10 PLY_BEACON. -/
def ceType (e : Nat) : Nat := bits e 0 4
/-- SENSOR. -/
def ceSensor (e : Nat) : Nat := bits e 4 18
/-- CH_OFFSET. -/
def ceOffset (e : Nat) : Nat := bits e 22 16
/-- TEMPLATE. -/
def ceTemplate (e : Nat) : Nat := bits e 38 2
/-- LINK_ID. -/
def ceLink (e : Nat) : Nat := bits e 40 8
/-- HOP_CHECK: 1 by default; the table's default of all zero is taken as the entry stands. -/
def ceHop (e : Nat) : Bool := bitAt e 48

/-- TX_OFFSET_TK and ACK_OFFSET_TK of a template. -/
def State.template (s : State) (n : Nat) : Nat × Nat := (bits (s.rd O.TEMPLATES) (64 * n) 32, bits (s.rd O.TEMPLATES) (64 * n + 32) 32)

/-- An entry whose cell is UNUSED or whose kind does not fit its type is counted (R249). -/
def State.cellFits (s : State) (h : Nat) (types : List Nat) : State :=
  if types.contains (ceType (s.cell h)) then s else s.bump O.CELL_UNTYPED

/-- The channel of a transceiver's last hop. -/
def State.hopChannel (s : State) (x : Nat) : Nat := match (s.trx x).tune with
  | some u => u.channel
  | none => s.rd (O.CHANNEL x)

/-- The channel check of a cell (R250), once it is known which channel its transceiver hopped to. -/
def State.hopCheck (s : State) (h x : Nat) : State :=
  let e := s.cell h
  let n := s.len O.HOP_SEQUENCE / 2
  let c := s.hopChannel x
  if decide (1 ≤ ceType e ∧ ceType e ≤ 6) && ceHop e && n != 0 && decide (c < 1024) &&
      bits (s.rd O.HOP_SEQUENCE) (16 * ((s.lay.asn + ceOffset e) % n)) 16 != c then s.bump O.HOP_MISMATCH
  else s

/-! ## Sensor entries (Table 7.8) -/

/-- A sensor entry; an index never stored reads 0. -/
def State.sensor (s : State) (i : Nat) : Nat := lookD s.mac.sensors i 0

/-- A sensor entry replaced. -/
def State.setSensor (s : State) (i e : Nat) : State := s.onMac (fun m => { m with sensors := put m.sensors i e })

/-- `n` octets of an entry from octet `o`. -/
def seField (e o n : Nat) : Nat := bits e (8 * o) (8 * n)

/-- `n` octets of an entry replaced. -/
def seSet (e o n v : Nat) : Nat := setBits e (8 * o) (8 * n) v

/-- VALID. -/
def seValid (e : Nat) : Bool := bitAt e 80
/-- CLASS. -/
def seClass (e : Nat) : Nat := bits e 81 2
/-- CSL. -/
def seCsl (e : Nat) : Bool := bitAt e 83
/-- LEGACY. -/
def seLegacy (e : Nat) : Bool := bitAt e 84
/-- ACK_SECURE. -/
def seAckSecure (e : Nat) : Bool := bitAt e 85
/-- FCS32. -/
def seFcs32 (e : Nat) : Bool := bitAt e 86
/-- REPL. -/
def seRepl (e : Nat) : Bool := bitAt e 87
/-- ASN_NONCE. -/
def seAsnNonce (e : Nat) : Bool := bitAt e 88
/-- SHORT_ADDR. -/
def seShort (e : Nat) : Nat := seField e 8 2
/-- EUI64 as a number with its first octet most significant. -/
def seEui (e : Nat) : Nat := euiNum (seField e 0 8)
/-- KEY_SLOT. -/
def seSlot (e : Nat) : Nat := bits e 96 20
/-- SEC_LEVEL. -/
def seLevel (e : Nat) : Nat := bits e 116 3
/-- KEY_INDEX. -/
def seKeyIndex (e : Nat) : Nat := octet e 15
/-- LAST_ASN. -/
def seAsn (e : Nat) : Nat := seField e 24 5
/-- MAX_PSDU. -/
def seMax (e : Nat) : Nat := seField e 32 2

/-- Octets of the FCS of a sensor's frames. -/
def seFcs (e : Nat) : Nat := if seFcs32 e then 4 else 2

/-- The tier of a sensor entry: 1 HOT, 2 WARM, 3 COLD, 0 where it has no place. -/
def State.tierOf (s : State) (i : Nat) : Nat := match s.locOf 1 i with
  | some 0x458 => 2
  | some 0x459 => 3
  | some _ => 1
  | none => 0

/-- A sensor entry is unreachable: its channel is held in self-refresh, as one that is not READY counts too (R153, R420). -/
def State.unreachable (s : State) (i : Nat) : Bool := match s.locOf 1 i with
  | some 0x458 => !s.chServes 0
  | some 0x459 => !s.chServes 1
  | _ => false

/-- A sensor entry as it is read, its RO fields in place (Table 7.8, R279). -/
def State.sensorView (s : State) (i : Nat) : Nat :=
  let e := s.sensor i
  let b := fun (c : Bool) (n : Nat) (v : Nat) => putBit v n c
  let e1 := b (s.mac.lost.contains i) 89 (b (s.plc.pinRun.contains i || s.plc.pinStandby.contains i) 90 (b (s.hitchSensors.contains i) 91 e))
  let e2 := setBits e1 92 2 (s.tierOf i)
  seSet e2 43 1 ((s.mac.down.filter (fun d => d.sensor == i)).length)

/-- The valid entry with an address: short (2) or extended (3). -/
def State.sensorAt (s : State) (mode a : Nat) : Option Nat :=
  (s.mac.sensors.find? (fun x => seValid x.2 && (if mode = 2 then a != 0xFFFE && seShort x.2 == a else mode == 3 && seEui x.2 == a))).map
    (fun x => x.1)

/-! ## Guard time (R255) -/

/-- The guard for a drift of the far end, from the ASN of the last contact; Carand's own drift is LOCKED_DRIFT_QPPM while time is locked and
HOLDOVER_QPPM in every other state (R365, R366). -/
def State.guardTk (s : State) (lastAsn drift : Nat) : Nat :=
  let g := s.rd O.G_MAX_TK
  if lastAsn = 0 then g
  else
    let own := if s.timeState = 2 then s.rd O.LOCKED_DRIFT_QPPM else s.rd O.HOLDOVER_QPPM
    let slots := (s.lay.asn + (2 ^ 40 - lastAsn)) % 2 ^ 40
    min g (s.rd O.G_MIN_TK + ceilDiv (slots * s.slotTk * (drift + own)) 4000000)

/-- The guard of a sensor. -/
def State.sensorGuard (s : State) (e : Nat) : Nat :=
  s.guardTk (seAsn e) (if octet e 29 = 0 then s.rd O.DEFAULT_DRIFT_QPPM else octet e 29)

/-! ## Tiers (R151) -/

/-- A frame of a sensor came: PROMOTE_FRAMES within the window promote its entry one tier, unless it moved within MIN_DWELL_S. -/
def State.sensorHeard (s : State) (i : Nat) : State :=
  let w := s.rd O.PROMOTE_WINDOW_S * secTk
  let l := (lookD s.mac.heard i []).filter (fun t => decide (s.now < t + w)) ++ [s.now]
  let s1 := s.onMac (fun m => { m with heard := put m.heard i l })
  let tier := s.tierOf i
  if tier ≤ 1 ∨ l.length < s.rd O.PROMOTE_FRAMES ∨ !s.dwellPast (objKey 1 i) ∨ !s.triggerOn 4 ∨ s.forcedTier i ≠ 0 then s1
  else s1.migrateTo (objKey 1 i) (tier - 1) 0x0C 0

/-- The key a sensor's hitch needs is provisioned and, if that came after pinning ran, pinned; or its frames carry no security (R142). -/
def State.hitchKeyed (s : State) (i : Nat) : Bool :=
  let slot := seSlot (s.sensor i)
  seLevel (s.sensor i) == 0 || ((s.keySlot slot).kind != 0 && !s.cph.pinWait.contains slot)

/-- The running lay contains a hitch for a sensor, in either direction, that its key lets it use: its entry may hold C0 (R15, R142). -/
def State.hitchC0 (s : State) (i : Nat) : Bool := s.runHitches.any (fun h => h.sensor == i) && s.hitchKeyed i

/-- The class and uplink hitch of a sensor's uplink frames (R259). -/
def State.upClass (s : State) (i : Nat) : Nat × Option Nat :=
  if seClass (s.sensor i) ≠ 0 then (seClass (s.sensor i), none)
  else if s.hitchC0 i then (0, (s.hitchFor i false).map (fun h => h.num))
  else (1, none)

/-! ## Acknowledgements (R253, R254, R257) -/

/-- A PSDU with its FCS. -/
def withFcs (fcs32 : Bool) (l : List Byte) : List Byte := l ++ psduFcs fcs32 l

/-- Symbols' worth of the SHR start of a reception, as SFD_TS places it. -/
def BackFrame.shrAt (f : BackFrame) : Nat := f.rx.sfdAt - shrTk f.rx.prof

/-- The acknowledgement of a frame bound to its cell, unless the cell has no acknowledgement part (the lay may give none) or its TX_CELL entry
has come. One that the entry wants secured goes through the cipher bank, in the class of the sensor's frames. DESIGN CHOICES, notes/assumptions/23.md: that class;
the correction in µs is rounded towards zero; the DSN of an acknowledgement to a frame without one is an open value. -/
def State.bindAck (s : State) (f : BackFrame) (h : Mhr) (i : Nat) : List Job × State :=
  let e := s.sensor i
  let c := s.cell f.cell
  let ty := ceType c
  if !h.ack ∨ f.cellOf.isNone ∨ !(ty = 1 ∨ ty = 3 ∨ ty = 7) then ([], s)
  else if s.mac.ackGone.contains (f.cell, f.slotAsn) then ([], s.bump O.ACK_TOO_LATE)
  else if s.lay.asn ≠ f.slotAsn then ([], s)
  else
    let off := (s.template (ceTemplate c)).1
    let d : Int := ((off : Int) - ((f.shrAt : Int) - (f.slotAt : Int))).tdiv 200
    let corr := max (-2047) (min 2047 d)
    let lvl := if h.ver = 2 ∧ seAckSecure e then seLevel e else 0
    let fc := if seAsnNonce e then none else some (seField e 20 4)
    let (v, s0) := if h.dsn.isNone then s.free else (0, s)
    let dsn := h.dsn.getD (v % 256)
    let header := if h.ver = 2 then enhAck (s.rd O.PAN_ID) dsn h.smode h.saddr lvl (seKeyIndex e) fc corr else immAck h.ver dsn
    let plan : AckPlan :=
      { cell := f.cell, asn := f.slotAsn, num := s.mac.nextNum, header := header, psdu := if lvl = 0 then withFcs (seFcs32 e) header else [],
        profile := f.rx.profNo, fcs32 := seFcs32 e, state := if lvl = 0 then 1 else 0 }
    let s1 := s0.onMac (fun m => { m with
      nextNum := m.nextNum + 1, acks := m.acks.filter (fun a => !(a.cell == plan.cell && a.asn == plan.asn)) ++ [plan] })
    if lvl = 0 then ([], s1)
    else
      let s2 := if fc.isSome then s1.setSensor i (seSet e 20 4 (seField e 20 4 + 1)) else s1
      let (flow, s3) := s2.free
      let (cls, hitch) := s.upClass i
      s3.cphSubmit
        { op := 1, level := lvl, cls := cls, hitch := hitch, slot := seSlot e, hdr := header, text := [], tag := [],
          psduLen := header.length + jobTag 1 lvl + seFcs e, flow := flow % 65536,
          nonce := ccmNonce (euiNum (s.rd O.EUI64)) (seField e 20 4) f.slotAsn lvl (seAsnNonce e), use := .ackTx plan.num }

/-- The job of an acknowledgement ended: it is ready, or sends nothing (R295). -/
def State.ackReady (s : State) (num st : Nat) (out : List Byte) : State :=
  s.onMac (fun m => { m with acks := m.acks.map (fun a =>
    if a.num ≠ num then a
    else if st = 5 then { a with psdu := withFcs a.fcs32 (a.header ++ out), state := 1 }
    else { a with state := 2 }) })

/-! ## The checks (Table 7.5) -/

/-- The header uses something Table 7.1 marks not supported in any frame: a reserved version or address mode, a security level 1 to 3, key
identifier mode 2 or 3, a suppressed counter without the ASN in the nonce. -/
def Mhr.unsupported (h : Mhr) : Bool :=
  h.bad || h.ver == 3 || h.dmode == 1 || h.smode == 1 ||
    (h.sec && (h.level == 1 || h.level == 2 || h.level == 3 || decide (2 ≤ h.keyMode) || (h.fc.isNone && !h.asnNonce)))

/-- A frame other than an acknowledgement uses something Table 7.1 marks not supported, from a sensor entry where one is known. -/
def frameUnsupported (h : Mhr) (e : Option Nat) : Bool :=
  h.unsupported || h.ftype != 1 ||
    (h.ver != 2 && !(match e with
      | some x => seLegacy x
      | none => false))

/-- The frame is addressed to Carand or to all (check 3). -/
def State.forUs (s : State) (h : Mhr) : Bool :=
  (match h.dpan with
    | some p => p == 0xFFFF || p == s.rd O.PAN_ID
    | none => true) &&
  (if h.dmode = 2 then h.daddr == 0xFFFF || h.daddr == s.rd O.SHORT_ADDR
   else h.dmode == 3 && h.daddr == euiNum (s.rd O.EUI64))

/-- Security level and key identifier fit the entry (check 6). -/
def secFits (h : Mhr) (e : Nat) : Bool :=
  let lvl := if h.sec then h.level else 0
  lvl == seLevel e && (lvl == 0 || (decide (h.keyMode ≤ 1) && (h.keyMode == 0 || h.keyIndex == seKeyIndex e)))

/-- HASH of a PSDU (R262). -/
def frameHash (psdu : List Byte) : Nat := crc32c (psdu.map (fun b => b.toNat))

/-- A slot of an entry's duplicate cache holds a DSN and hash. -/
def dupHit (e dsn hash : Nat) : Bool :=
  (seField e 48 1 == dsn && seField e 49 4 == hash) || (seField e 53 1 == dsn && seField e 54 4 == hash)

/-- An unknown source's frame in a contention cell goes to the join path, within JOIN_RATE (R261). -/
def State.joinPath (s : State) (psdu : List Byte) (quality : Nat) : State :=
  let sec := s.uptimeMs / 1000
  let n := if s.mac.join.1 = sec then s.mac.join.2 else 0
  if s.rd O.JOIN_RATE ≤ n then s.bump O.JOIN_DROPPED
  else
    let s1 := (s.bump O.JOIN_DELIVERED).onMac (fun m => { m with join := (sec, n + 1) })
    let (r, a, s2) := s1.handItem (s.rd O.JOIN_FLOW) 3 0 [] none
    if r = 0 then s2.emit (.joinFrame (s.rd O.JOIN_FLOW) a psdu quality) else s2

/-! ## 6LoWPAN and hand-over to the router -/

/-- A datagram from a sensor goes to the router; a hitch's frame counts as carried (R34, R258). -/
def State.upDatagram (s : State) (i cls endAt : Nat) (hitch desc : Option Nat) (taints : List Nat) (d : List Byte) : State :=
  let s1 := match hitch with
    | some h => if taints.isEmpty then s.hitchCarry h else s
    | none => s
  s1.toParser { EthFrame.blank 4 (fillChecksum d) endAt with
    sensor := i, cls := cls, hitch := hitch, hint := cls, taints := taints, desc := desc }

/-- A frame of a hitch is lost at the 6LoWPAN step (R34). -/
def State.upLost (s : State) (hitch : Option Nat) (endAt : Nat) (counter : Nat) : State :=
  let s1 := s.bump counter
  match hitch.bind s.hitchNum with
  | some i => (s1.hitchCarry i.num).hitchLose i endAt
  | none => s1

/-- A fragment joins its reassembly, which completes, conflicts or finds no room (R283). -/
def State.reassemble (s : State) (i cls endAt : Nat) (hitch desc : Option Nat) (size tag off : Nat) (p : List Byte) : State :=
  let mine := fun (r : Reasm) => r.sensor == i && r.tag == tag
  let s0 := if s.mac.reasm.any (fun r => mine r && r.size != size) then
      (s.bump O.REASM_CONFLICT).onMac (fun m => { m with reasm := m.reasm.filter (fun r => !(mine r && r.size != size)) })
    else s
  let keep := fun (f : Reasm → Option Reasm) (s : State) => s.onMac (fun m => { m with
    reasm := m.reasm.filterMap (fun r => if mine r then f r else some r) })
  if size = 0 ∨ s.rd O.REASM_MAX < size then (keep (fun _ => none) s0).upLost hitch endAt O.LOWPAN_FAIL
  else
    match s0.mac.reasm.find? mine with
    | some r =>
      if r.pieces.any (fun e => e.1 == off && e.2 == p) then s0
      else if pieceConflict size r.pieces off p then (keep (fun _ => none) s0).upLost hitch endAt O.REASM_CONFLICT
      else
        let pieces := r.pieces ++ [(off, p)]
        let d := pieceRun pieces (pieces.length + 1) 0 []
        if d.length = size then (keep (fun _ => none) s0).upDatagram i cls endAt hitch desc [] d
        else keep (fun _ => some { r with pieces := pieces, at_ := s.now }) s0
    | none =>
      if size < off + p.length then s0.upLost hitch endAt O.REASM_CONFLICT
      else if 4096 ≤ s0.mac.reasm.length ∨ s.rd O.REASM_PER_SENSOR ≤ (s0.mac.reasm.filter (fun r => r.sensor == i)).length then
        s0.upLost hitch endAt O.REASM_OVERFLOW
      else if p.length = size then s0.upDatagram i cls endAt hitch desc [] p
      else s0.onMac (fun m => { m with reasm := m.reasm ++ [{ sensor := i, size := size, tag := tag, pieces := [(off, p)], at_ := s.now }] })

/-- The interface identifiers of a sensor and of Carand (R281). -/
def State.upIids (s : State) (i : Nat) : List Byte × List Byte :=
  let e := s.sensor i
  (if seShort e = 0xFFFE then iidExt (seEui e) else iidShort (seShort e), iidShort (s.rd O.SHORT_ADDR))

/-- The uncompressed datagram, or first part of one of `size`, that a sensor's payload holds. -/
def State.upPlain (s : State) (i : Nat) (size : Option Nat) (p : List Byte) : Option (List Byte) :=
  s.lowpanIn (s.upIids i).1 (s.upIids i).2 size p

/-- The 6LoWPAN step of an accepted frame (R258, check 10); `desc` the descriptor of its cipher job. -/
def State.upLowpan (s : State) (i endAt : Nat) (desc : Option Nat) (plain : List Byte) : State :=
  let (cls, hitch) := s.upClass i
  let b := beField plain 0 1
  let size := beField plain 0 2 % 2048
  let tag := beField plain 2 2
  if b / 8 = 0x18 then
    match s.upPlain i (some size) (plain.drop 4) with
    | some d => s.reassemble i cls endAt hitch desc size tag 0 d
    | none => s.upLost hitch endAt O.LOWPAN_FAIL
  else if b / 8 = 0x1C then
    let p := plain.drop 5
    let (src, dst) := s.upIids i
    let body := if seRepl (s.sensor i) then (s.iphcIn src dst (some size) p).map (fun x => x.2) else some p
    match body with
    | some d => s.reassemble i cls endAt hitch desc size tag (8 * beField plain 4 1) d
    | none => s.upLost hitch endAt O.LOWPAN_FAIL
  else match s.upPlain i none plain with
    | some d => s.upDatagram i cls endAt hitch desc [] d
    | none => s.upLost hitch endAt O.LOWPAN_FAIL

/-! ## Acceptance (R258, R264) -/

/-- The CSL anchor that a frame's CSL IE gives (R273): phase and period in units of 10 symbols of the sensor's profile. -/
def State.cslUpdate (s : State) (u : UpFrame) (e : Nat) : Nat :=
  match u.csl with
  | some (phase, period) =>
    let p := s.profile (octet e 30)
    seSet (seSet e 36 4 ((u.shrAt + fskTk p (10 * phase) - u.slotAt) % 2 ^ 32)) 34 2 period
  | none => e

/-- The start of the frame's SHR lies outside the guard about its template's offset (R256). -/
def State.outsideGuard (s : State) (u : UpFrame) (e : Nat) : Bool :=
  let off := (s.template (ceTemplate (s.cell u.cell))).1
  let g := s.sensorGuard e
  (u.ty == 1 || u.ty == 3 || u.ty == 7) && !seCsl e && (decide (u.shrAt + g < u.slotAt + off) || decide (u.slotAt + off + g < u.shrAt))

/-- The MAC payload of a frame's payload in clear: what follows its payload IEs. -/
def UpFrame.body (u : UpFrame) (clear : List Byte) : List Byte := if u.payIes then skipPayIes 64 clear else clear

/-- A frame that passed check 9 is accepted, its payload in clear (R258). -/
def State.upAccept (s : State) (u : UpFrame) (desc : Option Nat) (clear : List Byte) : State :=
  let e := s.sensor u.sensor
  let s1 := if s.outsideGuard u e then s.bump O.OUTSIDE_GUARD else s
  let s2 := if u.ty = 1 ∧ ceSensor (s.cell u.cell) ≠ u.sensor then s1.bump O.WRONG_CELL else s1
  let s3 := if seClass e = 0 ∧ !s.hitchC0 u.sensor then s2.bump O.CLASS_DEMOTED else s2
  let e1 := match u.fc with
    | some c => seSet e 16 4 c
    | none => e
  let e2 := seSet (seSet (seSet e1 24 5 u.asn) 60 2 u.rssi) 62 2 u.snr
  let e3 := match u.dsn with
    | some d => seSet (seSet (seSet e2 53 5 (seField e2 48 5)) 48 1 d) 49 4 u.hash
    | none => e2
  let s4 := ((s3.bump O.RX_ACCEPTED).setSensor u.sensor (s.cslUpdate u e3)).sensorHeard u.sensor
  if !u.routed then s4.upLowpan u.sensor u.endAt desc (u.body clear)
  else match (s4.upClass u.sensor).2 with
    | some h => s4.hitchCarry h
    | none => s4

/-- Check 9: in ASN-nonce mode the ASN must be above LAST_ASN, else the counter of a secured frame above FC_IN; a secured frame without a
counter has none that is. -/
def replayed (u : UpFrame) (e : Nat) : Bool :=
  if seAsnNonce e then decide (u.asn ≤ seAsn e)
  else u.secured && (match u.fc with
    | some c => decide (c ≤ seField e 16 4)
    | none => true)

/-- The job of a frame that reaches check 8, with its class and nonce; its FLOW is an open value (Table 8.2 names none for an uplink job). -/
def State.upJob (s : State) (u : UpFrame) (flow : Nat) : NewJob :=
  let e := s.sensor u.sensor
  let (cls, hitch) := s.upClass u.sensor
  let lvl := seLevel e
  { op := 0, level := lvl, cls := cls, hitch := hitch, slot := seSlot e, hdr := u.hdr, text := u.text, tag := u.tag,
    psduLen := u.psduLen, flow := flow, nonce := ccmNonce (seEui e) (u.fc.getD 0) u.asn lvl (seAsnNonce e), use := .rx u.num }

/-- An uplink frame stops being one in process. -/
def State.upDone (s : State) (n : Nat) : State := s.onMac (fun m => { m with up := m.up.filter (fun u => u.num != n) })

/-- A verdict of checks 8 and 9 on a frame: accepted or counted; `ok`, the job's descriptor and the payload in clear as the cipher bank gives
them. -/
def State.upJudge (s : State) (u : UpFrame) (ok : Bool) (desc : Option Nat) (clear : List Byte) : Bool × State :=
  let s1 := s.upDone u.num
  if !ok then (false, s1.bump O.TAG_FAIL)
  else if replayed u (s1.sensor u.sensor) then (false, s1.bump O.REPLAY)
  else (true, s1.upAccept u desc clear)

/-- A frame that has passed the checks up to 7 goes to the cipher bank (R257, R296). -/
def State.upStart (s : State) (u : UpFrame) : List Job × State :=
  let (flow, s1) := s.free
  s1.cphSubmit (s.upJob u (flow % 65536))

/-- The frames that waited for a frame's outcome, in order: all duplicates where it was accepted, else the first is checked as new and the
others wait for it. An unsecured frame is judged at once. -/
def State.upResolve : Nat → State → UpFrame → Bool → List Job × State
  | 0, s, _, _ => ([], s)
  | n + 1, s, u, accepted =>
    let twins := s.mac.up.filter (fun x => x.waits && x.sensor == u.sensor && x.dsn == u.dsn && x.hash == u.hash)
    match twins with
    | [] => ([], s)
    | x :: _ =>
      if accepted then (s.bump O.DUPLICATE |>.upDone x.num |> fun s1 => State.upResolve n s1 u accepted)
      else
        let s1 := s.onMac (fun m => { m with up := m.up.map (fun y => if y.num = x.num then { y with waits := false } else y) })
        if x.secured then s1.upStart { x with waits := false }
        else
          let (ok, s2) := s1.upJudge x true none x.text
          State.upResolve n s2 x ok

/-- An uplink frame's job ended (R257, R295). -/
def State.upEnded (s : State) (num st desc : Nat) (out : List Byte) : List Job × State :=
  match s.mac.up.find? (fun u => u.num == num) with
  | none => ([], s)
  | some u =>
    let (ok, s1) := s.upJudge u (st == 5) (some desc) out
    s1.upResolve 4096 u ok

/-- Early release: the whole payload of a frame is out as bittern plaintext, and a whole datagram in it goes on to the router (R260). A fragment
and a payload that does not decompress wait for the verdict, so that a failed frame counts under TAG_FAIL alone. -/
def State.upBittern (s : State) (num job : Nat) (desc : Option Nat) (clear : List Byte) : State :=
  match s.mac.up.find? (fun u => u.num == num && !u.routed) with
  | some u =>
    let p := u.body clear
    let b := beField p 0 1 / 8
    let (cls, hitch) := s.upClass u.sensor
    match (if b = 0x18 ∨ b = 0x1C then none else s.upPlain u.sensor none p) with
    | some d => (s.upDatagram u.sensor cls u.endAt hitch desc [job] d).onMac (fun m => { m with
        up := m.up.map (fun y => if y.num = num then { y with routed := true, job := job } else y) })
    | none => s
  | none => s

/-- The type of Table 7.3 that a received frame counts under: its cell's where the window that took it fits that, else SHARED_UP (R249); 0 on
CAPTURE and SPARE lanes, which belong to no cell. -/
def State.frameType (s : State) (f : BackFrame) : Nat :=
  let ty := ceType (s.cell f.cell)
  match f.role with
  | .cell _ => if [1, 2, 3, 4, 6].contains ty then ty else 3
  | .contention => if ty = 7 then 7 else 3
  | _ => 0

/-- The PHR of a frame announces an FCS of 32 bits. -/
def BackFrame.fcs32 (f : BackFrame) : Bool := match f.rx.header with
  | some (.fsk _ c _ _ _) => c
  | some (.ofdm _ _ c _) => c
  | _ => false

/-- A delivered PSDU without its FCS, where that is right. -/
def BackFrame.checked (f : BackFrame) (raw : List Byte) : Option (List Byte) :=
  let n := if f.fcs32 then 4 else 2
  let p := raw.take (raw.length - n)
  if n ≤ raw.length ∧ raw.drop (raw.length - n) = psduFcs f.fcs32 p then some p else none

/-- A PSDU whose FCS is right goes through the checks up to the cipher bank (R257). -/
def State.upReceive (s : State) (f : BackFrame) (psdu : List Byte) (quality : Nat) : List Job × State :=
  let h := parseMhr psdu
  let src := s.sensorAt h.smode h.saddr
  if frameUnsupported h (src.map s.sensor) then ([], s.bump O.FRAME_UNSUPPORTED)
  else if !s.forUs h then ([], s.bump O.NOT_FOR_US)
  else match src with
    | none =>
      let s1 := s.bump O.UNKNOWN_SOURCE
      ([], if s.frameType f = 7 ∧ s.flag O.JOIN_ENABLE then s1.joinPath psdu quality else s1)
    | some i =>
      let e := s.sensor i
      if s.unreachable i then ([], s.bump O.ENTRY_UNREACHABLE)
      else if !secFits h e then ([], s.bump O.SEC_LEVEL_MISMATCH)
      else
        let (js, s1) := s.bindAck f h i
        let hash := frameHash psdu
        let dup := match h.dsn with
          | some d => dupHit e d hash
          | none => false
        if dup then (js, s1.bump O.DUPLICATE)
        else
          let twin := h.dsn.isSome && s1.mac.up.any (fun u => u.sensor == i && u.dsn == h.dsn && u.hash == hash)
          let s2 := if h.dsn.isNone then s1.bump O.SEQ_SUPPRESSED else s1
          let payload := psdu.drop h.len
          let n := payload.length - (if seLevel e = 0 then 0 else jobTag 0 (seLevel e))
          let u : UpFrame :=
            { num := s2.mac.nextNum, sensor := i, dsn := h.dsn, hash := hash, fc := h.fc, hdr := psdu.take h.len, text := payload.take n,
              tag := payload.drop n, payIes := h.payIes, secured := seLevel e != 0, psduLen := psdu.length + (if f.fcs32 then 4 else 2),
              csl := (h.ie 0x1A).map (fun c => (leField c 0 2, leField c 2 2)),
              rssi := bits quality 64 16, snr := bits quality 96 16, ty := s.frameType f, cell := f.cell, asn := f.slotAsn, slotAt := f.slotAt,
              endAt := f.endAt, shrAt := f.shrAt, waits := twin, routed := false, job := 0 }
          let s3 := s2.onMac (fun m => { m with up := m.up ++ [u], nextNum := m.nextNum + 1 })
          let (more, s4) :=
            if twin then ([], s3)
            else if u.secured then s3.upStart u
            else
              let (ok, s5) := s3.upJudge u true none u.text
              s5.upResolve 4096 u ok
          (js ++ more, s4)

end Sys2Proof.Machine
end

