-- ==== Sys2Proof/Machine/MacDown.lean ====
section
/-!
DEFINITION. The air MAC's downlink (07, §5 to §8): hand-over and fragments, completion records (Table 7.6), attempts and their judgement (R267
to R269), backoff, lifetimes (R270), what a TX cell sends (R251, R266, R274 to R276), and the sensor commands (Table 7.9).
-/
namespace Sys2Proof.Machine

/-! ## Order and binding (R251, R266) -/

/-- A datagram of the downlink replaced. -/
def State.setDg (s : State) (d : Datagram) : State :=
  s.onMac (fun m => { m with down := m.down.map (fun x => if x.id = d.id then d else x) })

/-- The datagram that leaves first of a list in arrival order: the highest class, then the oldest. -/
def bestDg (l : List Datagram) : Option Datagram :=
  l.foldl (fun b d => match b with
    | none => some d
    | some x => if d.cls < x.cls then some d else some x) none

/-- A datagram is the next of its sensor to leave: class order, then arrival (R266). -/
def State.isHead (s : State) (d : Datagram) : Bool :=
  (bestDg (s.mac.down.filter (fun x => x.sensor == d.sensor))).any (fun x => x.id == d.id)

/-- No attempt of a datagram is open. -/
def State.onGround (s : State) (d : Datagram) : Bool := !s.mac.flights.any (fun f => f.id == d.id)

/-- Hitch datagrams that are ready for air (R24, R30): the whole PSDU stands in the TX buffer, bound to the hitch's next owned cell, before which
no other datagram of the sensor leaves. -/
def State.dlBind (s : State) : State :=
  (s.mac.down.filter (fun d => d.hitch.isSome && !d.aired && s.isHead d && s.onGround d && (match d.psdus with
    | p :: _ => p.state == 1
    | [] => false))).foldl (fun s d =>
      let s1 := s.setDg { d with aired := true }
      match d.hitch.bind s.hitchNum with
      | some i => s1.hitchEnd i d.at_ s1.now 0
      | none => s1) s

/-! ## Completion (R272) -/

/-- A datagram leaves the air MAC: its record in the ring and to its flow, its jobs that have not started cancelled. A hitch's datagram that
never was ready for air is lost (R34). -/
def State.dlComplete (s : State) (d : Datagram) (cause : Nat) : State :=
  let rec_ := d.id % 2 ^ 32 + d.sensor * 2 ^ 32 + d.cls * 2 ^ 50 + cause * 2 ^ 56 + min 255 d.total * 2 ^ 64 + min 255 d.attempts * 2 ^ 72 +
    s.lay.asn * 2 ^ 80
  let s0 := s.jobCancel (fun u => d.psdus.any (fun p => u == .tx p.num))
  let s1 := if s.mac.ring.length < 1024 then s0 else s0.raiseEv O.COMPLETION_STATUS 1
  let s2 := (s1.onMac (fun m => { m with ring := pushRing 1024 m.ring rec_, down := m.down.filter (fun x => x.id != d.id) })).raiseEv
    O.COMPLETION_STATUS 0
  let s3 := if cause = 2 then s2.raiseEv O.COMPLETION_STATUS 2 else s2
  let s4 := match d.hitch.bind s3.hitchNum with
    | some i => if d.aired then s3 else s3.hitchLose i d.at_
    | none => s3
  let (_, _, s5) := s4.handItem d.flow 4 0 [] none
  (s5.emit (.dlCompletion d.flow rec_)).dlBind

/-- LIFETIME of a class in ticks (R270). -/
def State.lifetime (s : State) (cls : Nat) : Nat :=
  msTk * s.rd (match cls with
    | 0 => O.LIFETIME_C0_MS
    | 1 => O.LIFETIME_C1_MS
    | 2 => O.LIFETIME_C2_MS
    | _ => O.LIFETIME_C3_MS)

/-! ## Hand-over (R265, R282) -/

/-- The interface identifiers of a sensor entry (R281). -/
def seIids (e : Nat) : List (List Byte) := iidExt (seEui e) :: (if seShort e = 0xFFFE then [] else [iidShort (seShort e)])

/-- The sensor an IPv6 destination names: by its interface identifier, else as the address that a sensor's context makes of the sensor's
identifier (R265, R281). -/
def State.dlSensor (s : State) (dst : List Byte) : Option Nat :=
  let valid := s.mac.sensors.filter (fun x => seValid x.2)
  let whole := fun (x : Nat × Nat) =>
    let c := s.ctx (octet x.2 31)
    c.1 && (seIids x.2).any (fun i => overlay c.2.2 c.2.1 (List.replicate 8 0 ++ i) == dst)
  ((valid.find? (fun x => (seIids x.2).contains (dst.drop 8))).orElse (fun _ => valid.find? whole)).map (fun x => x.1)

/-- The header of the next data frame to a sensor. -/
def State.dlHeader (s : State) (e : Nat) : List Byte :=
  let short := seShort e != 0xFFFE
  dataHeader (s.rd O.PAN_ID) (octet e 42) (if short then 2 else 3) (if short then seShort e else seEui e) (s.rd O.SHORT_ADDR) (seLevel e)
    (seKeyIndex e) (if seAsnNonce e then none else some (seField e 20 4)) true

/-- A PSDU of a payload to a sensor (R251): DSN_OUT and FC_OUT advance; it is to be protected unless its level is 0. -/
def State.dlPsdu (s : State) (i : Nat) (text : List Byte) : OutPsdu × State :=
  let e := s.sensor i
  let lvl := seLevel e
  let hdr := s.dlHeader e
  let p : OutPsdu :=
    { num := s.mac.nextNum, dsn := octet e 42, header := hdr, text := text, level := lvl, state := if lvl = 0 then 1 else 3,
      fc := seField e 20 4, byAsn := lvl != 0 && seAsnNonce e, asn := 0, fcs32 := seFcs32 e,
      air := if lvl = 0 then withFcs (seFcs32 e) (hdr ++ text) else [] }
  let e1 := setOctet e 42 (octet e 42 + 1)
  let e2 := if lvl = 0 ∨ seAsnNonce e then e1 else seSet e1 20 4 (seField e 20 4 + 1)
  (p, (s.onMac (fun m => { m with nextNum := m.nextNum + 1 })).setSensor i e2)

/-- The PSDUs of a datagram's payloads, in order. -/
def State.dlPsdus (s : State) (i : Nat) (texts : List (List Byte)) : List OutPsdu × State :=
  texts.foldl (fun (a : List OutPsdu × State) t =>
    let (p, s1) := a.2.dlPsdu i t
    (a.1 ++ [p], s1)) ([], s)

/-! ## Protection (R251, R296) -/

/-- A cell may carry a datagram (R266): a hitch's own cell, or for another datagram a cell of its sensor that no other sensor's hitch owns.
Class-0 datagrams go in hitch cells only (Table 1.2). -/
def State.cellTakes (s : State) (cell : Nat) (hitch : Option Nat) (d : Datagram) : Bool :=
  let e := s.cell cell
  let csl : Bool := d.sensor != 0x3FFFF && seCsl (s.sensor d.sensor)
  (match hitch.bind s.hitchNum with
   | some h => d.sensor == h.sensor && (d.hitch.isNone || d.hitch == some h.num)
   | none => d.hitch.isNone) &&
  (match ceType e with
   | 2 => d.sensor == ceSensor e
   | 4 => !csl
   | 6 => csl
   | _ => false)

/-- The TX_CELL entries of the running section at a slot position: tick, cell and tag. -/
def State.txCellsAt (s : State) (pos : Nat) : List (Nat × Nat × Option Nat) :=
  [1, 5, 9].flatMap (fun id => match strandOf s.runWords s.runSec id with
    | some st => ((st.inSlot pos).filter (fun e => eKind e.w == 1 && eAction e.w == 1)).map (fun e => (eTick e.w, bits e.w 0 16, e.tag))
    | none => [])

/-- The ASN of the next slot with a TX cell that may carry a datagram, from now on for a slotframe. -/
def State.nextTxAsn (s : State) (d : Datagram) : Option Nat :=
  (List.range (s.frameLen + 1)).findSome? (fun k =>
    if (s.txCellsAt ((s.slotPos + k) % s.frameLen)).any (fun c =>
        (k != 0 || decide (s.now < s.lay.slotAt + c.1)) && s.cellTakes c.2.1 c.2.2 d) then some ((s.lay.asn + k) % 2 ^ 40)
    else none)

/-- The cipher bank is to protect a PSDU of a datagram, under an ASN where the sensor's nonce holds that of the slot of transmission. -/
def State.dlProtect (s : State) (id num asn : Nat) : List Job × State :=
  match s.mac.down.find? (fun d => d.id == id) with
  | none => ([], s)
  | some d =>
    match d.psdus.find? (fun p => p.num == num) with
    | none => ([], s)
    | some p =>
      let e := s.sensor d.sensor
      let s0 := s.jobCancel (fun u => u == .tx num)
      let new := s0.mac.nextNum
      let s1 := (s0.onMac (fun m => { m with nextNum := m.nextNum + 1 })).setDg { d with
        psdus := d.psdus.map (fun q => if q.num = num then { q with num := new, state := 0, asn := asn } else q) }
      s1.cphSubmit
        { op := 1, level := p.level, cls := d.cls, hitch := d.hitch, slot := seSlot e, hdr := p.header, text := p.text, tag := [],
          psduLen := p.header.length + p.text.length + jobTag 1 p.level + seFcs e, flow := d.flow,
          nonce := ccmNonce (euiNum (s.rd O.EUI64)) p.fc asn p.level p.byAsn, use := .tx new }

/-- The PSDUs that leave next are protected where they are not: those yet to be, and those whose nonce holds the ASN of neither the current
slot nor the slot of their next cell. -/
def State.dlRenew (s : State) : List Job × State :=
  (s.mac.down.map (fun d => d.id)).foldl (fun (a : List Job × State) id =>
    match (a.2.mac.down.find? (fun d => d.id == id)).filter (fun d => a.2.isHead d && a.2.onGround d) with
    | none => a
    | some d =>
      match d.psdus with
      | [] => a
      | p :: _ =>
        let due := if p.byAsn then a.2.nextTxAsn d else some 0
        let stale : Bool := p.byAsn && decide (p.state ≤ 1) && p.asn != a.2.lay.asn && due != some p.asn
        match due with
        | some asn =>
          if p.state = 3 ∨ stale then
            let (js, s1) := a.2.dlProtect id p.num asn
            (a.1 ++ js, s1)
          else a
        | none => a) ([], s)

/-- A protecting job ended (R251): the PSDU can be bound, or sends nothing (R295). -/
def State.txReady (s : State) (num st : Nat) (out : List Byte) : State :=
  match s.mac.down.find? (fun d => d.psdus.any (fun p => p.num == num)) with
  | some d =>
    (s.setDg { d with psdus := d.psdus.map (fun p =>
      if p.num ≠ num then p
      else if st = 5 then { p with state := 1, air := withFcs p.fcs32 (p.header ++ out) }
      else { p with state := 2 }) }).dlBind
  | none => s

/-- A radio-side datagram from the router (R265, R282): dropped with its completion, or queued with its PSDUs; `at_` its starting point. -/
def State.dlQueue (s : State) (i : Option Nat) (d0 : Datagram) (dst : List Byte) : List Job × State :=
  match i with
  | none =>
    let own := iidShort (s.rd O.SHORT_ADDR)
    match s.lowpanOut own (iidShort 0xFFFF) 2036 (d0.id % 65536) false d0.data with
    | some [t] =>
      let (dsn, s1) := s.free
      let hdr := dataHeader (s.rd O.PAN_ID) (dsn % 256) 2 0xFFFF (s.rd O.SHORT_ADDR) 0 0 none false
      let p : OutPsdu :=
        { num := s1.mac.nextNum, dsn := dsn % 256, header := hdr, text := t, level := 0, state := 1, fc := 0, byAsn := false, asn := 0,
          fcs32 := false, air := withFcs false (hdr ++ t) }
      ([], s1.onMac (fun m => { m with nextNum := m.nextNum + 1, down := m.down ++ [{ d0 with psdus := [p], total := 1 }] }))
    | _ => ([], (s.bump O.DL_TOO_BIG).dlComplete d0 5)
  | some i =>
    let e := s.sensor i
    let d1 := { d0 with sensor := i }
    if s.unreachable i then ([], s.dlComplete d1 7)
    else if s.rd O.DL_QUEUE_MAX ≤ (s.mac.down.filter (fun d => d.sensor == i)).length then
      ([], (s.bump O.DL_QUEUE_FULL).dlComplete d1 4)
    else
      let lim := match d1.hitch.bind s.hitchNum with
        | some h => min (seMax e) h.lMax
        | none => seMax e
      let room := lim - (s.dlHeader e).length - jobTag 1 (seLevel e) - seFcs e
      let dstIid := if dst.drop 8 == iidExt (seEui e) || seShort e == 0xFFFE then iidExt (seEui e) else iidShort (seShort e)
      match s.lowpanOut (iidShort (s.rd O.SHORT_ADDR)) dstIid room (seField e 44 2) (seRepl e) d1.data with
      | none => ([], (s.bump O.DL_TOO_BIG).dlComplete d1 5)
      | some ts =>
        let s1 := if ts.length = 1 then s else s.setSensor i (seSet e 44 2 (seField e 44 2 + 1))
        let d2 := { d1 with total := ts.length, expires := s.now + s.lifetime d1.cls }
        let (ps, s2) := s1.dlPsdus i ts
        let s3 := s2.onMac (fun m => { m with down := m.down ++ [{ d2 with psdus := ps, aired := ts.length != 1 }] })
        let s4 := match d2.hitch.bind s3.hitchNum with
          | some h => if ts.length = 1 then s3.dlBind else s3.hitchCause h d2.at_ 8
          | none => s3
        if seLevel e = 0 then ([], s4)
        else if seAsnNonce e then s4.dlRenew
        else ps.foldl (fun (a : List Job × State) p =>
          let (js, s5) := a.2.dlProtect d2.id p.num 0
          (a.1 ++ js, s5)) ([], s4)

/-! ## Attempts (R267 to R269) -/

/-- The head PSDU of a datagram has used its last try: the datagram ends NO_ACK (R269). -/
def State.dlTried (s : State) (d : Datagram) : State :=
  if s.rd O.MAX_RETRIES < d.tries then (s.bump O.NO_ACK).dlComplete d 1 else s.setDg d

/-- Backoff of a sensor in shared cells after a failed attempt there (IEEE 802.15.4-2020 TSCH CSMA-CA). -/
def State.backOff (s : State) (sensor : Nat) : State :=
  let be := match s.mac.backoff.find? (fun x => x.1 == sensor) with
    | some x => min (s.rd O.MAX_BE) (x.2.1 + 1)
    | none => s.rd O.MIN_BE
  let (r, s1) := s.draw
  s1.onMac (fun m => { m with backoff := m.backoff.filter (fun x => x.1 != sensor) ++ [(sensor, be, r % 2 ^ be)] })

/-- An attempt is judged: the next fragment or the end of the datagram, or a retry. -/
def State.flightJudge (s : State) (f : Flight) : State :=
  let s0 := s.onMac (fun m => { m with flights := m.flights.filter (fun x => !(x.id == f.id && x.cell == f.cell && x.asn == f.asn)) })
  let ok := f.acked && !f.cut
  let s1 := if !f.shared ∨ f.sensor = 0x3FFFF then s0
    else if ok then s0.onMac (fun m => { m with backoff := m.backoff.filter (fun x => x.1 != f.sensor) }) else s0.backOff f.sensor
  match s1.mac.down.find? (fun d => d.id == f.id) with
  | none => s1
  | some d =>
    if d.sensor = 0x3FFFF then (if f.cut then (s1.bump O.NO_ACK).dlComplete d 1 else s1.dlComplete d 8)
    else if !ok then s1.dlTried d
    else
      let d1 := { d with psdus := d.psdus.drop 1, tries := 0 }
      if d1.psdus.isEmpty then s1.dlComplete d1 0 else s1.setDg d1

/-- The attempts of a cell of a slot are judged. -/
def State.cellJudge (s : State) (cell asn : Nat) : State :=
  (s.mac.flights.filter (fun f => f.cell == cell && f.asn == asn)).foldl State.flightJudge s

/-- A received frame of a cell of a slot is still on its way: in a back end, or an acknowledgement in the cipher bank. -/
def State.cellPending (s : State) (cell asn : Nat) : Bool := s.inBack cell asn || s.mac.ackUp.any (fun a => a.cell == cell && a.asn == asn)

/-- Attempts still open when their slot ends are judged, but for those of a cell whose received frame is still on its way. -/
def State.slotJudge (s : State) : State := (s.mac.flights.filter (fun f => !s.cellPending f.cell f.asn)).foldl State.flightJudge s

/-- The attempts of a cell are judged once its windows have closed and no frame of it is on its way. -/
def State.cellDone (s : State) (cell asn : Nat) : State :=
  if s.cellPending cell asn ∨ (s.lay.asn = asn ∧ s.laneInCell cell) then s else s.cellJudge cell asn

/-- An acknowledgement fits the sensor's entry: secured at its level with its key index where ACK_SECURE asks for it, else not secured. -/
def ackFits (h : Mhr) (e : Nat) : Bool :=
  let lvl := if h.sec then h.level else 0
  lvl == (if seAckSecure e then seLevel e else 0) && (lvl == 0 || h.keyMode == 0 || h.keyIndex == seKeyIndex e)

/-- A valid acknowledgement of an attempt (R267, R255): a contact, and success unless its datagram has ended; LATE_ACK where that was by its
lifetime (R270). -/
def State.ackReceived (s : State) (x : Flight) : State :=
  let s1 := s.setSensor x.sensor (seSet (s.sensor x.sensor) 24 5 x.asn)
  (if x.expired then s1.bump O.LATE_ACK else s1).flightJudge { x with acked := true }

/-- A secured acknowledgement goes to the cipher bank, in the class of its datagram (DESIGN CHOICE, notes/assumptions/24.md). -/
def State.ackVerify (s : State) (x : Flight) (h : Mhr) (psdu : List Byte) (fcs : Nat) : List Job × State :=
  let e := s.sensor x.sensor
  let (flow, s1) := s.free
  let payload := psdu.drop h.len
  let n := payload.length - jobTag 0 h.level
  let d := s.mac.down.find? (fun d => d.id == x.id)
  let num := s.mac.nextNum
  (s1.onMac (fun m => { m with
    nextNum := m.nextNum + 1, ackUp := m.ackUp ++ [{ num := num, id := x.id, cell := x.cell, asn := x.asn }] })).cphSubmit
    { op := 0, level := h.level, cls := (d.map (fun d => d.cls)).getD 3, hitch := d.bind (fun d => d.hitch), slot := seSlot e,
      hdr := psdu.take h.len, text := payload.take n, tag := payload.drop n, psduLen := psdu.length + fcs, flow := flow % 65536,
      nonce := ccmNonce (seEui e) (h.fc.getD 0) x.asn h.level (seAsnNonce e), use := .ackRx num }

/-- A frame of acknowledgement type in the acknowledgement part of a cell (Table 7.1, R267). -/
def State.ackFrame (s : State) (f : BackFrame) (h : Mhr) (psdu : List Byte) : List Job × State :=
  if h.unsupported then ([], s.bump O.FRAME_UNSUPPORTED)
  else if h.dmode ≠ 0 ∧ !s.forUs h then ([], s.bump O.NOT_FOR_US)
  else match s.mac.flights.find? (fun x => some x.cell == f.cellOf && x.asn == f.slotAsn && h.dsn == some x.dsn && x.sensor != 0x3FFFF) with
    | some x =>
      if !ackFits h (s.sensor x.sensor) then ([], s)
      else if h.sec then s.ackVerify x h psdu (if f.fcs32 then 4 else 2)
      else ([], s.ackReceived x)
    | none => ([], s)

/-- The cipher bank's verdict on an acknowledgement (R295): a valid one ends its attempt well; then the attempts of its cell are judged, and
what leaves next is protected. -/
def State.ackVerdict (s : State) (num : Nat) (ok : Bool) : List Job × State :=
  match s.mac.ackUp.find? (fun a => a.num == num) with
  | none => ([], s)
  | some a =>
    let s1 := s.onMac (fun m => { m with ackUp := m.ackUp.filter (fun x => x.num != num) })
    let s2 := match s1.mac.flights.find? (fun x => ok && x.id == a.id && x.cell == a.cell && x.asn == a.asn) with
      | some x => s1.ackReceived x
      | none => s1
    (s2.cellDone a.cell a.asn).dlRenew

/-- A lifetime runs out (R270): a transmission already started runs on. -/
def State.dlExpire (s : State) (d : Datagram) : State :=
  ((s.bump O.UPPER_TIMEOUT).onMac (fun m => { m with
    flights := m.flights.map (fun f => if f.id = d.id then { f with expired := true } else f) })).dlComplete d 2

/-! ## What a TX cell sends (R251, R266) -/

/-- A datagram's head PSDU is bound at a TX entry: through the cipher bank, for this slot, with no attempt open. One whose protection failed is
bound too, and sends nothing (R295). -/
def State.dgReady (s : State) (d : Datagram) : Bool :=
  s.onGround d && (match d.psdus with
   | p :: _ => (p.state == 1 || p.state == 2) && (!p.byAsn || p.asn == s.lay.asn)
   | [] => false)

/-- Waiting sensors of a shared cell count it off their backoff. -/
def State.backoffPass (s : State) : State :=
  s.onMac (fun m => { m with backoff := m.backoff.map (fun x =>
    if x.2.2 ≠ 0 ∧ s.mac.down.any (fun d => d.sensor == x.1) then (x.1, x.2.1, x.2.2 - 1) else x) })

/-- The datagram bound to a cell at its TX entry (R266): of the sensors that the cell may serve now, each with the datagram it has first; in a
shared cell the oldest, C0 first, else by class, then age. -/
def State.cellDg (s : State) (x cell : Nat) (hitch : Option Nat) : Option Datagram :=
  let ty := ceType (s.cell cell)
  let l := s.mac.down.filter (fun d => s.isHead d && s.dgReady d && s.cellTakes cell hitch d && (match ty with
    | 4 => !s.mac.backoff.any (fun b => b.1 == d.sensor && b.2.2 != 0)
    | 6 => seField (s.sensor d.sensor) 40 2 == s.hopChannel x
    | _ => true))
  if ty = 4 then (l.find? (fun d => d.cls == 0)).orElse (fun _ => l.head?) else bestDg l

/-- A transmission to come: profile, MCS, coding, the wake-up frames, the main PSDU, and the tick of its end. -/
structure TxPlan where
  profile : Nat
  mcs : Nat
  coded : Bool
  psdus : List (List Byte)
  ends : Nat

/-- The MCS the air MAC chooses for an OFDM frame: any of the profile's (R214). -/
def State.pickMcs (s : State) (p : Nat) : Nat × State :=
  if prMode p ≠ 2 then (0, s)
  else
    let (v, s1) := s.free
    (bits p 13 3 + v % (bits p 16 3 + 1 - bits p 13 3), s1)

/-- Whether the air MAC asks for coding of an FSK frame whose profile has a scheme (R214); the manual does not say when it does. -/
def State.pickCoding (s : State) (p : Nat) : Bool × State :=
  if prFsk p ∧ bits p 10 2 ≠ 0 then
    let (v, s1) := s.free
    (v % 2 == 1, s1)
  else (false, s)

/-- A single frame sent in a profile from the SHR start on; its PSDU with FCS. -/
def State.planOne (s : State) (x profile : Nat) (psdu : List Byte) : TxPlan × State :=
  let p := s.profile profile
  let (mcs, s1) := s.pickMcs p
  let (coded, s2) := s1.pickCoding p
  ({ profile := profile, mcs := mcs, coded := coded, psdus := [psdu], ends := s.txFirst x + airTk p mcs coded psdu.length }, s2)

/-- Octets on the air of a wake-up frame: the fewest that fill whole units of 10 symbols (R274). -/
def wakeOctets (p : Nat) : Nat := ceilDiv (prPreamble p + sfdOctets p + 15) 5 * 5

/-- Ticks and units of 10 symbols of a wake-up frame. -/
def wakeTk (p : Nat) : Nat × Nat := (fskTk p (wakeOctets p * 8 / prBps p), wakeOctets p * 8 / prBps p / 10)

/-- The number of wake-up frames of a train that starts at tick `S` (R275); none where the sensor has no anchor. -/
def State.cslTrain (s : State) (e S : Nat) : Option Nat :=
  let p := s.profile (octet e 30)
  let per := fskTk p (10 * seField e 34 2)
  let g := s.sensorGuard e
  let base : Int := (s.lay.slotAt : Int) + ((seField e 36 4 : Nat) : Int) - (((s.lay.asn - seAsn e) * s.slotTk : Nat) : Int)
  if per = 0 ∨ !prFsk p then none
  else
    let k : Int := max 0 (((S + g : Nat) : Int) - base + ((per : Nat) : Int) - 1) / ((per : Nat) : Int)
    let ts := base + k * ((per : Nat) : Int)
    some (ceilDiv ((ts + ((g : Nat) : Int) - ((S : Nat) : Int)).toNat) (wakeTk p).1 + 1)

/-- The train and payload of a CSL datagram in a cell, where they fit it. -/
def State.planCsl (s : State) (x closes : Nat) (d : Datagram) (psdu : List Byte) : Option TxPlan × State :=
  let e := s.sensor d.sensor
  let p := s.profile (octet e 30)
  let (w, u) := wakeTk p
  match s.cslTrain e (s.txFirst x) with
  | none => (none, s)
  | some n =>
    let ends := s.txFirst x + n * w + airTk p 0 false psdu.length
    if s.rd O.CSL_MAX_WAKEUPS < n ∨ closes < s.txDone x ends then (none, s)
    else
      let (dsn, s1) := s.free
      (some { profile := octet e 30, mcs := 0, coded := false, ends := ends,
              psdus := (List.range n).map (fun k =>
                withFcs false (wakeFrame (s.rd O.PAN_ID) (dsn % 256) (seShort e) ((n - 1 - k) * u))) ++ [psdu] }, s1)

/-- A profile for frames to all sensors, of which the manual names none: one of the SUN profiles in use. -/
def State.anyProfile (s : State) : Nat × State :=
  let l := (List.range 64).filter (fun n => decide (prMode (s.profile n) ≤ 2))
  let (v, s1) := s.free
  (l.getD (v % max 1 l.length) 0, s1)

/-- The bound PSDU of a cell is missed (R268): a first attempt stands, a retry is used as though it had been sent without acknowledgement. A
PSDU whose protection failed is protected again for its next cell (DESIGN CHOICE, notes/assumptions/24.md). -/
def State.txMissed (s : State) (shared : Bool) (d : Datagram) : State :=
  let s1 := s.bump O.TX_MISSED_CELL
  let again := fun (l : List OutPsdu) => match l with
    | p :: r => if p.state = 2 then { p with state := 3 } :: r else l
    | [] => []
  let d1 := { d with psdus := again d.psdus }
  if d.tries = 0 then s1.setDg d1
  else
    let s2 := (s1.bump O.RETRIES).dlTried { d1 with tries := d.tries + 1 }
    if shared ∧ d.sensor ≠ 0x3FFFF then s2.backOff d.sensor else s2

/-- The TX_CELL entry of an acknowledgement part comes: the acknowledgement bound to it, and later ones are too late (R253). One that is still in
the cipher bank then is too late as well, and one that failed there misses its cell (R295); the first is a DESIGN CHOICE, notes/assumptions/23.md. -/
def State.ackCome (s : State) (cell : Nat) : Option AckPlan × State :=
  let mine := fun (a : AckPlan) => a.cell == cell && a.asn == s.lay.asn
  (s.mac.acks.find? mine, s.onMac (fun m => { m with
    ackGone := m.ackGone ++ [(cell, s.lay.asn)], acks := m.acks.filter (fun a => !mine a) }))

/-- A TX_CELL entry that the lay skips, or whose transceiver is off: the PSDU that would be bound misses its cell (R268). -/
def State.txSkipped (s : State) (x cell : Nat) (hitch : Option Nat) : State :=
  let ty := ceType (s.cell cell)
  if ty = 1 ∨ ty = 3 ∨ ty = 7 then
    let (a, s1) := s.ackCome cell
    if a.isSome then s1.bump O.TX_MISSED_CELL else s1
  else if ty = 5 then s.bump O.TX_MISSED_CELL
  else match s.cellDg x cell hitch with
    | some d =>
      if ty ≠ 6 ∨ (s.cslTrain (s.sensor d.sensor) (s.txFirst x)).any (fun n => decide (n ≤ s.rd O.CSL_MAX_WAKEUPS)) then s.txMissed (ty == 4) d
      else s
    | none => s

/-- The attempt of a datagram begins. -/
def State.dlStart (s : State) (x cell : Nat) (d : Datagram) : State :=
  let f : Flight :=
    { cell := cell, asn := s.lay.asn, trx := x, sensor := d.sensor, id := d.id, dsn := (d.psdus.head?.map (fun p => p.dsn)).getD 0,
      shared := ceType (s.cell cell) == 4, cut := false, acked := false, expired := false }
  let s1 := (s.bump O.TX_DATA).setDg { d with attempts := d.attempts + 1, tries := d.tries + 1 }
  (if d.tries = 0 then s1 else s1.bump O.RETRIES).onMac (fun m => { m with flights := m.flights ++ [f] })

/-- A transmission starts where the checks that are left let it (R185). -/
def State.txGo (s : State) (x cell : Nat) (hitch : Option Nat) (closes : Nat) (may : Bool) (p : TxPlan) : Bool × State :=
  let sb := s.subBand x (s.carrier x)
  let (room, s1) := s.txRoom x (s.txFirst x) p.ends closes sb
  if may && room then
    (true, (s1.txBegin x (s1.txFirst x) p.ends sb cell hitch false [x] 0).emit (.airTx x (s1.txFirst x) (s1.carrier x) (s1.txDrive x)
      (s1.firSet x p.profile) p.profile p.mcs p.coded p.psdus))
  else (false, s1)

/-- What a TX cell does with the PSDU bound to it (Tables 7.2 and 7.3); `may` where the transceiver may transmit. -/
def State.txCellRun (s : State) (x cell : Nat) (hitch : Option Nat) (closes : Nat) (may : Bool) : State :=
  let ty := ceType (s.cell cell)
  if ty = 1 ∨ ty = 3 ∨ ty = 7 then
    let (a, s1) := s.ackCome cell
    match a with
    | none => s1
    | some a =>
      if a.state = 0 then s1.bump O.ACK_TOO_LATE
      else if a.state = 2 then s1.bump O.TX_MISSED_CELL
      else
        let (p, s2) := s1.planOne x a.profile a.psdu
        let (ok, s3) := s2.txGo x cell hitch closes may p
        if ok then s3.bump O.ACKS_SENT else s3.bump O.TX_MISSED_CELL
  else if ty = 5 then
    let (bsn, s1) := s.free
    let (n, s2) := s1.anyProfile
    let (p, s3) := s2.planOne x n (withFcs false (s2.ebFrame s2.lay.asn (bsn % 256)))
    let (ok, s4) := s3.txGo x cell hitch closes may p
    if ok then s4.bump O.EB_SENT else s4.bump O.TX_MISSED_CELL
  else if ty = 2 ∨ ty = 4 ∨ ty = 6 then
    let s0 := if ty = 4 then s.backoffPass else s
    match s.cellDg x cell hitch with
    | none => s0
    | some d =>
      match d.psdus.head? with
      | none => s0
      | some q =>
        if q.state = 2 then s0.txMissed (ty == 4) d else
        let e := s0.sensor d.sensor
        let (plan, s1) := if ty = 6 then s0.planCsl x closes d q.air
          else
            let (n, s1) := if d.sensor = 0x3FFFF then s0.anyProfile else (octet e 30, s0)
            let (p, s2) := s1.planOne x n q.air
            (some p, s2)
        match plan with
        | none => s1.bump O.CSL_NO_FIT
        | some p =>
          let (ok, s2) := s1.txGo x cell hitch closes may p
          if !ok then s2.txMissed (ty == 4) d
          else
            let s3 := s2.dlStart x cell d
            if ty = 6 then s3.bump O.CSL_TRAINS else s3
  else s

/-! ## Sensor commands (R278, Tables 7.9 and 7.10) -/

/-- A field of a sensor entry lies outside its range. -/
def sensorBad (e : Nat) : Bool :=
  (seLevel e != 0 && decide (seLevel e < 4)) || decide (63 < octet e 30) || decide (15 < octet e 31) ||
    !decide (127 ≤ seMax e ∧ seMax e ≤ 2047) || decide (1023 < seField e 40 2)

/-- Bits of an entry that writes ignore: ENTRY_LOST, PINNED, HITCH, TIER, reserved bits and DL_QUEUED. -/
def sensorClean (e : Nat) : Nat := seSet (seSet (setBits (setBits e 89 7 0) 119 1 0) 43 1 0) 46 2 0

/-- Another valid entry holds the EUI64 or the short address of an entry. -/
def State.addressTaken (s : State) (i : Option Nat) (e : Nat) : Bool :=
  s.mac.sensors.any (fun x => some x.1 != i && seValid x.2 && (seEui x.2 == seEui e || (seShort e != 0xFFFE && seShort x.2 == seShort e)))

/-- REGISTERED after any change of the table. -/
def State.countSensors (s : State) : State := s.wr O.REGISTERED ((s.mac.sensors.filter (fun x => seValid x.2)).length)

/-- A frame of a sensor lies between delivery and acceptance or is in transmission. -/
def State.sensorBusy (s : State) (i : Nat) : Bool :=
  s.mac.up.any (fun u => u.sensor == i) || s.mac.flights.any (fun f => f.sensor == i)

/-! ## Pins (R141, R142, R305) -/

/-- The key slots that the hitches of the held images pin, each with a hitch for its journal entry: those of the registered sensors, and those
of the used ply links where a hitch has PLY. -/
def State.pinSlots (s : State) : List (Nat × Nat) :=
  let hs := s.heldImages.flatMap allHitches
  let t1 := (hs.filter (fun i => seValid (s.sensor i.sensor))).foldl (fun t i => put t (seSlot (s.sensor i.sensor)) i.num) []
  match hs.find? (fun i => i.ply) with
  | none => t1
  | some i => (List.range 16).foldl (fun t k =>
      if bits (s.rd O.PLY_LINKS) (128 * k) 8 = 0 then t else put t (bits (s.rd O.PLY_KEY_SLOTS) (32 * k) 20) i.num) t1

/-- The entry of a hitch's sensor goes to a pan where it is in DRAM; a migration of it to DRAM that has begun is given up (R140, R141). -/
def State.pinEntry (s : State) (i : Nat) : State :=
  let s1 := s.onPlc (fun p => { p with
    migrations := p.migrations.filter (fun m => !(m.kind == 1 && m.obj == i && decide (0x450 ≤ m.dst))) })
  match s1.locOf 1 i with
  | some loc => if 0x440 ≤ loc ∧ loc ≤ 0x44F then s1 else s1.migrateTo (objKey 1 i) 1 0x13 0
  | none => s1

/-- The images held, or what they name, have changed: the keys of newly held sensors are pinned and their entries moved into a pan; keys
no longer held are unpinned. -/
def State.pinsNow (s : State) : State :=
  let run := if s.bootLay then [] else hitchSensorsOf s.runWords
  let by_ := match s.standbyWords with
    | some ws => hitchSensorsOf ws
    | none => []
  let slots := s.pinSlots
  let new := slots.map (fun e => e.1)
  let old := s.cph.pinned
  let there := fun (n : Nat) => (s.keySlot n).kind != 0
  let s1 := s.onPlc (fun p => { p with pinRun := run, pinStandby := by_ })
  let s2 := (old.filter (fun n => !new.contains n && there n)).foldl (fun s n =>
    s.journal s.lay.asn 0x13 7 0 noId noId noId n 5 0) s1
  let s3 := (slots.filter (fun e => !old.contains e.1 && there e.1)).foldl (fun s e =>
    s.journal s.lay.asn 0x13 6 0 noId noId noId e.1 5 e.2) s2
  let s4 := (sortNub (run ++ by_)).foldl State.pinEntry s3
  if old = new then s4 else s4.setPins new

/-- The pins follow the entry of a sensor that a hitch names (R141). -/
def State.pinSensor (s : State) (i : Nat) : State := if s.hitchSensors.contains i then s.pinsNow else s

/-- A sensor entry is stored. -/
def State.sensorStored (s : State) (i e : Nat) : State :=
  (((s.setSensor i e).onMac (fun m => { m with lost := m.lost.filter (· != i) })).countSensors).pinSensor i

/-- ADD. -/
def State.sensorAdd (s : State) (r : Req) (e0 : Nat) : Nat × State :=
  let e := sensorClean (setBit e0 80)
  if 262144 ≤ (s.mac.sensors.filter (fun x => seValid x.2)).length then (1, s)
  else if s.addressTaken none e then (2, s)
  else if sensorBad e then (6, s)
  else
    let i := ((List.range (s.mac.sensors.length + 1)).find? (fun k => !seValid (s.sensor k))).getD 0
    let e1 := seSet (seSet e 24 5 0) 48 10 0
    let s1 := (s.placeNew 1 i (max 1 (s.forcedTier i))).sensorStored i e1
    (0, (s1.bump O.ADDED).wrReq r O.SENSOR_INDEX i)

/-- An UPDATE takes its effect. -/
def State.sensorApply (s : State) (i e : Nat) : State := s.sensorStored i e

/-- UPDATE: refused, applied, or kept until no frame of the sensor is under way. -/
def State.sensorUpdate (s : State) (r : Req) (i e0 : Nat) : Nat × State :=
  let old := s.sensor i
  let e := sensorClean (setBit e0 80)
  let bound := s.hitchSensors.contains i &&
    (seField e 0 8 != seField old 0 8 || seField e 12 4 != seField old 12 4 || seClass e != seClass old)
  if !seValid old then (3, s)
  else if s.addressTaken (some i) e then (2, s)
  else if bound then (4, s)
  else if s.unreachable i then (5, s)
  else if sensorBad e then (6, s)
  else if s.sensorBusy i then (0, s.onMac (fun m => { m with updates := m.updates.filter (fun u => u.1 != i) ++ [(i, r, e)] }))
  else (0, s.sensorApply i e)

/-- REMOVE: its datagrams complete with REMOVED. -/
def State.sensorRemove (s : State) (i : Nat) : Nat × State :=
  let e := s.sensor i
  if !seValid e then (3, s)
  else if s.hitchSensors.contains i then (4, s)
  else if s.unreachable i then (5, s)
  else
    let s1 := (s.mac.down.filter (fun d => d.sensor == i)).foldl (fun s d => s.dlComplete d 6) s
    let s2 := (s1.setSensor i (clearBit e 80)).onMac (fun m => { m with updates := m.updates.filter (fun u => u.1 != i) })
    (0, ((s2.dropObj 1 i).countSensors).bump O.REMOVED)

/-- A write of SENSOR_COMMAND. -/
def State.opSensorCommand (s : State) (r : Req) (v : Nat) : Except Abort State :=
  if v = 0 ∨ 6 < v then .error .valueRange
  else
    let i := s.rdReq r O.SENSOR_INDEX
    let e := s.rdReq r O.SENSOR_ENTRY
    let found := fun (x : Option Nat) => match x with
      | some k => (0, s.wrReq r O.SENSOR_INDEX k)
      | none => (3, s)
    let (code, s1) := match v with
      | 1 => s.sensorAdd r e
      | 2 => s.sensorUpdate r i e
      | 3 => s.sensorRemove i
      | 4 => found (s.sensorAt 3 (seEui e))
      | 5 => found (s.sensorAt 2 (seShort e))
      | _ =>
        if !seValid (s.sensor i) then (3, s)
        else if s.unreachable i then (5, s)
        else (0, s.wrReq r O.SENSOR_ENTRY (s.sensorView i))
    .ok (s1.wrReq r O.SENSOR_RESULT code)

/-- An entry is lost to an uncorrectable error (R279). -/
def State.sensorLost (s : State) (i : Nat) : State :=
  if !seValid (s.sensor i) then s
  else (((((s.setSensor i (clearBit (s.sensor i) 80)).dropObj 1 i).onMac (fun m => { m with lost := m.lost ++ [i] })).bump O.ENTRY_LOST).countSensors).pinSensor i

end Sys2Proof.Machine
end

