-- ==== Sys2Proof/Machine/PlyOps.lean ====
section
/-!
DEFINITION. The ply link's PHY (06, §7): tones and segments, loading tables (Table 6.16) and their choice from a sounding (R241), the
length of a burst (R237), what a received burst does to its link (R242, R243, R245) and the link status record.
-/
namespace Sys2Proof.Machine

/-! ## Links -/

/-- The PLY_LINKS entry of a link ID (Table 6.21), with its position. -/
def State.plyEntry (s : State) (link : Nat) : Option (Nat × Nat) :=
  if link = 0 then none
  else (List.range 16).findSome? (fun k =>
    let e := bits (s.rd O.PLY_LINKS) (128 * k) 128
    if octet e 0 = link then some (k, e) else none)

/-- SEGMENTS of a link entry: A, B, C. -/
def lkSegs (e : Nat) : Nat := bits e 8 3
/-- RATE of a link entry. -/
def lkRate (e : Nat) : Nat := bits e 12 2
/-- MARGIN_QDB of a link entry. -/
def lkMargin (e : Nat) : Nat := octet e 2
/-- N_SOUND of a link entry. -/
def lkSound (e : Nat) : Nat := octet e 3
/-- SOUND_PERIOD_S of a link entry. -/
def lkPeriod (e : Nat) : Nat := bits e 32 16
/-- FAIL_LIMIT of a link entry. -/
def lkLimit (e : Nat) : Nat := octet e 6

/-- A link without history: robust both ways. -/
def PlyLink.fresh : PlyLink :=
  { tx := none, confirmed := none, newest := none, lastId := 0, fails := [], returns := none, soundAsked := false, soundSent := none,
    soundSeen := none, snr := [] }

/-- The loading state of a link. -/
def State.plyLink (s : State) (link : Nat) : PlyLink := lookD s.rx.links link PlyLink.fresh

/-- The loading state of a link changed. -/
def State.onLink (s : State) (link : Nat) (f : PlyLink → PlyLink) : State :=
  s.onRx (fun r => { r with links := modify r.links link PlyLink.fresh f })

/-! ## Tones (R233) -/

/-- The segment of a link tone, 0 to 2, and its index in the segment. -/
def toneSeg (t : Nat) : Nat × Nat := if t < 256 then (0, t) else if t < 768 then (1, t - 256) else (2, t - 768)

/-- A data tone of the spanned segments. -/
def toneData (segs t : Nat) : Bool := let x := toneSeg t; bitAt segs x.1 && x.2 % 64 != 32

/-- Data tones of the spanned segments (Table 6.13). -/
def dataTones (segs : Nat) : Nat :=
  (if bitAt segs 0 then 252 else 0) + (if bitAt segs 1 then 504 else 0) + (if bitAt segs 2 then 2520 else 0)

/-- Bits of a tone code (R238); codes 7 to 15 are reserved. -/
def codeBits (c : Nat) : Nat := match c with
  | 1 => 1
  | 2 => 2
  | 3 => 4
  | 4 => 6
  | 5 => 8
  | 6 => 10
  | _ => 0

/-- K of a rate (Table 6.15). -/
def rateK (r : Nat) : Nat := match r with
  | 0 => 972
  | 1 => 1296
  | 2 => 1458
  | _ => 1620

/-- Threshold offset of a rate in 0.25 dB. -/
def rateOffset (r : Nat) : Int := match r with
  | 0 => -16
  | 1 => -8
  | 2 => -4
  | _ => 0

/-- The largest constellation that a tone's SNR, less margin and offset, carries (Table 6.17). -/
def codeFor (snr : Int) : Nat :=
  if 124 ≤ snr then 6 else if 100 ≤ snr then 5 else if 76 ≤ snr then 4 else if 52 ≤ snr then 3 else if 28 ≤ snr then 2
  else if 16 ≤ snr then 1 else 0

/-! ## Loading tables (Table 6.16), as the number of their 1,672 octets -/

/-- LOADING_ID of a table. -/
def tabId (t : Nat) : Nat := octet t 1
/-- RATE of a table. -/
def tabRate (t : Nat) : Nat := bits t 16 2
/-- SEGMENTS of a table. -/
def tabSegs (t : Nat) : Nat := bits t 20 3
/-- CODED_BITS of a table. -/
def tabBits (t : Nat) : Nat := bits t 32 16
/-- A tone's code. -/
def tabCode (t n : Nat) : Nat := bits t (64 + 4 * n) 4

/-- A table from its tone codes. -/
def makeTable (link id rate segs : Nat) (codes : List Nat) : Nat :=
  let tones := codes.foldr (fun c v => c + 16 * v) 0
  link + id * 2 ^ 8 + (rate + 16 * segs) * 2 ^ 16 + (codes.foldl (fun n c => n + codeBits c) 0) % 2 ^ 16 * 2 ^ 32 + tones * 2 ^ 64

/-- The robust loading of a set of segments as a table (R239). -/
def robustTable (link segs : Nat) : Nat :=
  makeTable link 0 0 segs ((List.range 3328).map (fun t => if toneData segs t then 2 else 0))

/-- The table a sounding leads to (R241). -/
def soundTable (link id e : Nat) (snr : List Int) : Nat :=
  makeTable link id (lkRate e) (lkSegs e) ((List.range 3328).map (fun t =>
    if toneData (lkSegs e) t then codeFor (snr.getD t (-1000) - rateOffset (lkRate e) - ((lkMargin e : Nat) : Int)) else 0))

/-- A received table breaks R238 or does not fit its link. -/
def tableBad (link e t : Nat) : Bool :=
  let codes := (List.range 3328).map (tabCode t)
  octet t 0 != link || bits t 18 2 != 0 || bitAt t 23 || octet t 3 != 0 || bits t 48 16 != 0 || tabSegs t != lkSegs e ||
    codes.any (fun c => decide (6 < c)) || (List.range 3328).any (fun n => tabCode t n != 0 && !toneData (tabSegs t) n) ||
    tabBits t != codes.foldl (fun n c => n + codeBits c) 0

/-- Coded bits of a data symbol and K of a link's loading: a table, or robust loading. -/
def loadOf (segs : Nat) : Option Nat → Nat × Nat
  | some t => (tabBits t, rateK (tabRate t))
  | none => (2 * dataTones segs, 972)

/-- Symbols of a burst that carries a PSDU (R237). -/
def plySymbols (len : Nat) (load : Nat × Nat) : Nat := 3 + ceilDiv (ceilDiv (8 * len) load.2 * 1944) (max 1 load.1)

/-- The longest PSDU a burst of `n` symbols carries. -/
def plyRoom (n : Nat) (load : Nat × Nat) : Nat := min 65535 ((n - 3) * load.1 / 1944 * load.2 / 8)

/-- The PHY rate of a loading in kb/s: coded bits by code rate over 72 µs. -/
def plyKbps (load : Nat × Nat) : Nat := load.1 * load.2 * 1000 / (1944 * 72)

/-! ## Reception (R241 to R245) -/

/-- Fields of a ply header (Table 6.14). -/
def phLength (w : Nat) : Nat := bits w 0 16
/-- LINK_ID of a ply header. -/
def phLink (w : Nat) : Nat := bits w 16 8
/-- LOADING_ID of a ply header. -/
def phLoading (w : Nat) : Nat := bits w 24 8
/-- SOUND of a ply header. -/
def phSound (w : Nat) : Bool := bitAt w 32
/-- LOADING_FRAME of a ply header. -/
def phFrame (w : Nat) : Bool := bitAt w 33
/-- SEGMENTS of a ply header. -/
def phSegs (w : Nat) : Nat := bits w 34 3

/-- CRC8 of a ply header's bits 47:0 in the order sent, polynomial x⁸ + x² + x + 1 from 0xFF (Table 6.14). -/
def plyCrc8 (w : Nat) : Nat :=
  (List.range 48).foldl (fun c k =>
    let d := 2 * c % 256
    if bitAt c 7 != bitAt w k then d ^^^ 0x07 else d) 0xFF

/-- A ply header (Table 6.14) with its CRC8. -/
def plyHeaderWord (len link loading : Nat) (sound frame : Bool) (segs seed : Nat) : Nat :=
  let w := len % 2 ^ 16 + link % 256 * 2 ^ 16 + loading % 256 * 2 ^ 24 + (if sound then 2 ^ 32 else 0) + (if frame then 2 ^ 33 else 0) +
    segs % 8 * 2 ^ 34 + seed % 128 * 2 ^ 37
  w + plyCrc8 w * 2 ^ 48

/-- A ply header fails (Table 6.18). -/
def plyHeaderBad (w : Nat) : Bool :=
  bits w 48 8 != plyCrc8 w || (phSound w && phFrame w) || (phSound w && !decide (4 ≤ phLength w ∧ phLength w ≤ 32))

/-- A fallback table is to be returned on a link (R243). -/
def State.plyFallback (s : State) (link e : Nat) : State :=
  (s.bump O.FALLBACKS).onLink link (fun l => { l with returns := some (robustTable link (lkSegs e)) })

/-- The outcome of a data burst recorded; FAIL_LIMIT failures of the last 16, this one among them, make the receiver
send a fallback table (R243). -/
def State.plyOutcome (s : State) (link e : Nat) (failed : Bool) : State :=
  let l := pushRing 16 (s.plyLink link).fails failed
  let s1 := s.onLink link (fun x => { x with fails := l })
  if lkLimit e ≤ (l.filter id).length ∧ failed then s1.plyFallback link e else s1

/-- A burst decoded under a table: the newest one is confirmed, and stays the newest issued; the older is dropped (R242). -/
def State.plyDecoded (s : State) (link id : Nat) : State :=
  s.onLink link (fun l => match l.newest with
    | some t => if tabId t = id then { l with confirmed := some t } else l
    | none => l)

/-- The receiver holds the loading a burst names (R239, R242). -/
def PlyLink.holds (l : PlyLink) (id : Nat) : Bool :=
  id == 0 || (match l.confirmed with
    | some t => tabId t == id
    | none => false) || (match l.newest with
    | some t => tabId t == id
    | none => false)

/-- The ID after one, cyclic from 1 to 255 (R241). -/
def nextLoading (id : Nat) : Nat := id % 255 + 1

/-- A sounding is measured: the new table, or the fallback where every tone comes out off (R241). -/
def State.plySounded (s : State) (link e : Nat) (snr : List Int) : State :=
  let l := s.plyLink link
  let id := nextLoading l.lastId
  let t := soundTable link id e snr
  let s1 := (s.bump O.SOUNDINGS_RX).onLink link (fun x => { x with soundSeen := some s.now, snr := snr })
  if tabBits t = 0 then s1.plyFallback link e
  else s1.onLink link (fun x => { x with lastId := id, newest := some t, returns := some t })

/-- A loading frame is checked and adopted (R242): a table with LOADING_ID 0 returns the sender to robust loading. -/
def State.plyLoading (s : State) (link e : Nat) (psdu : List Byte) : State :=
  let t := ofOctets (psdu.take 1672)
  let crc := crc32c ((psdu.take 1672).map (fun b => b.toNat))
  if psdu.length ≠ 1676 ∨ ofOctets (psdu.drop 1672) ≠ crc ∨ tableBad link e t then s.bump O.LOADING_BAD
  else s.onLink link (fun l => { l with tx := if tabId t = 0 then none else some t })

/-- What the PHY makes of a burst's end (Table 6.18): the state, and a ply frame for the air MAC. -/
def State.plyPhyEnd (s : State) (segments w : Nat) (o : PlyEnd) : Option (List Byte) × State :=
  let link := phLink w
  let data : Bool := !phSound w && !phFrame w
  if !phSound w ∧ phLength w = 0 then (none, s.plyFail O.PLY_LEN_ZERO)
  else if phSegs w ||| segments ≠ segments then (none, s.plyFail O.SEGMENT_LOST)
  else match s.plyEntry link with
    | none => (none, s.plyFail O.UNKNOWN_LOADING)
    | some (_, e) =>
      if !(s.plyLink link).holds (phLoading w) then (none, s.plyFail O.UNKNOWN_LOADING)
      else match o with
        | .ldpcFail =>
          let s1 := s.plyFail O.LDPC_FAIL
          (none, if data then s1.plyOutcome link e true else s1)
        | .sounding snr => (none, ((s.bump O.BURSTS_RX).plySounded link e snr))
        | .loading psdu => (none, (((s.bump O.BURSTS_RX).plyDecoded link (phLoading w)).plyLoading link e psdu))
        | .frame psdu => (some psdu, ((s.bump O.BURSTS_RX).plyDecoded link (phLoading w)).plyOutcome link e false)

/-! ## Status (Table 6.22) -/

/-- LINK_STATUS of one link entry, 32 octets; LAST_SOUND_S in seconds of uptime, MEAN_SNR over the data tones of the last sounding. -/
def State.linkStatus (s : State) (k : Nat) : Nat :=
  let e := bits (s.rd O.PLY_LINKS) (128 * k) 128
  let link := octet e 0
  if link = 0 then 0
  else
    let l := s.plyLink link
    let id := fun (t : Option Nat) => match t with
      | some x => tabId x
      | none => 0
    let tx := loadOf (lkSegs e) l.tx
    let rx := loadOf (lkSegs e) l.confirmed
    let tones := (List.range 3328).filter (toneData (lkSegs e))
    let mean : Int := if l.snr.isEmpty then 0 else tones.foldl (fun n t => n + l.snr.getD t 0) 0 / (max 1 tones.length : Nat)
    let sound := match l.soundSeen with
      | some t => (t - s.resetAt) / secTk
      | none => 0
    link + (if l.tx.isSome then 2 else 1) * 2 ^ 8 + id l.tx * 2 ^ 16 + id l.confirmed * 2 ^ 24 + id l.newest * 2 ^ 32 +
      (l.fails.filter (fun b => b)).length * 2 ^ 40 + tx.1 * 2 ^ 64 + rx.1 * 2 ^ 80 + plyKbps tx * 2 ^ 96 + plyKbps rx * 2 ^ 128 +
      sound % 2 ^ 32 * 2 ^ 160 + ofInt 16 mean * 2 ^ 192

/-- LAST_SOUND_SNR of one link, 3,328 octets in 0.5 dB, −128 for tones that carry no measurement (Table 6.22). -/
def State.soundSnr (s : State) (link segs : Nat) : Nat :=
  let l := s.plyLink link
  (List.range 3328).foldr (fun t v =>
    (if toneData segs t && !l.snr.isEmpty then satInt 8 (l.snr.getD t 0 / 2) else 0x80) + 256 * v) 0

end Sys2Proof.Machine
end

