-- ==== Sys2Proof/Machine/PlyWave.lean ====
section
/-!
DEFINITION. What a ply burst puts on its tones (06, §7.2 to §7.4): scrambler and reference sequences (R235), the coded header (R236), and the
data symbols (R237) with the LDPC codes of IEEE 802.11-2020, whose matrices are PRESUMED (notes/assumptions/43.md).
-/
namespace Sys2Proof.Machine

/-- A tone's value (i + jq) / √norm; (0, 0) where the tone is off. -/
structure Tone where
  i : Int
  q : Int
  norm : Nat
deriving DecidableEq, Repr

/-- A tone without power. -/
def Tone.off : Tone := { i := 0, q := 0, norm := 1 }

/-- A real tone of unit power. -/
def Tone.real (plus : Bool) : Tone := { i := if plus then 1 else -1, q := 0, norm := 1 }

/-! ## Scrambler and sequences (R235) -/

/-- `n` outputs of the scrambler x⁷ + x⁴ + 1 from a state. -/
def scramOut : Nat → Nat → List Bool
  | 0, _ => []
  | n + 1, st =>
    let b := bitAt st 6 != bitAt st 3
    b :: scramOut n (2 * st % 128 + (if b then 1 else 0))

/-- Bits scrambled from a seed. -/
def scramble (seed : Nat) (l : List Bool) : List Bool := (l.zip (scramOut l.length seed)).map (fun x => x.1 != x.2)

/-- The known sequence b. -/
def seqB (n : Nat) : List Bool := scramOut n 0x7F

/-- Tones of a segment (Table 6.13). -/
def segTones (seg : Nat) : Nat := [256, 512, 2560].getD seg 0

/-- The BPSK value of a bit of b: 0 is +1. -/
def refTone (b : Bool) : Tone := Tone.real (!b)

/-- P1 of a segment: b on every fourth tone. -/
def plyP1 (seg : Nat) : List Tone :=
  let b := seqB (segTones seg / 4)
  (List.range (segTones seg)).map (fun t => if t % 4 = 0 then refTone (b.getD (t / 4) false) else Tone.off)

/-- P2 of a segment: b on every tone, going on after P1. -/
def plyP2 (seg : Nat) : List Tone := ((seqB (segTones seg / 4 + segTones seg)).drop (segTones seg / 4)).map refTone

/-- A symbol of the link from its segments' symbols; a segment outside SEGMENTS carries nothing. -/
def linkSymbol (segs : Nat) (f : Nat → List Tone) : List Tone :=
  (List.range 3).flatMap (fun k => if bitAt segs k then f k else List.replicate (segTones k) Tone.off)

/-- A pilot tone of the spanned segments. -/
def tonePilot (segs t : Nat) : Bool := let x := toneSeg t; bitAt segs x.1 && x.2 % 64 == 32

/-! ## Header (R236) -/

/-- The rate-1/2 convolutional code of constraint length 7, generators 133 and 171 octal, from a state of the last six bits. -/
def convCode : List Bool → List Bool → List Bool
  | _, [] => []
  | st, b :: r =>
    let x := fun (k : Nat) => st.getD (k - 1) false
    let p := fun (l : List Bool) => l.foldl (fun a c => a != c) false
    p [b, x 2, x 3, x 5, x 6] :: p [b, x 1, x 2, x 3, x 6] :: convCode (b :: st.take 5) r

/-- The 124 coded bits of a header. -/
def headerBits (w : Nat) : List Bool := convCode [] ((List.range 56).map (bitAt w) ++ List.replicate 6 false)

/-- The header symbol: the coded bits as BPSK, repeated cyclically over the data tones of the spanned segments. -/
def headerSymbol (segs w : Nat) : List Tone :=
  let c := headerBits w
  ((List.range 3328).foldl (fun (a : Nat × List Tone) t =>
    if tonePilot segs t then (a.1, Tone.real true :: a.2)
    else if toneData segs t then (a.1 + 1, Tone.real (c.getD (a.1 % 124) false) :: a.2)
    else (a.1, Tone.off :: a.2)) (0, [])).2.reverse

/-! ## Data (R237) -/

/-- Cyclic shifts of the parity-check matrix of a rate for codewords of 1,944 bits, its information part; −1 for a zero block. -/
def ldpcBase : Nat → List (List Int)
  | 0 => [[57, -1, -1, -1, 50, -1, 11, -1, 50, -1, 79, -1], [3, -1, 28, -1, 0, -1, -1, -1, 55, 7, -1, -1],
      [30, -1, -1, -1, 24, 37, -1, -1, 56, 14, -1, -1], [62, 53, -1, -1, 53, -1, -1, 3, 35, -1, -1, -1],
      [40, -1, -1, 20, 66, -1, -1, 22, 28, -1, -1, -1], [0, -1, -1, -1, 8, -1, 42, -1, 50, -1, -1, 8],
      [69, 79, 79, -1, -1, -1, 56, -1, 52, -1, -1, -1], [65, -1, -1, -1, 38, 57, -1, -1, 72, -1, 27, -1],
      [64, -1, -1, -1, 14, 52, -1, -1, 30, -1, -1, 32], [-1, 45, -1, 70, 0, -1, -1, -1, 77, 9, -1, -1],
      [2, 56, -1, 57, 35, -1, -1, -1, -1, -1, 12, -1], [24, -1, 61, -1, 60, -1, -1, 27, 51, -1, -1, 16]]
  | 1 => [[61, 75, 4, 63, 56, -1, -1, -1, -1, -1, -1, 8, -1, 2, 17, 25], [56, 74, 77, 20, -1, -1, -1, 64, 24, 4, 67, -1, 7, -1, -1, -1],
      [28, 21, 68, 10, 7, 14, 65, -1, -1, -1, 23, -1, -1, -1, 75, -1], [48, 38, 43, 78, 76, -1, -1, -1, -1, 5, 36, -1, 15, 72, -1, -1],
      [40, 2, 53, 25, -1, 52, 62, -1, 20, -1, -1, 44, -1, -1, -1, -1], [69, 23, 64, 10, 22, -1, 21, -1, -1, -1, -1, -1, 68, 23, 29, -1],
      [12, 0, 68, 20, 55, 61, -1, 40, -1, -1, -1, 52, -1, -1, -1, 44], [58, 8, 34, 64, 78, -1, -1, 11, 78, 24, -1, -1, -1, -1, -1, 58]]
  | 2 => [[48, 29, 28, 39, 9, 61, -1, -1, -1, 63, 45, 80, -1, -1, -1, 37, 32, 22],
      [4, 49, 42, 48, 11, 30, -1, -1, -1, 49, 17, 41, 37, 15, -1, 54, -1, -1],
      [35, 76, 78, 51, 37, 35, 21, -1, 17, 64, -1, -1, -1, 59, 7, -1, -1, 32],
      [9, 65, 44, 9, 54, 56, 73, 34, 42, -1, -1, -1, 35, -1, -1, -1, 46, 39],
      [3, 62, 7, 80, 68, 26, -1, 80, 55, -1, 36, -1, 26, -1, 9, -1, 72, -1],
      [26, 75, 33, 21, 69, 59, 3, 38, -1, -1, -1, 35, -1, 62, 36, 26, -1, -1]]
  | _ => [[13, 48, 80, 66, 4, 74, 7, 30, 76, 52, 37, 60, -1, 49, 73, 31, 74, 73, 23, -1],
      [69, 63, 74, 56, 64, 77, 57, 65, 6, 16, 51, -1, 64, -1, 68, 9, 48, 62, 54, 27],
      [51, 15, 0, 80, 24, 25, 42, 54, 44, 71, 71, 9, 67, 35, -1, 58, -1, 29, -1, 53],
      [16, 29, 36, 41, 44, 56, 59, 37, 50, 24, -1, 65, 4, 65, 52, -1, 4, -1, 73, 52]]

/-- The row whose block in the first parity column is unshifted; in the first and the last row it is shifted by 1. -/
def ldpcMid : Nat → Nat
  | 0 => 6
  | 1 => 4
  | 2 => 3
  | _ => 2

/-- Sum of two blocks. -/
def addBlocks (a b : List Bool) : List Bool := (a.zip b).map (fun x => x.1 != x.2)

/-- A block rotated by a shift. -/
def rotBlock (s : Nat) (a : List Bool) : List Bool := a.drop s ++ a.take s

/-- Bits cut into blocks. -/
def blocksOf (z : Nat) : Nat → List Bool → List (List Bool)
  | 0, _ => []
  | n + 1, l => l.take z :: blocksOf z n (l.drop z)

/-- A row of the matrix applied to the information blocks. -/
def ldpcRow (row : List Int) (u : List (List Bool)) : List Bool :=
  (row.zip u).foldl (fun a x => if x.1 < 0 then a else addBlocks a (rotBlock x.1.toNat x.2)) (List.replicate 81 false)

/-- The parity blocks after the first, each from the row above it. -/
def ldpcChain (p0 : List Bool) (mid : Nat) : Nat → List Bool → List (List Bool) → List (List Bool)
  | _, _, [] => []
  | k, prev, l :: r =>
    let p := addBlocks prev (if k = mid then addBlocks l p0 else l)
    p :: ldpcChain p0 mid (k + 1) p r

/-- A codeword of 1,944 bits of K information bits. -/
def ldpcEncode (rate : Nat) (info : List Bool) : List Bool :=
  let rows := (ldpcBase rate).map (fun row => ldpcRow row (blocksOf 81 (rateK rate / 81) info))
  let p0 := rows.foldl addBlocks (List.replicate 81 false)
  let first := addBlocks (rows.headD []) (rotBlock 1 p0)
  info ++ p0 ++ first ++ (ldpcChain p0 (ldpcMid rate) 1 first ((rows.drop 1).dropLast)).flatten

/-- One axis of a Gray-coded square constellation. -/
def grayAxis (l : List Bool) : Int :=
  let v := (l.foldl (fun (a : Bool × Nat) b => let c := a.1 != b; (c, 2 * a.2 + (if c then 1 else 0))) (false, 0)).2
  2 * (v : Int) - ((2 ^ l.length - 1 : Nat) : Int)

/-- The point of a tone code for its bits (R237). -/
def tonePoint (code : Nat) (l : List Bool) : Tone :=
  if code = 1 then Tone.real (l.getD 0 false)
  else
    let k := codeBits code / 2
    { i := grayAxis (l.take k), q := grayAxis ((l.drop k).take k), norm := 2 * (4 ^ k - 1) / 3 }

/-- A data symbol from its coded bits, link tone number ascending. -/
def dataSymbol (segs table : Nat) (l : List Bool) : List Tone :=
  ((List.range 3328).foldl (fun (a : List Bool × List Tone) t =>
    let c := tabCode table t
    if tonePilot segs t then (a.1, Tone.real true :: a.2)
    else if codeBits c = 0 then (a.1, Tone.off :: a.2)
    else (a.1.drop (codeBits c), tonePoint c (a.1.take (codeBits c)) :: a.2)) (l, [])).2.reverse

/-- The coded bits of a PSDU, filled up to whole symbols with scrambled zero bits. -/
def plyCoded (seed table : Nat) (psdu : List Byte) : List Bool :=
  let k := rateK (tabRate table)
  let bits_ := octetBits psdu
  let words := ceilDiv bits_.length k
  let fill := (max 1 (tabBits table) - words * 1944 % max 1 (tabBits table)) % max 1 (tabBits table)
  let s := scramble seed (bits_ ++ List.replicate (words * k - bits_.length + fill) false)
  (blocksOf k words s).flatMap (ldpcEncode (tabRate table)) ++ s.drop (words * k)

/-- The symbols of a burst on its tones: P1, P2, the header, and the data symbols or a sounding's repeats of P2 (R234, R240). -/
def plyBurst (header table : Nat) (psdu : List Byte) : List (List Tone) :=
  let segs := phSegs header
  let coded := plyCoded (bits header 37 7) table psdu
  let data := if phSound header then List.replicate (phLength header) (linkSymbol segs plyP2)
    else (blocksOf (tabBits table) (coded.length / max 1 (tabBits table)) coded).map (dataSymbol segs table)
  linkSymbol segs plyP1 :: linkSymbol segs plyP2 :: headerSymbol segs header :: data

end Sys2Proof.Machine
end

