-- ==== Sys2Proof/Machine/PlyMac.lean ====
section
/-!
DEFINITION. Relay mode and ply frames (07, §10): the burst a TX_PLY cell carries (R285, R240, R288), received ply frames, parent tracking (R286,
R287), and what follows the end of a cipher job for the air MAC.
-/
namespace Sys2Proof.Machine

/-- A link without traffic. -/
def PlyQueue.fresh : PlyQueue := { queue := [], burst := [], seq := 0, tries := 0, counter := 0, rxSeq := none, ackDue := false, late := [] }

/-- The traffic of a link. -/
def State.plyQ (s : State) (link : Nat) : PlyQueue := lookD s.mac.ply link PlyQueue.fresh

/-- The traffic of a link changed. -/
def State.onPlyQ (s : State) (link : Nat) (f : PlyQueue → PlyQueue) : State :=
  s.onMac (fun m => { m with ply := modify m.ply link PlyQueue.fresh f })

/-! ## Parents -/

/-- RELAY_STATE: 0 OFF, 1 SCAN, 2 SYNCED, 3 MISSING, 4 LISTEN. -/
def State.relayState (s : State) : Nat := s.rd O.RELAY_STATE

/-- A PARENTS entry: EUI64, LINK_ID, PRIORITY. -/
def State.parent (s : State) (k : Nat) : Nat × Nat × Nat :=
  let e := bits (s.rd O.PARENTS) (128 * k) 128
  (euiNum (bits e 0 64), octet e 8, octet e 9)

/-- The used PARENTS entry of a sender on a link. -/
def State.parentOf (s : State) (eui link : Nat) : Option Nat :=
  (List.range 4).find? (fun k => (s.parent k).2.1 != 0 && (s.parent k).2.1 == link && (s.parent k).1 == eui)

/-- The link to the current parent; without one, of the first parent listed. -/
def State.parentLink (s : State) : Option Nat :=
  let c := s.rd O.CURRENT_PARENT
  if c < 4 then some (s.parent c).2.1
  else ((List.range 4).find? (fun k => (s.parent k).2.1 != 0)).map (fun k => (s.parent k).2.1)

/-- The parent is lost and not yet found again (R288). -/
def State.parentGone (s : State) : Bool := s.relayState == 1 || s.relayState == 4

/-- A link leads to a lost parent. -/
def State.linkGone (s : State) (link : Nat) : Bool := s.parentGone && (List.range 4).any (fun k => (s.parent k).2.1 == link)

/-- RELAY_STATE set. -/
def State.setRelay (s : State) (v : Nat) : State := s.wr O.RELAY_STATE v

/-- The parent is lost (R287): counted, the condition PARENT_LOST in force, the time source gone. -/
def State.parentLost (s : State) : State := ((s.bump O.PARENT_LOST).condBegin 6 0).sourceLost 3

/-- A PARENT_BEACON cell ended without a valid EB from the current parent (R287). -/
def State.ebMiss (s : State) (cell : Nat) : State :=
  if s.relayState < 2 ∨ s.mac.ebMissed.contains cell ∨ s.mac.ebSeen = some s.lay.asn then s
  else
    let s1 := ((s.bump O.EB_MISSED).onMac (fun m => { m with ebMissed := m.ebMissed ++ [cell] }))
    if s.relayState = 4 then s1
    else
      let n := s.rd O.MISSED_NOW + 1
      let s2 := s1.wr O.MISSED_NOW n
      if n < 3 then s2.setRelay 3
      else ((s2.setRelay 4).onMac (fun m => { m with listenSince := s.now })).parentLost

/-- A PARENT_BEACON cell's window has closed: a miss, unless a frame of it is still on its way to a verdict. -/
def State.ebCellEnds (s : State) (cell asn : Nat) : State :=
  let pending := s.rx.lanes.any (fun e => e.2.cell == cell && e.2.gang.isSome) ||
    s.rx.back.any (fun e => e.2.cell == cell && e.2.slotAsn == asn) || s.mac.plyUp.any (fun u => u.cell == cell && u.asn == asn)
  if ceType (s.cell cell) = 9 ∧ !pending then s.ebMiss cell else s

/-- A valid EB of a listed parent (R286): tracking, time, and the parent's ASN at the next boundary. -/
def State.ebValid (s : State) (u : PlyUp) (k : Nat) : State :=
  let asn := leField u.header 16 5
  let st := s.relayState
  let cur := s.rd O.CURRENT_PARENT
  let better := cur == k || st == 1 || (cur < 4 && decide ((s.parent k).2.2 < (s.parent cur).2.2))
  if st = 0 ∨ !better then s
  else
    let s1 := (((s.bump O.EB_RX).wr O.LAST_EB_ASN asn).wr O.CURRENT_PARENT k).wr O.MISSED_NOW 0
    let s2 := if st = 1 ∨ st = 4 then (s1.bump O.RESYNC).condEnd 6 0 else s1
    let s3 := (s2.setRelay 2).onMac (fun m => { m with
      ebSeen := some u.asn, adopt := if asn = u.asn then none else some (asn, u.asn) })
    s3.parentSample (leField u.body 0 10) u.p2At

/-- PARENT_LISTEN_TIMEOUT: eight slotframes of LISTEN (R287). -/
def State.listenOver (s : State) : State :=
  if s.relayState = 4 ∧ s.mac.listenSince + s.rd O.LISTEN_SLOTFRAMES * s.frameLen * s.slotTk ≤ s.now then
    (s.setRelay 1).wr O.CURRENT_PARENT 0xFF
  else s

/-- RELAY_MODE at a slot boundary: SCAN begins when it has been set (R287); it ends when it has been cleared. -/
def State.relayBoundary (s : State) : State :=
  if s.rd O.RELAY_MODE = 1 then
    if s.relayState = 0 then ((s.setRelay 1).wr O.CURRENT_PARENT 0xFF).parentLost else s
  else if s.relayState = 0 then s
  else (((s.setRelay 0).wr O.CURRENT_PARENT 0xFF).wr O.MISSED_NOW 0).condEnd 6 0

/-- The guard of the current parent (R255). -/
def State.parentGuard (s : State) : Nat := s.guardTk (s.rd O.LAST_EB_ASN) (s.rd O.PARENT_DRIFT_QPPM)

/-- A detection of a parent's P1 is ignored (R286): a synced child, outside the expected time by more than the guard. -/
def State.p1Ignored (s : State) (cell start : Nat) : Bool :=
  let e := s.cell cell
  let due := s.lay.slotAt + (s.template (ceTemplate e)).1
  ceType e == 9 && (s.relayState == 2 || s.relayState == 3) &&
    (decide (start + s.parentGuard < due) || decide (due + s.parentGuard < start))

/-! ## Queueing on a link -/

/-- Octets queued on a link. -/
def PlyQueue.octets (q : PlyQueue) : Nat := (q.queue ++ q.burst).foldl (fun n d => n + d.data.length) 0

/-- A datagram joins a link's queue, or is dropped where the relay queue is full (R288). -/
def State.plyEnqueue (s : State) (link : Nat) (d : Datagram) : State :=
  let d1 := { d with expires := s.now + s.lifetime d.cls, total := 1 }
  if s.rd O.RELAY_QUEUE_MAX_KIB * 1024 < (s.plyQ link).octets + d.data.length then (s.bump O.RELAY_DROPPED).dlComplete d1 4
  else s.onPlyQ link (fun q => { q with queue := q.queue ++ [d1] })

/-- A ply datagram is cancelled (R270); a burst sent of which nothing is left is over, and the next one takes the next SEQ. -/
def State.plyExpire (s : State) (link : Nat) (d : Datagram) : State :=
  ((s.bump O.UPPER_TIMEOUT).onPlyQ link (fun q =>
    let rest := q.burst.filter (fun x => x.id != d.id)
    let sent : Bool := q.tries != 0 && rest.length != q.burst.length
    let spent : Bool := sent && rest.isEmpty
    { q with
      queue := q.queue.filter (fun x => x.id != d.id), burst := rest, late := if sent then q.late ++ [q.seq] else q.late
      seq := if spent then (q.seq + 1) % 65536 else q.seq, tries := if spent then 0 else q.tries })).dlComplete d 2

/-- A radio-side datagram from the router, to a sensor, to all, or to the parent where a child knows no sensor for it (R265). -/
def State.dlHand (s : State) (f : List Byte) (cls flow : Nat) (hitch : Option Nat) (at_ : Nat) : Nat × List Job × State :=
  let dst := (f.drop 24).take 16
  let id := s.mac.nextId
  let s1 := s.onMac (fun m => { m with nextId := (m.nextId + 1) % 2 ^ 32 })
  let d : Datagram :=
    { id := id, sensor := 0x3FFFF, cls := cls, flow := flow, hitch := hitch, at_ := at_, expires := s.now + s.lifetime cls, data := f,
      psdus := [], total := 0, attempts := 0, tries := 0, aired := false }
  if beField dst 0 1 = 0xFF then
    let (js, s2) := s1.dlQueue none d dst
    (id, js, s2)
  else match s1.dlSensor dst with
    | some i =>
      let (js, s2) := s1.dlQueue (some i) d dst
      (id, js, s2)
    | none => match (if s1.rd O.RELAY_MODE = 1 then s1.parentLink else none) with
      | some l => (id, [], s1.plyEnqueue l d)
      | none => (id, [], (s1.bump O.DL_NO_SENSOR).dlComplete d 3)

/-! ## The burst of a TX_PLY cell (R285) -/

/-- What a burst carries. -/
inductive PlyLoad where
  | loading (table : Nat)
  | sounding
  | frame (type : Nat) (body : List Byte)
deriving DecidableEq, Repr

/-- A sounding is due on a link (R240). -/
def State.soundDue (s : State) (link e : Nat) : Bool :=
  let l := s.plyLink link
  let since := fun (tk : Nat) => match l.soundSent with
    | some a => decide (a + tk ≤ s.now)
    | none => true
  l.soundAsked || (l.tx.isNone && since secTk) || (lkPeriod e != 0 && since (lkPeriod e * secTk))

/-- A datagram record of a DATA body. -/
def plyRecord (d : Datagram) : List Byte := Sys2Proof.Machine.octets d.data.length 2 ++ d.data

/-- Datagrams of a queue in class order, arrival order within a class. -/
def byClass (l : List Datagram) : List Datagram := (List.range 4).flatMap (fun c => l.filter (fun d => d.cls == c))

/-- The datagrams that fit `room` body octets, in order, stopping at the first that does not. -/
def fillBurst : List Datagram → Nat → List Datagram
  | [], _ => []
  | d :: r, room => if (plyRecord d).length ≤ room then d :: fillBurst r (room - (plyRecord d).length) else []

/-- The first P1 sample of a burst that begins now on a set of transceivers (R234). -/
def State.plyFirst (s : State) (span : List Nat) : Nat := s.now + 1000 + span.foldl (fun m x => max m (s.rd (O.RAMP_TK x))) 0

/-- Symbols that fit a window on a set of transceivers. -/
def State.plyFit (s : State) (span : List Nat) (closes : Nat) : Nat :=
  let tail := span.foldl (fun m x => max m (s.rd (O.RAMP_TK x) + s.rd (O.TRSW_LAG_TK x))) 0
  (closes - tail - s.plyFirst span) / 14400

/-- The datagrams of a burst that has had its last retry end NO_ACK (R285). -/
def State.plyGiveUp (s : State) (link : Nat) : State :=
  let q := s.plyQ link
  let s1 := s.onPlyQ link (fun q => { q with burst := [], tries := 0, seq := (q.seq + 1) % 65536 })
  q.burst.foldl (fun s d => (s.bump O.NO_ACK).dlComplete d 1) s1

/-- The queued datagrams that a cell may carry (R251): a hitch's cell its class-0 datagrams, where none is pending those of its sensor; any
other cell those of no hitch. -/
def State.plyPool (s : State) (queue : List Datagram) (hitch : Option Nat) : List Datagram :=
  match hitch.bind s.hitchNum with
  | some h =>
    let c0 := queue.filter (fun d => d.hitch == some h.num)
    if c0.isEmpty then queue.filter (fun d => d.hitch.isNone && s.dlSensor ((d.data.drop 8).take 16) == some h.sensor) else c0
  | none => queue.filter (fun d => d.hitch.isNone)

/-- Datagrams move from the queue into a new burst. -/
def State.plyTake (s : State) (link room : Nat) (hitch : Option Nat) : State :=
  let take := fillBurst (byClass (s.plyPool (s.plyQ link).queue hitch)) room
  let ids := take.map (fun d => d.id)
  s.onPlyQ link (fun q => { q with queue := q.queue.filter (fun d => !ids.contains d.id), burst := take })

/-- The class-0 datagrams of a hitch that its cell's burst has no room for count OVERSIZE (Table 1.9). -/
def State.plyLate (s : State) (link : Nat) (hitch : Option Nat) : State :=
  let late := (s.plyQ link).queue.filter (fun d => d.hitch.isSome && d.hitch == hitch && !d.aired)
  late.foldl (fun s d => match d.hitch.bind s.hitchNum with
    | some i => s.hitchCause i d.at_ 8
    | none => s) (s.onPlyQ link (fun q => { q with
      queue := q.queue.map (fun d => if d.hitch.isSome ∧ d.hitch = hitch then { d with aired := true } else d) }))

/-- What the next burst on a link carries in a cell of a type, and the state with its datagrams taken (R240, R285, R288). -/
def State.plyNext (s : State) (link e ty n : Nat) (hitch : Option Nat) : Option PlyLoad × State :=
  if ty = 10 then (some (.frame 1 []), s)
  else if s.linkGone link then (none, s)
  else match (s.plyLink link).returns with
    | some t => (some (.loading t), s)
    | none =>
      if s.soundDue link e then (some .sounding, s)
      else
        let q := s.plyQ link
        let s1 := if q.burst ≠ [] ∧ s.rd O.MAX_RETRIES < q.tries then s.plyGiveUp link else s
        let room := plyRoom n (loadOf (lkSegs e) (s.plyLink link).tx)
        let s2 := if (s1.plyQ link).burst.isEmpty then s1.plyTake link (room - 40) hitch else s1
        let b := (s2.plyQ link).burst
        if !b.isEmpty then (some (.frame 0 (b.flatMap plyRecord)), s2)
        else if q.ackDue then (some (.frame 2 []), s2)
        else (none, s2)

/-- A burst of a cell does not start (R268): counted, and a retry of its data is used. -/
def State.plyMissed (s : State) (link : Nat) (data : Bool) : State :=
  let s1 := s.bump O.TX_MISSED_CELL
  if data && (s.plyQ link).tries != 0 then (s1.bump O.RETRIES).onPlyQ link (fun q => { q with tries := q.tries + 1 }) else s1

/-- A TX_PLY entry that the lay skips: the burst that would be bound misses its cell (R268, R288). -/
def State.plySkipped (s : State) (cell : Nat) (hitch : Option Nat) : State :=
  let c := s.cell cell
  let link := ceLink c
  match s.plyEntry link with
  | none => s
  | some (_, e) =>
    let q := s.plyQ link
    let ahead : Bool := (s.plyLink link).returns.isSome || s.soundDue link e
    let data : Bool := (!q.burst.isEmpty && decide (q.tries ≤ s.rd O.MAX_RETRIES)) || !(s.plyPool q.queue hitch).isEmpty
    if ceType c = 10 then s.plyMissed link false
    else if ceType c = 8 ∧ !s.linkGone link ∧ (ahead ∨ data ∨ q.ackDue) then s.plyMissed link (!ahead && !q.burst.isEmpty)
    else s

/-- The header of a ply frame (Table 7.12). -/
def State.plyHeader (s : State) (link type : Nat) : List Byte :=
  let q := s.plyQ link
  Sys2Proof.Machine.octets type 1 ++ Sys2Proof.Machine.octets link 1 ++ Sys2Proof.Machine.octets q.seq 2 ++
    beOctets (euiNum (s.rd O.EUI64)) 8 ++ Sys2Proof.Machine.octets q.counter 4 ++ Sys2Proof.Machine.octets s.lay.asn 5 ++
    Sys2Proof.Machine.octets (if q.rxSeq.isSome then 1 else 0) 1 ++ Sys2Proof.Machine.octets (q.rxSeq.getD 0) 2

/-- LENGTH of what a burst carries (R236, R240): the PSDU's octets, or N_SOUND. -/
def plyLength (e : Nat) : PlyLoad → Nat
  | .loading _ => 1676
  | .sounding => lkSound e
  | .frame type body => 40 + (if type = 1 then 12 else body.length)

/-- The TX table a burst uses; soundings and loading frames go robust (R239). -/
def State.plyTable (s : State) (link : Nat) : PlyLoad → Option Nat
  | .frame _ _ => (s.plyLink link).tx
  | _ => none

/-- Symbols of a burst (R237, R240). -/
def State.plyShape (s : State) (link e : Nat) (b : PlyLoad) : Nat := match b with
  | .sounding => 3 + lkSound e
  | _ => plySymbols (plyLength e b) (loadOf (lkSegs e) (s.plyTable link b))

/-- A burst goes on the air with its header, whose SEED is any but 0 (R236). -/
def State.plyAir (s : State) (link e first : Nat) (drives : List (Nat × Int)) (b : PlyLoad) (psdu : List Byte) : State :=
  let (v, s1) := s.free
  let t := s.plyTable link b
  let w := plyHeaderWord (plyLength e b) link (match t with
    | some x => tabId x
    | none => 0) (b == .sounding) (match b with
    | .loading _ => true
    | _ => false) (lkSegs e) (v % 127 + 1)
  s1.emit (.plyTx first drives w (t.getD (robustTable link (lkSegs e))) psdu)

/-- The key slot of a link entry. -/
def State.plySlot (s : State) (k : Nat) : Nat := bits (s.rd O.PLY_KEY_SLOTS) (32 * k) 20

/-- The authenticated part and the encrypted part of a ply frame (R291, Table 7.12): an EB has no encrypted part. -/
def plyParts (type : Nat) (hdr body : List Byte) : List Byte × List Byte := if type = 1 then (hdr ++ body, []) else (hdr, body)

/-- The body of a ply frame of a type that goes out now: an EB's is the time of its P2 and JOIN_METRIC. -/
def State.plyBody (s : State) (type first : Nat) (body : List Byte) : List Byte :=
  if type = 1 then Sys2Proof.Machine.octets (time80 (s.netAt (first + 28800))) 10 ++ Sys2Proof.Machine.octets (s.rd O.JOIN_METRIC) 1 ++
    Sys2Proof.Machine.octets 0 1
  else body

/-- A ply frame goes to the cipher bank to be protected, C1 at most. -/
def State.plyProtect (s : State) (link k type : Nat) (body : List Byte) : List Job × State :=
  let (flow, s1) := s.free
  let cls := if type = 0 then (s.plyQ link).burst.foldl (fun c d => min c d.cls) 3 else 3
  let hdr := s.plyHeader link type
  let (aad, text) := plyParts type hdr body
  (s1.onMac (fun m => { m with nextNum := m.nextNum + 1 })).cphSubmit
    { op := 3, level := 0, cls := max 1 cls, hitch := none, slot := s.plySlot k, hdr := aad, text := text, tag := [],
      psduLen := 40 + body.length, flow := flow % 65536, nonce := ofOctets ((hdr.drop 4).take 12), use := .plyTx s.mac.nextNum }

/-- A ply frame as the link's key protects it; none where that key does not stand in the cache or is of no GCM kind. -/
def State.plySealed (s : State) (link k type : Nat) (body : List Byte) : Option (List Byte) :=
  let hdr := s.plyHeader link type
  let (aad, text) := plyParts type hdr body
  match s.cacheKey (s.plySlot k) with
  | some c => if kindOk 3 0 c.kind then
      some (aad ++ gcmProtect (c.key.take (if c.kind = 3 then 32 else 16)) ((hdr.drop 4).take 12) aad text)
    else none
  | none => none

/-- A burst goes out: what it leaves behind on its link, the hitch frames in it at their end point (R28), its job in the cipher bank. -/
def State.plySent (s : State) (link k e first : Nat) (drives : List (Nat × Int)) (load : PlyLoad) : List Job × State :=
  match load with
  | .loading t =>
    ([], ((s.bump O.LOADING_TX).onLink link (fun l => { l with returns := none })).plyAir link e first drives load
      (Sys2Proof.Machine.octets t 1672 ++
        Sys2Proof.Machine.octets (crc32c ((Sys2Proof.Machine.octets t 1672).map (fun b => b.toNat))) 4))
  | .sounding =>
    ([], ((s.bump O.SOUNDINGS_TX).onLink link (fun l => { l with soundAsked := false, soundSent := some s.now })).plyAir link e first drives
      load [])
  | .frame type body =>
    let b := s.plyBody type first body
    let psdu := s.plySealed link k type b
    let (js, s0) := s.plyProtect link k type b
    let q := s.plyQ link
    let s1 := s0.onPlyQ link (fun q => { q with
      counter := (q.counter + 1) % 2 ^ 32, tries := if type = 0 then q.tries + 1 else q.tries, ackDue := false,
      burst := if type = 0 then q.burst.map (fun d => { d with attempts := d.attempts + 1, aired := true }) else q.burst })
    let s2 := if type ≠ 0 then s1 else q.burst.foldl (fun s d => match d.hitch.bind s.hitchNum with
      | some i => if d.aired then s else s.hitchEnd i d.at_ (s.now + 1000) 0
      | none => s) s1
    let s3 := if type = 0 ∧ q.tries ≠ 0 then s2.bump O.RETRIES else s2
    (js, s3.plyAir link e first drives load (psdu.getD []))

/-- The checks of R185 that depend on the burst's length, on every spanned transceiver. -/
def State.plyRoomAll (s : State) (span : List Nat) (first ends closes : Nat) : List (Nat × Bool) × State :=
  span.foldl (fun (a : List (Nat × Bool) × State) x =>
    let (ok, s1) := a.2.txRoom x first ends closes (a.2.subBand x (a.2.carrier x))
    (a.1 ++ [(x, ok)], s1)) ([], s)

/-- What a TX_PLY cell does (R185, R234): nothing is bound, or the burst goes out on every spanned transceiver or is abandoned on all. A ply
frame whose key does not stand ready in the cache sends nothing: its job fetches the key, and the cell is missed (R295, R268). -/
def State.txPlyRun (s : State) (span : List Nat) (cell : Nat) (hitch : Option Nat) (closes : Nat) (may : Bool) : List Job × State :=
  let c := s.cell cell
  let ty := ceType c
  let link := ceLink c
  if ty ≠ 8 ∧ ty ≠ 10 then ([], s)
  else match s.plyEntry link with
    | none => ([], s)
    | some (k, e) =>
      let (load, s0) := s.plyNext link e ty (s.plyFit span closes) hitch
      match load with
      | none => ([], s0)
      | some b =>
        let s1 := if ty = 8 then s0.plyLate link hitch else s0
        let first := s1.plyFirst span
        let ends := first + s1.plyShape link e b * 14400
        let (oks, s2) := s1.plyRoomAll span first ends closes
        let data : Bool := match b with
          | .frame 0 _ => true
          | _ => false
        let unkeyed := match b with
          | .frame type body => if (s2.plySealed link k type body).isNone then some (type, s2.plyBody type first body) else none
          | _ => none
        if !(may && oks.all (fun x => x.2)) then
          ([], (span.foldl (fun s x => s.bump (O.PLY_ABANDONED x)) s2).plyMissed link data)
        else match unkeyed with
        | some (type, body) =>
          let (js, s3) := s2.plyProtect link k type body
          (js, s3.plyMissed link data)
        | none =>
          let s3 := span.foldl (fun s x => s.txBegin x first ends (s.subBand x (s.carrier x)) cell hitch true span 0) s2
          s3.plySent link k e first (span.map (fun x => (x, s3.txDrive x))) b

/-! ## Received ply frames (R285) -/

/-- The datagrams of a DATA body. -/
def plyRecords : Nat → List Byte → List (List Byte)
  | 0, _ => []
  | n + 1, b =>
    let len := leField b 0 2
    if b.length < 2 ∨ b.length < 2 + len ∨ len = 0 then []
    else (b.drop 2).take len :: plyRecords n (b.drop (2 + len))

/-- A received ply frame goes to the cipher bank. -/
def State.plyReceive (s : State) (f : BackFrame) (link : Nat) (psdu : List Byte) : List Job × State :=
  match s.plyEntry link with
  | none => ([], s)
  | some (k, _) =>
    let h := psdu.take 24
    let b := (psdu.take (psdu.length - 16)).drop 24
    let (aad, text) := plyParts (leField h 0 1) h b
    let u : PlyUp :=
      { num := s.mac.nextNum, link := link, header := h, body := b, endAt := f.endAt, p2At := f.rx.sfdAt, hitch := f.hitch,
        cell := f.cell, asn := f.slotAsn }
    let (flow, s1) := (s.onMac (fun m => { m with nextNum := m.nextNum + 1, plyUp := m.plyUp ++ [u] })).free
    s1.cphSubmit
      { op := 2, level := 0, cls := if f.hitch.isSome then 0 else 3, hitch := f.hitch, slot := s.plySlot k, hdr := aad, text := text,
        tag := psdu.drop (24 + b.length), psduLen := psdu.length, flow := flow % 65536, nonce := ofOctets ((h.drop 4).take 12),
        use := .plyRx u.num }

/-- The burst that waits for acknowledgement on a link is acknowledged: its datagrams are delivered, the next SEQ comes. Datagrams that expired
after they were sent under the acknowledged SEQ count LATE_ACK (R270). -/
def State.plyAcked (s : State) (link : Nat) (h : List Byte) : State :=
  if !bitAt (leField h 21 1) 0 then s
  else
    let q := s.plyQ link
    let ack := leField h 22 2
    let s1 := (s.bumpBy O.LATE_ACK (q.late.count ack)).onPlyQ link (fun q => { q with late := q.late.filter (· != ack) })
    if !q.burst.isEmpty && q.tries != 0 && ack == q.seq then
      q.burst.foldl (fun s d => s.dlComplete d 0) (s1.onPlyQ link (fun q => { q with
        burst := [], tries := 0, seq := (q.seq + 1) % 65536, late := [] }))
    else s1

/-- The class of a datagram that came over a link: its source's where that is a sensor's, else C3; C0 on a hitch's GANG. -/
def State.plyClass (s : State) (hitch : Option Nat) (d : List Byte) : Nat :=
  if hitch.isSome then 0 else match s.dlSensor ((d.drop 8).take 16) with
    | some i => max 1 (seClass (s.sensor i))
    | none => 3

/-- The cipher bank's verdict on a ply frame, with what it decrypted. -/
def State.plyVerdict (s : State) (num desc : Nat) (ok : Bool) (clear : List Byte) : State :=
  match s.mac.plyUp.find? (fun u => u.num == num) with
  | none => s
  | some u =>
    let s0 := s.onMac (fun m => { m with plyUp := m.plyUp.filter (fun x => x.num != num) })
    let type := leField u.header 0 1
    let s1 := if !ok then s0
      else
        let s1 := s0.plyAcked u.link u.header
        if type = 1 then match s1.parentOf (beField u.header 4 8) u.link with
          | some k => s1.ebValid u k
          | none => s1
        else if type = 0 then
          let seq := leField u.header 2 2
          let again := (s1.plyQ u.link).rxSeq == some seq
          let s2 := s1.onPlyQ u.link (fun q => { q with rxSeq := some seq, ackDue := true })
          if again then s2
          else (plyRecords clear.length clear).foldl (fun s d =>
            let cls := s.plyClass u.hitch d
            let s3 := match u.hitch with
              | some h => s.hitchCarry h
              | none => s
            s3.toParser { EthFrame.blank 4 d u.endAt with
              sensor := (s.dlSensor ((d.drop 8).take 16)).getD 0x3FFFF, cls := cls, hitch := u.hitch, hint := cls,
              desc := some desc }) s2
        else s1
    s1.ebCellEnds u.cell u.asn

/-! ## Ends of cipher jobs -/

/-- Router frames with early plaintext of a job: cleared of the taint, or gone with the failed tag (R317, R398). -/
def State.frameTaint (s : State) (job : Nat) (ok : Bool) : State :=
  let fix := fun (l : List EthFrame) => if ok then l.map (fun f => { f with taints := f.taints.filter (· != job) })
    else l.filter (fun f => !f.taints.contains job)
  let s1 := s.eth.ports.foldl (fun s p => p.2.queues.foldl (fun s q => s.setQueue p.1 q.1 (fix q.2)) s)
    (s.onEth (fun e => { e with parse := fix e.parse }))
  (List.range 4).foldl (fun s p => s.sluiceAgain p) s1

/-- The verdict on early plaintext (R317, R398). -/
def State.taintVerdict (s : State) (j : Job) : State :=
  if !j.early then s
  else if j.state = 5 then (s.clearTaint j.id).frameTaint j.id true
  else
    let (gone, s1) := s.cancelItems (fun i => i.taints.contains j.id)
    (gone.foldl State.dropHitchFrame s1).frameTaint j.id false

/-- What the air MAC does about a job that has ended. -/
def State.jobOutcome (s : State) (j : Job) : List Job × State :=
  let s0 := s.taintVerdict j
  let out := if j.state = 5 then j.result.1 else []
  match j.use with
  | .rx n => s0.upEnded n j.state j.descAddr out
  | .tx n => ([], s0.txReady n j.state out)
  | .ackRx n => s0.ackVerdict n (j.state == 5)
  | .ackTx n => ([], s0.ackReady n j.state out)
  | .plyRx n => ([], s0.plyVerdict n j.descAddr (j.state == 5) out)
  | .plyTx _ => ([], s0)

/-- What the air MAC does about jobs that have ended, and about those that end because of it. -/
def State.jobOutcomes : Nat → List Job → State → State
  | 0, _, s => s
  | _ + 1, [], s => s
  | n + 1, j :: r, s =>
    let (more, s1) := s.jobOutcome j
    State.jobOutcomes n (r ++ more) s1

/-- The follow-up of an operation that may have ended jobs. -/
def settle (x : List Job × State) : State := State.jobOutcomes 8192 x.1 x.2

/-- A sensor's waiting update is applied at the first instant at which no frame of it is under way (R278). -/
def State.updateDue (s : State) (i : Nat) : State :=
  match s.mac.updates.find? (fun u => u.1 == i) with
  | some u =>
    if s.sensorBusy i then s
    else (s.sensorApply i u.2.2).onMac (fun m => { m with updates := m.updates.filter (fun x => x.1 != i) })
  | none => s

end Sys2Proof.Machine
end

