-- ==== Sys2Proof/Machine/RadioCmd.lean ====
section
/-!
DEFINITION. The radio family (05): synthesizer entries and locks, TX and RX windows, the tuner strand, calibration events, transmissions in
progress and the duty-cycle bins. The entries of the lay share their operations (`ent…`) with LAY_ENTRY_PRESENTED.
-/
namespace Sys2Proof.Machine

/-! ## Entries of the RADIO kind -/

/-- A TX_CELL entry (R184, R249 to R251). -/
def State.entTxCell (s : State) (x cell : Nat) (hitch : Option Nat) (closes : Nat) : State :=
  let s1 := s.cellFits cell [1, 2, 3, 4, 5, 6, 7]
  let ty := ceType (s1.cell cell)
  let s2 := if ty = 2 ∨ ty = 4 ∨ ty = 5 ∨ ty = 6 then s1.hopCheck cell x else s1
  let (may, s3) := s2.txOpenWin x
  if s3.trxState x = 0 then s3.txSkipped x cell hitch else s3.txCellRun x cell hitch closes may

/-- A TX_PLY entry on the transceivers its burst spans (R185, R234). -/
def State.entTxPly (s : State) (span : List Nat) (cell : Nat) (hitch : Option Nat) (closes : Nat) : State :=
  let (may, s1) := span.foldl (fun (a : Bool × State) x =>
    let (ok, s1) := a.2.txOpenWin x
    (a.1 && ok, s1)) (true, s.cellFits cell [8, 10])
  settle (s1.txPlyRun span cell hitch closes may)

/-- An entry of the RADIO kind other than TX_PLY: a background calibration is abandoned for it (R182). -/
def State.radioEntry (s : State) (id : Nat) (act : State → State) : State := s.entryOn id (shedAt id) (fun s => act (s.calAbandon (id / 4)))

/-- SYNTH_HOP (R167). -/
def execSynthHop (t : Tick) (trx : Fin 3) (path : Bool) (channel : Fin 1024) (s : State) : Host.Outcome State Fault Refusal :=
  .next ((s.tickTo t).radioEntry (4 * trx.val) (fun s => s.synthHop trx.val path channel.val false))

/-- SYNTH_RECAL (R168). -/
def execSynthRecal (t : Tick) (trx : Fin 3) (path : Bool) (channel : Fin 1024) (s : State) : Host.Outcome State Fault Refusal :=
  .next ((s.tickTo t).radioEntry (4 * trx.val) (fun s => s.synthHop trx.val path channel.val true))

/-- SYNTH_OFF (Table 5.2). -/
def execSynthOff (t : Tick) (trx : Fin 3) (s : State) : Host.Outcome State Fault Refusal :=
  .next ((s.tickTo t).radioEntry (4 * trx.val) (fun s => s.synthOff trx.val))

/-- TX_CELL. -/
def execTxCell (t : Tick) (trx : Fin 3) (cell : Nat) (hitch : Option (Fin 1024)) (closes : Tick) (s : State) :
    Host.Outcome State Fault Refusal :=
  let s1 := s.tickTo t
  let act := fun (s : State) => s.entTxCell trx.val cell (hitch.map (·.val)) closes
  .next (if s1.layRuns && (s1.entryWake (4 * trx.val + 1)).shedHere (4 * trx.val + 1) (shedAt (4 * trx.val + 1)) then
      ((s1.entryWake (4 * trx.val + 1)).bump O.STAGE_SKIPPED).txSkipped trx.val cell (hitch.map (·.val))
    else s1.radioEntry (4 * trx.val + 1) act)

/-- TX_PLY. -/
def execTxPly (t : Tick) (span : List (Fin 3)) (cell : Nat) (hitch : Option (Fin 1024)) (closes : Tick) (s : State) :
    Host.Outcome State Fault Refusal :=
  let s1 := s.tickTo t
  let id := 4 * (span.headD 0).val + 1
  let at_ := span.foldl (fun m x => min m (shedAt (4 * x.val))) 2
  .next (if s1.layRuns && (s1.entryWake id).shedHere id at_ then
      ((s1.entryWake id).bump O.STAGE_SKIPPED).plySkipped cell (hitch.map (·.val))
    else s1.entryOn id at_ (fun s => s.entTxPly (span.map (·.val)) cell (hitch.map (·.val)) closes))

/-- TX_IDLE (R162). -/
def execTxIdle (t : Tick) (trx : Fin 3) (s : State) : Host.Outcome State Fault Refusal :=
  .next ((s.tickTo t).radioEntry (4 * trx.val + 1) (fun s => s.txCloseWin trx.val))

/-- RX_ON (R171). -/
def execRxOn (t : Tick) (trx : Fin 3) (s : State) : Host.Outcome State Fault Refusal :=
  .next ((s.tickTo t).radioEntry (4 * trx.val + 2) (fun s => s.rxOpenWin trx.val false))

/-- RX_SINGLE (R175). -/
def execRxSingle (t : Tick) (trx : Fin 3) (s : State) : Host.Outcome State Fault Refusal :=
  .next ((s.tickTo t).radioEntry (4 * trx.val + 2) (fun s => s.rxOpenWin trx.val true))

/-- RX_IDLE. -/
def execRxIdle (t : Tick) (trx : Fin 3) (s : State) : Host.Outcome State Fault Refusal :=
  .next ((s.tickTo t).radioEntry (4 * trx.val + 2) (fun s => s.rxCloseWin trx.val))

/-- A PRESET entry of the tuner strand (R191, R192). -/
def State.entPreset (s : State) (x n : Nat) : State :=
  if s.trxState x = 0 then s
  else
    let c := s.tunerPreset x n
    ((s.tunerCode x c).wr (O.TUNER_PRESET_NOW x) n).onTrx x (fun t =>
      { t with tuner := { t.tuner with measuring := false, preset := c, trial := none } })

/-- A MEASURE (`on`) or HOLD entry of the tuner strand. -/
def State.entMeasure (s : State) (x : Nat) (on : Bool) : State :=
  if s.trxState x = 0 then s
  else s.onTrx x (fun t => { t with tuner := { t.tuner with measuring := on, trial := if on then t.tuner.trial else none } })

/-- TUNER_PRESET. -/
def execTunerPreset (t : Tick) (trx : Fin 3) (preset : Fin 256) (s : State) : Host.Outcome State Fault Refusal :=
  .next ((s.tickTo t).radioEntry (4 * trx.val + 3) (fun s => s.entPreset trx.val preset.val))

/-- TUNER_HOLD. -/
def execTunerHold (t : Tick) (trx : Fin 3) (s : State) : Host.Outcome State Fault Refusal :=
  .next ((s.tickTo t).radioEntry (4 * trx.val + 3) (fun s => s.entMeasure trx.val false))

/-- TUNER_MEASURE. -/
def execTunerMeasure (t : Tick) (trx : Fin 3) (s : State) : Host.Outcome State Fault Refusal :=
  .next ((s.tickTo t).radioEntry (4 * trx.val + 3) (fun s => s.entMeasure trx.val true))

/-! ## Locks (R167 to R172) -/

/-- SYNTH_LOCK: a tuning synthesizer, or one that lost lock, reports lock. -/
def execSynthLock (t : Tick) (trx : Fin 3) (s : State) : Host.Outcome State Fault Refusal :=
  let s1 := s.tickTo t
  .next (if s1.trxState trx.val = 0 ∨ ((s1.trx trx.val).tune.isNone ∧ !(s1.trx trx.val).seeking) then s1 else s1.synthLocked trx.val)

/-- SYNTH_LOCK_TIMEOUT: 2,800 tk after a hop with a valid entry (R169). -/
def execSynthLockTimeout (t : Tick) (trx : Fin 3) (s : State) : Host.Outcome State Fault Refusal :=
  let s1 := s.tickTo t
  .next (match (s1.trx trx.val).tune with
    | some u => if !u.full ∧ u.since + 2800 ≤ s1.now then s1.lockLate trx.val u else s1
    | none => s1)

/-- SYNTH_FAULT: 36,000 tk after a hop (R169). -/
def execSynthFault (t : Tick) (trx : Fin 3) (s : State) : Host.Outcome State Fault Refusal :=
  let s1 := s.tickTo t
  .next (match (s1.trx trx.val).tune with
    | some u => if u.since + 36000 ≤ s1.now then s1.synthFault trx.val else s1
    | none => s1)

/-- Lock is lost (R172): a transmission ramps down, streams become invalid; a second loss in one slot invalidates the path's entry. The
state stays as it is, unlocked (Table 5.2), while the synthesizer tries to lock again. -/
def State.lockLost (s : State) (x : Nat) : State :=
  let t := s.trx x
  if !t.locked then s
  else
    let n := if t.losses.1 = s.lay.asn then t.losses.2 + 1 else 1
    let s1 := s.onTrx x (fun t => { t with locked := false, seeking := true, losses := (s.lay.asn, n), streamsAt := none })
    let s2 := if t.txOpen then ((s1.txStop x).bump (O.LOCK_LOST x)).trxEvent x 1
      else if t.rxOpen then (s1.streamsOff (streamsOf x)).trxEvent x 1 else s1
    let c := s.rd (O.CHANNEL x)
    let path : Bool := s.rd (O.PATH x) == 1
    if n = 2 then (s2.calDrop x c path).calQueue x (synthOf c path [] false) else s2

/-- SYNTH_LOCK_LOST. -/
def execSynthLockLost (t : Tick) (trx : Fin 3) (s : State) : Host.Outcome State Fault Refusal := .next ((s.tickTo t).lockLost trx.val)

/-- STREAMS_VALID: 2,000 tk after the chains and the synthesizer are ready, the enabled streams of the transceiver are valid (R171). -/
def execStreamsValid (t : Tick) (trx : Fin 3) (s : State) : Host.Outcome State Fault Refusal :=
  let s1 := s.tickTo t
  .next (match (s1.trx trx.val).streamsAt with
    | some a =>
      if a ≤ s1.now ∧ (s1.trx trx.val).rxOpen then
        (s1.streamsOn (streamsOf trx.val)).onTrx trx.val (fun t => { t with streamsAt := none })
      else s1
    | none => s1)

/-! ## Calibrations (R178 to R182) -/

/-- CAL_GAP_START (R181): the gap ends no later than the lay ends it. -/
def execCalGapStart (t : Tick) (trx : Fin 3) (gapEnd : Tick) (s : State) : Host.Outcome State Fault Refusal :=
  let s1 := s.tickTo t
  .next ((s1.onTrx trx.val (fun x => { x with gapEnd := min gapEnd (s1.gapLimit trx.val) })).calStart trx.val)

/-- CAL_RUN_DONE of the tuning or background run in progress. -/
def execCalRunDone (t : Tick) (trx : Fin 3) (values quality : List Int) (s : State) : Host.Outcome State Fault Refusal :=
  let s1 := s.tickTo t
  let x := trx.val
  .next (match (s1.trx x).tune, (s1.trx x).calRun with
    | some u, _ => if u.full ∧ u.runs.length < 2 then s1.tuneRun x u values else s1
    | none, some q => s1.calRunDone x q values quality
    | none, none => s1)

/-- CAL_PERIOD_TIMER (R180). -/
def execCalPeriodTimer (t : Tick) (trx : Fin 3) (s : State) : Host.Outcome State Fault Refusal :=
  let s1 := s.tickTo t
  let x := trx.val
  let p := s1.rd (O.CAL_PERIOD_S x)
  .next (if s1.trxState x = 0 ∨ p = 0 ∨ s1.now < (s1.trx x).calPeriodAt + p * secTk then s1
    else (s1.calAll x false).onTrx x (fun y => { y with calPeriodAt := s1.now }))

/-- A reading of a transceiver's die temperature. -/
def State.dieRead (s : State) (x : Nat) (temp : Int) : State :=
  (s.wrI (O.DIE_TEMP_C x) 16 temp).onTrx x (fun t => { t with dieTemp := temp })

/-- CAL_TEMP_TRIGGER (R180): the temperature has moved CAL_TEMP_DELTA_C since the last accepted RX_IQ. -/
def execCalTempTrigger (t : Tick) (trx : Fin 3) (temp : Int) (s : State) : Host.Outcome State Fault Refusal :=
  let x := trx.val
  let s1 := (s.tickTo t).dieRead x temp
  .next (if s1.trxState x ≠ 0 ∧ (s1.trx x).rxIqAt.isSome ∧ s1.rd (O.CAL_TEMP_DELTA_C x) ≤ (temp - (s1.trx x).rxIqTemp).natAbs then
      s1.calAll x false
    else s1)

/-- SYNTH_STALE of a channel at a temperature (Table 5.3, R180): the entry is STALE, and both paths are calibrated again. -/
def execSynthStale (t : Tick) (trx : Fin 3) (channel : Fin 1024) (temp : Int) (s : State) : Host.Outcome State Fault Refusal :=
  let x := trx.val
  let c := channel.val
  let s1 := (s.tickTo t).dieRead x temp
  let e := s1.calEntry x c
  let valid : Bool := bitAt e 0 || bitAt e 1
  .next (if valid ∧ s1.rd (O.SYNTH_STALE_C x) ≤ (temp - calTemp e).natAbs ∧ !bitAt e 4 then
      let s2 := s1.setCal x c (setBit e 4)
      if s2.trxState x = 0 ∨ s2.chanFreq x c = 0 then s2
      else [false, true].foldl (fun s path => s.calQueue x (synthOf c path [] false)) s2
    else s1)

/-! ## Transmissions in progress -/

/-- Broadcast datagrams of a transmission that ended are complete (R267). -/
def State.broadcastsSent (s : State) (x : Nat) : State :=
  (s.mac.flights.filter (fun f => f.trx == x && f.sensor == 0x3FFFF && !f.cut)).foldl State.flightJudge s

/-- TX_END: the last symbol of a transmission has been sent. -/
def execTxEnd (t : Tick) (trx : Fin 3) (s : State) : Host.Outcome State Fault Refusal :=
  let s1 := s.tickTo t
  let x := trx.val
  .next (match (s1.trx x).tx with
    | some r =>
      if !r.ended ∧ r.ends ≤ s1.now then
        (s1.onTrx x (fun t => { t with tx := some { r with ended := true } })).broadcastsSent x
      else s1
    | none => s1)

/-- MASK_CHECK (R189) of an average: its bins as (offset from the carrier in Hz, level in 0.25 dB). -/
def execMaskCheck (t : Tick) (trx : Fin 3) (bins : List (Int × Int)) (s : State) : Host.Outcome State Fault Refusal :=
  let s1 := s.tickTo t
  .next (match (s1.trx trx.val).tx with
    | some r => if r.ended then s1 else s1.maskCheck trx.val r bins
    | none => s1)

/-- POWER_MEASURE (R190, R193). -/
def execPowerMeasure (t : Tick) (trx : Fin 3) (fwd rl : Int) (s : State) : Host.Outcome State Fault Refusal :=
  let s1 := s.tickTo t
  .next (match (s1.trx trx.val).tx with
    | some r => if r.ended then s1 else s1.powerMeasure trx.val r fwd rl
    | none => s1)

/-- DUTY_BIN_ROLL: a new second (R199); bins older than the 3,600 most recent completed ones go. -/
def execDutyBinRoll (t : Tick) (s : State) : Host.Outcome State Fault Refusal :=
  let s1 := s.tickTo t
  .next (if s1.radio.dutyAt + secTk ≤ s1.now then
      s1.onRadio (fun r => { r with
        dutySec := r.dutySec + 1
        dutyAt := r.dutyAt + secTk
        duty := r.duty.map (fun k => (k.1, k.2.filter (fun e => decide (r.dutySec + 1 ≤ e.1 + 3600)))) })
    else s1)

end Sys2Proof.Machine
end

