-- ==== Sys2Proof/Machine/RxCmd.lean ====
section
/-!
DEFINITION. The lane and rake family (06): the lane entries, which share their operations (`ent…`) with LAY_ENTRY_PRESENTED, detections, SFD, header,
frame end, delivery to the air MAC, and ply bursts.
-/
namespace Sys2Proof.Machine

/-! ## Lane entries (R215, R224, R244) -/

/-- A lane serves: it is neither off, in test nor retired. -/
def State.laneServes (s : State) (n : Nat) : Bool := decide (1 ≤ s.laneState n ∧ s.laneState n ≤ 7)

/-- A window of a lane does not open: the lane stays FREE, for its profile, for a disabled stream, or for both (R224). -/
def State.laneRefused (s : State) (n : Nat) (misfit disabled : Bool) : State :=
  let s1 := s.closeLane n .window
  let s2 := if misfit then (s1.bump O.PROFILE_MISMATCH).raiseEv O.LANE_EVENTS 4 else s1
  if disabled then s2.bump O.STREAM_DISABLED else s2

/-- A LANE CELL entry (R224, R249, R250). -/
def State.entLaneCell (s : State) (n stream prof : Nat) (arm : Bool) (cell : Nat) (hitch : Option Nat) (closes : Nat) : State :=
  let s1 := s.cellFits cell [1, 2, 3, 4, 6]
  let ty := ceType (s1.cell cell)
  let s2 := if ty = 1 ∨ ty = 3 then s1.hopCheck cell (streamBand stream) else s1
  let p := s2.profile prof
  let e := s2.streamEntry stream
  if !s2.laneServes n then s2
  else if cellMisfit p (strWidth e) ∨ !strEnable e then s2.laneRefused n (cellMisfit p (strWidth e)) (!strEnable e)
  else s2.openLane n (if arm then 2 else 3)
    { role := .cell arm, stream := stream, profile := prof, cell := cell, hitch := hitch, closes := closes, stays := false, rx := none }

/-- A gang stays FREE for the slot: its lanes' windows close, and one PROFILE_MISMATCH is counted (R244). -/
def State.gangRefused (s : State) (n gang : Nat) : State :=
  let s1 := (s.rx.lanes.filter (fun e => e.2.gang == some gang)).foldl (fun s e => s.closeLane e.1 .window) (s.closeLane n .window)
  if s1.rx.gangsOut.contains (gang, s1.lay.asn) then s1
  else ((s1.onRx (fun r => { r with gangsOut := (gang, s1.lay.asn) :: r.gangsOut.filter (fun g => g.2 == s1.lay.asn) })).bump
    O.PROFILE_MISMATCH).raiseEv O.LANE_EVENTS 4

/-- A LANE GANG entry (R244): with one member's stream not searched for P1, the whole gang stays FREE. -/
def State.entLaneGang (s : State) (n stream segment gang cell : Nat) (hitch : Option Nat) (closes : Nat) : State :=
  let s1 := s.cellFits cell [8, 9]
  let e := s1.streamEntry stream
  if !s1.laneServes n then s1
  else if prMode (s1.profile (strProfile e)) ≠ 3 ∨ s1.rx.gangsOut.contains (gang, s1.lay.asn) then s1.gangRefused n gang
  else s1.openLane n 2
    { role := .gang segment gang, stream := stream, profile := strProfile e, cell := cell, hitch := hitch, closes := closes, stays := false, rx := none }

/-- A LANE RELEASE, or the end of a bight: the window closes; attempts whose acknowledgement part it was are judged, and a PARENT_BEACON
cell without EB is a miss. -/
def State.entLaneRelease (s : State) (n : Nat) : State :=
  match s.lane n with
  | none => if s.laneServes n then s.closeLane n .window else s
  | some x =>
    let s1 := s.closeLane n .window
    match x.role.cellOf x.cell with
    | some c =>
      let s2 := s1.cellDone c s1.lay.asn
      s2.ebCellEnds c s2.lay.asn
    | none => s1

/-- A CONTENTION bight on a lane. -/
def State.entContention (s : State) (n stream cell closes : Nat) : State :=
  let s1 := s.cellFits cell [7]
  let e := s1.streamEntry stream
  if !s1.laneServes n then s1
  else s1.openLane n 2
    { role := .contention, stream := stream, profile := strProfile e, cell := cell, hitch := none, closes := closes, stays := false, rx := none }

/-- A CAPTURE bight (with its hitch) or a SPARE one on a lane: STANDBY. -/
def State.entStandby (s : State) (n : Nat) (spare : Bool) (hitch : Option Nat) (closes : Nat) : State :=
  if !s.laneServes n then s
  else s.openLane n 4
    { role := if spare then .spare else .capture, stream := 512, profile := 0, cell := 0xFFFF, hitch := hitch, closes := closes, stays := false, rx := none }

/-- LANE_CELL. -/
def execLaneCell (t : Tick) (lane : Fin 768) (stream : Fin 512) (profile : Fin 64) (arm : Bool) (cell : Nat) (hitch : Option (Fin 1024))
    (closes : Tick) (s : State) : Host.Outcome State Fault Refusal :=
  .next ((s.tickTo t).entryOn (0x100 + lane.val) (min (shedAt (0x100 + lane.val)) (streamShedAt stream.val)) (fun s =>
    s.entLaneCell lane.val stream.val profile.val arm cell (hitch.map (·.val)) closes))

/-- LANE_GANG. -/
def execLaneGang (t : Tick) (lane : Fin 768) (stream : Fin 512) (segment : Fin 3) (gang : Fin 256) (cell : Nat)
    (hitch : Option (Fin 1024)) (closes : Tick) (s : State) : Host.Outcome State Fault Refusal :=
  .next ((s.tickTo t).entryOn (0x100 + lane.val) (min 2 (min (shedAt (0x100 + lane.val)) (streamShedAt stream.val))) (fun s =>
    s.entLaneGang lane.val stream.val segment.val gang.val cell (hitch.map (·.val)) closes))

/-- LANE_RELEASE. -/
def execLaneRelease (t : Tick) (lane : Fin 768) (s : State) : Host.Outcome State Fault Refusal :=
  .next ((s.tickTo t).entryOn (0x100 + lane.val) (shedAt (0x100 + lane.val)) (fun s => s.entLaneRelease lane.val))

/-! ## Detections -/

/-- RAKE_DETECTION (R206 to R209), but for a parent's P1 outside its guard (R286). -/
def execRakeDetection (t : Tick) (stream : Fin 512) (corr : Correlation) (start : Tick) (s : State) : Host.Outcome State Fault Refusal :=
  let s1 := s.tickTo t
  let early : Bool := s1.rx.lanes.any (fun e => e.2.stream == stream.val && e.2.gang.isSome && s1.p1Ignored e.2.cell start)
  .next (if early then s1 else s1.rakeDetects stream.val corr start)

/-- LANE_OWN_DETECTION of a lane in SEARCH (R225). -/
def execLaneOwnDetection (t : Tick) (lane : Fin 768) (corr : Correlation) (start : Tick) (s : State) : Host.Outcome State Fault Refusal :=
  let s1 := s.tickTo t
  .next (match s1.lane lane.val with
    | some x =>
      let p := s1.profile x.profile
      if s1.laneState lane.val = 3 ∧ s1.streamValid x.stream ∧ prThresh p ≤ rakeMetric corr ∧ corr.step.natAbs ≤ bits p 64 8 then
        s1.startRx lane.val { stream := x.stream, prof := x.profile, metric := rakeMetric corr, step := corr.step, start := start }
          false false true
      else s1
    | none => s1)

/-- LANE_SFD_FOUND (R217, R218), with the frozen frequency estimate in Hz and the SNR estimate in 0.25 dB (R231). -/
def execLaneSfdFound (t : Tick) (lane : Fin 768) (freqErr snr : Int) (s : State) : Host.Outcome State Fault Refusal :=
  .next ((s.tickTo t).sfdFound lane.val freqErr snr)

/-- LANE_SFD_TIMEOUT (R221). -/
def execLaneSfdTimeout (t : Tick) (lane : Fin 768) (s : State) : Host.Outcome State Fault Refusal :=
  let s1 := s.tickTo t
  .next (match s1.gangOf lane.val with
    | (n, x, r) :: rest =>
      if s1.laneState n = 5 ∧ r.deadline ≤ s1.now then
        rest.foldl (fun s (e : Nat × LaneRun × Reception) => s.endRx e.1 e.2.1) ((s1.bump O.LANE_SFD_TIMEOUT).endRx n x)
      else s1
    | [] => s1)

/-! ## Headers (R219, Tables 6.9 and 6.14) -/

/-- A header of a coded FSK frame, whose SFD a profile without coding does not recognise (Table 6.5, R213). -/
def codedUnknown (p : Nat) : AirHeader → Bool
  | .fsk _ _ fec _ _ => fec && bits p 10 2 == 0
  | _ => false

/-- A header's check on one lane. -/
def State.laneHeader (s : State) (n : Nat) (x : LaneRun) (r : Reception) (h : AirHeader) : State :=
  if codedUnknown r.prof h then s
  else match phrFails r.prof h with
  | some c => s.phrFailed n x c
  | none => (s.setRun n { x with rx := some { r with header := some h } }).setLane n 7

/-- The segment of a gang member. -/
def LaneRun.segment (x : LaneRun) : Nat := match x.role with
  | .gang k _ => k
  | _ => 0

/-- A ply header's check on a gang: the members its SEGMENTS leave out are idle for the rest of the burst (R244). Where none is left the burst
ends here: the zero length, or a segment that no member has (Table 6.18). -/
def State.gangHeader (s : State) (g : List (Nat × LaneRun × Reception)) (w : Nat) : State :=
  let idle := fun (s : State) => g.foldl (fun s (e : Nat × LaneRun × Reception) => s.endRx e.1 e.2.1) s
  if plyHeaderBad w then idle (s.plyFail O.HEADER_FAIL)
  else if !g.any (fun e => bitAt (phSegs w) e.2.1.segment) then
    idle (if !phSound w ∧ phLength w = 0 then s.plyFail O.PLY_LEN_ZERO else if phSegs w = 0 then s else s.plyFail O.SEGMENT_LOST)
  else g.foldl (fun s (e : Nat × LaneRun × Reception) =>
    if bitAt (phSegs w) e.2.1.segment then
      (s.setRun e.1 { e.2.1 with rx := some { e.2.2 with header := some (.ply w) } }).setLane e.1 7
    else s.endRx e.1 e.2.1) s

/-- LANE_PHR_CHECK. -/
def execLanePhrCheck (t : Tick) (lane : Fin 768) (header : AirHeader) (s : State) : Host.Outcome State Fault Refusal :=
  let s1 := s.tickTo t
  let n := lane.val
  .next (match s1.lane n with
    | some x => match x.rx with
      | some r =>
        if s1.laneState n ≠ 6 then s1
        else match x.gang, header with
          | some _, .ply w => s1.gangHeader (s1.gangOf n) w
          | some _, _ => s1
          | none, .ply _ => s1
          | none, h => s1.laneHeader n x r h
      | none => s1
    | none => s1)

/-- LANE_FRAME_END (R223). -/
def execLaneFrameEnd (t : Tick) (lane : Fin 768) (s : State) : Host.Outcome State Fault Refusal := .next ((s.tickTo t).frameEnds lane.val)

/-! ## Delivery (R223, R230 to R232, R257) -/

/-- The quality record of a delivered frame, made and kept. -/
def State.qualityOf (s : State) (n : Nat) (f : BackFrame) (m : Measured) : Nat × State :=
  let rec_ := qualityRecord n (ns32 (s.netAt f.rx.sfdAt)) (ns32 (s.netAt f.endAt)) f m
  (rec_, (s.bump O.LANE_FRAMES).keepQuality f.rx.stream rec_)

/-- A delivered PSDU: an acknowledgement in a cell that expects one, or a frame for the checks of Table 7.5; then the attempts of its cell, and
what leaves next. -/
def State.psduIn (s : State) (n : Nat) (f : BackFrame) (raw : List Byte) (m : Measured) : State :=
  let s1 := s.onRx (fun r => { r with back := del r.back n })
  let (q, s2) := s1.qualityOf n f m
  let ty := s2.frameType f
  let s3 := match f.checked raw with
    | none => s2.bump O.FCS_FAIL
    | some psdu =>
      let h := parseMhr psdu
      settle (if (ty = 2 ∨ ty = 4 ∨ ty = 6) ∧ h.ftype = 2 then s2.ackFrame f h psdu else s2.upReceive f psdu q)
  settle (match f.cellOf with
    | some c => s3.cellDone c f.slotAsn
    | none => s3).dlRenew

/-- PSDU_DELIVERED. -/
def execPsduDelivered (t : Tick) (lane : Fin 768) (psdu : List Byte) (m : Measured) (s : State) : Host.Outcome State Fault Refusal :=
  let s1 := s.tickTo t
  .next (match look s1.rx.back lane.val with
    | some f => if prMode f.rx.prof = 3 then s1 else s1.psduIn lane.val f psdu m
    | none => s1)

/-! ## Ply bursts (R241 to R245) -/

/-- A ganged burst's end: its outcome on the link, and a ply frame on to the cipher bank. -/
def State.burstIn (s : State) (n : Nat) (f : BackFrame) (o : PlyEnd) (m : Measured) : State :=
  let s1 := s.onRx (fun r => { r with back := del r.back n })
  let w := match f.rx.header with
    | some (.ply w) => w
    | _ => 0
  let before := s1.rd O.BURSTS_RX
  let (got, s2) := s1.plyPhyEnd f.segments w o
  let s3 := if s2.rd O.BURSTS_RX = before ∨ phSound w then s2 else (s2.qualityOf n f m).2
  match got with
  | some psdu => settle (s3.plyReceive f (phLink w) psdu)
  | none => s3.ebCellEnds f.cell f.slotAsn

/-- PLY_BURST_END. -/
def execPlyBurstEnd (t : Tick) (lane : Fin 768) (outcome : PlyEnd) (m : Measured) (s : State) : Host.Outcome State Fault Refusal :=
  let s1 := s.tickTo t
  .next (match look s1.rx.back lane.val with
    | some f => if prMode f.rx.prof = 3 then s1.burstIn lane.val f outcome m else s1
    | none => s1)

/-- A write of SOUND_COMMAND (R240): a link ID in use. -/
def State.opSoundCommand (s : State) (v : Nat) : Except Abort State :=
  if (s.plyEntry v).isNone then .error .valueRange else .ok (s.onLink v (fun l => { l with soundAsked := true }))

/-- A write of FALLBACK_COMMAND (R243). -/
def State.opFallbackCommand (s : State) (v : Nat) : Except Abort State :=
  match s.plyEntry v with
  | some (_, e) => .ok (s.plyFallback v e)
  | none => .error .valueRange

end Sys2Proof.Machine
end

