-- ==== Sys2Proof/Machine/MacCmd.lean ====
section
/-!
DEFINITION. The air MAC family (07) but for its dictionary writes, and the cipher family (08): timers of the MAC, key fetches, preemption,
releases and the ends of jobs, imports and rewraps.
-/
namespace Sys2Proof.Machine

/-! ## Air MAC -/

/-- REASM_TIMEOUT: no new fragment for REASM_TIMEOUT_S (R283). -/
def execReasmTimeout (t : Tick) (sensor : Fin 262144) (size tag : Nat) (s : State) : Host.Outcome State Fault Refusal :=
  let s1 := s.tickTo t
  let due := fun (r : Reasm) => r.sensor == sensor.val && r.size == size && r.tag == tag &&
    decide (r.at_ + s1.rd O.REASM_TIMEOUT_S * secTk ≤ s1.now)
  .next ((s1.mac.reasm.filter due).foldl (fun s r => s.upLost (s.upClass r.sensor).2 r.at_ O.REASM_TIMEOUT)
    (s1.onMac (fun m => { m with reasm := m.reasm.filter (fun r => !due r) })))

/-- DL_LIFETIME_EXPIRY of a datagram for a sensor or for a ply link (R270). -/
def execDlLifetimeExpiry (t : Tick) (id : Nat) (s : State) : Host.Outcome State Fault Refusal :=
  let s1 := s.tickTo t
  .next (match s1.mac.down.find? (fun d => d.id == id) with
    | some d => if d.expires ≤ s1.now then s1.dlExpire d else s1
    | none =>
      match s1.mac.ply.findSome? (fun e => ((e.2.queue ++ e.2.burst).find? (fun d => d.id == id)).map (fun d => (e.1, d))) with
      | some (l, d) => if d.expires ≤ s1.now then s1.plyExpire l d else s1
      | none => s1)

/-- PARENT_LISTEN_TIMEOUT (Table 7.13). -/
def execParentListenTimeout (t : Tick) (s : State) : Host.Outcome State Fault Refusal := .next ((s.tickTo t).listenOver)

/-- SENSOR_UPDATE_APPLY (R278). -/
def execSensorUpdateApply (t : Tick) (sensor : Fin 262144) (s : State) : Host.Outcome State Fault Refusal :=
  .next ((s.tickTo t).updateDue sensor.val)

/-! ## Cipher bank and key store -/

/-- KEY_FETCH_DONE (R303). -/
def execKeyFetchDone (t : Tick) (slot : Fin 1048576) (outcome : FetchEnd) (s : State) : Host.Outcome State Fault Refusal :=
  .next (settle ((s.tickTo t).fetchDone slot.val outcome))

/-- CIPHER_PREEMPT: the block boundary at which a C0 job takes its engine (R298). -/
def execCipherPreempt (t : Tick) (engine : Fin 32) (s : State) : Host.Outcome State Fault Refusal :=
  .next ((s.tickTo t).preemptNow engine.val)

/-- BITTERN_BLOCK_RELEASE (R316): the last block of a received frame's plaintext lets 6LoWPAN and the router start (R260). -/
def execBitternBlockRelease (t : Tick) (engine : Fin 32) (s : State) : Host.Outcome State Fault Refusal :=
  let s1 := (s.tickTo t).bitternRelease engine.val
  .next (match s1.jobOn engine.val with
    | some j => match j.use with
      | .rx n => if j.early ∧ j.textLen ≤ j.released then s1.upBittern n j.id (some j.descAddr) j.result.1 else s1
      | _ => s1
    | none => s1)

/-- CIPHER_JOB_END: the job on an engine has run its count (R294, R317, R257). -/
def execCipherJobEnd (t : Tick) (engine : Fin 32) (s : State) : Host.Outcome State Fault Refusal :=
  let (j, s1) := (s.tickTo t).jobDone engine.val
  .next (match j with
    | some x => (settle ([x], s1)).poisonSweep
    | none => s1)

/-- CIPHER_RESERVE: the engine serves its hitch's jobs first until the release (R298). -/
def State.entReserve (s : State) (n h : Nat) : State := (s.onCph (fun c => { c with reserve := put c.reserve n h })).wrOct O.ENGINE_STATE n
  (s.oct O.ENGINE_STATE n % 16 + 128)

/-- CIPHER_RELEASE. -/
def State.entUnreserve (s : State) (n : Nat) : State := (s.onCph (fun c => { c with reserve := del c.reserve n })).wrOct O.ENGINE_STATE n
  (s.oct O.ENGINE_STATE n % 16)

/-- CIPHER_RESERVE. -/
def execCipherReserve (t : Tick) (engine : Fin 32) (hitch : Fin 1024) (s : State) : Host.Outcome State Fault Refusal :=
  .next ((s.tickTo t).entryOn (0x400 + engine.val) (shedAt (0x400 + engine.val)) (fun s => s.entReserve engine.val hitch.val))

/-- CIPHER_RELEASE. -/
def execCipherRelease (t : Tick) (engine : Fin 32) (s : State) : Host.Outcome State Fault Refusal :=
  .next ((s.tickTo t).entryOn (0x400 + engine.val) (shedAt (0x400 + engine.val)) (fun s => s.entUnreserve engine.val))

/-- KEY_IMPORT_ENTRY: the next entry of the import in progress (R313). -/
def execKeyImportEntry (t : Tick) (s : State) : Host.Outcome State Fault Refusal := .next ((s.tickTo t).importNext)

end Sys2Proof.Machine
end

