-- ==== Sys2Proof/Machine/MemCmd.lean ====
section
/-!
DEFINITION. The memory family: partial writes, the scrubber, pans, channel commands and events, the lay's DRAM entries, and training
(12). The operations that an object write leads to answer the abort that refuses it, or the state after it.
-/
namespace Sys2Proof.Machine

/-! ## Who accesses (R37, Table 12.6) -/

/-- The hart that a request's source names (Table 12.6): a hart's own, or, for the L2 of a cluster, one of its harts, which one being open. -/
def State.sourceHart (s : State) (source : Nat) : Option Nat × State :=
  if source < 4 then
    let (x, s1) := s.free
    (some (4 * source + x % 4), s1)
  else (if source < 20 then some (source - 4) else none, s)

/-- A core's write that cannot be served ends in a bus error (R37); a block's has no effect. -/
def State.writeRefused (s : State) (source addr : Nat) (a : Abort) : State :=
  match s.sourceHart source with
  | (some h, s1) => s1.coreError a h addr 1
  | (none, s1) => s1

/-! ## Reads (R409, R421 to R424) -/

/-- What a block's data belonged to is discarded (R409): a frame, a cipher job, a task item, a datagram (its completion's CAUSE, UNREACHABLE, and
the job's CANCELLED are DESIGN CHOICES, notes/assumptions/31.md). -/
def State.dataLost (s : State) (d : BlockData) : State :=
  match d with
  | .frame n => match s.findFrame n with
    | some (p, q, f) => ((s.setQueue p q ((s.qFrames p q).filter (fun x => x.num != n))).frameLost f 2).sluiceAgain p
    | none => s
  | .job n => match s.cph.jobs.find? (fun j => j.id == n) with
    | some j =>
      let s1 := if (s.jobOn j.engine).any (fun x => x.id == n) then s.setEngine j.engine 1 else s
      let (j1, s2) := s1.jobEnds j 10
      settle ([j1], s2.cphGo)
    | none => s
  | .item n =>
    let (frames, s1) := s.cancelItems (fun i => i.seq == n)
    (frames.foldl State.dropHitchFrame s1).poisonSweep
  | .datagram n => match s.mac.down.find? (fun d => d.id == n) with
    | some d => s.dlComplete d 7
    | none => s
  | .other => s

/-- Who asked for data that cannot be had: a hart takes an access fault, a block discards what the data belongs to, a sensor entry is
lost (R409, R154). -/
def State.readLost (s : State) (addr : Nat) (use : ReadUse) : State :=
  match use with
  | .hart h => s.emit (.hartFault h.val addr)
  | .block d => (s.bump O.UE_CONSUMED).dataLost d
  | .sensor i => s.sensorLost i.val
  | .cache _ _ | .keyCache _ | .own _ => s

/-- A codeword is read: its data delivered, or lost to who asked; `back` where it is written back or left as it is (R409). -/
def State.wordRead (s : State) (source addr flips : Nat) (use : ReadUse) (data : Nat) (back : Bool) : State :=
  let w := addr / 16 * 16
  let j := s.wordJudge w flips
  let s1 := (if back then s.wordSettle (fun _ => false) w flips j else s).memOutcome w source j.1 false
  match j.1 with
  | .good | .corrected _ => s1.emit (.memData source w (data ^^^ eccData j.2))
  | _ => s1.readLost addr use

/-- A read of the queue is served: what it found when it was accepted or, where only other sources have written the codeword since, what stands
there now, which one being open (R422); never so with ORDER_COMPAT (R423). -/
def State.readServe (s : State) (c : Nat) (q : DramReq) : State :=
  let w := q.addr / 16 * 16
  let later := (s.chan c).wq.filter (fun y => decide (q.seq < y.seq ∧ y.addr < w + 16 ∧ w < y.addr + y.len))
  let s1 := ((s.bump64 (O.READS c) 1).openRow c q.addr).onChan c (fun x => { x with rq := x.rq.filter (fun y => y.seq != q.seq) })
  let (data, s2) := if later.isEmpty ∨ later.any (fun y => y.source == q.source) ∨ s.flag (O.ORDER_COMPAT c) then (q.data, s1)
    else let (v, s3) := s1.free; (if v % 2 = 0 then q.data else s.memRead w 16, s3)
  if q.forwarded then s2.emit (.memData q.source w data) else s2.wordRead q.source q.addr q.flips q.use data later.isEmpty

/-- The read served next (R421): a key-store read, the oldest hit of an open row, the oldest; the oldest too where younger hits have kept it
waiting for READ_AGE_NS. -/
def State.readPick (s : State) (c : Nat) (ready : List DramReq) : Option DramReq :=
  match ready.find? (fun q => q.source == 33 && s.storeBase != 0 && decide (s.storeBase ≤ q.addr)) with
  | some q => some q
  | none => match ready with
    | [] => none
    | q :: _ =>
      if q.at_ + s.rd (O.READ_AGE_NS c) / 5 ≤ s.now then some q
      else match ready.find? (fun x => look (s.chan c).rows (s.bankOf x.addr) == some (rowOf x.addr)) with
        | some x => some x
        | none => some q

/-- A channel serves what can be served: draining, the reads, then the writes (R421). -/
def State.requestsGo (s : State) (c : Nat) (force : Bool) : Nat → State
  | 0 => s
  | n + 1 =>
    if !force && !s.chServes c then s
    else
      let s1 := if (s.chan c).draining then s.writesGo c force 130 else s
      match s1.readPick c (((s1.chan c).rq.take 64).filter (s1.reqReady c force)) with
      | some q => State.requestsGo (s1.readServe c q) c force n
      | none =>
        let s2 := (s1.writesGo c force 130).inputGo c 64
        if s2.chan c = s.chan c then s2 else State.requestsGo s2 c force n

/-- A channel serves all that waits and can go now. -/
def State.dramGo (s : State) (c : Nat) : State := s.requestsGo c false 300

/-- What a channel has accepted is completed before self-refresh or a frequency change, and every bank precharged (R428, R434). -/
def State.dramFlush (s : State) (c : Nat) : State :=
  let n := (s.chan c).wq.length
  let s1 := s.requestsGo c true 300
  (if n = 0 then s1 else s1.bump (O.WQ_DRAINS c)).onChan c (fun x => { x with rows := [], draining := false })

/-- A codeword of memory read (R409). A hart's read that cannot be served ends in a bus error (R37). -/
def State.readMem (s : State) (source addr flips : Nat) (use : ReadUse) : State :=
  match s.memRefusal addr, use with
  | some a, .hart h => s.coreError a h addr 0
  | _, _ =>
    if !s.blockServed addr then s
    else match whereIs addr with
      | .dram c _ => (s.dramRequest c (s.newReq source addr 0 flips use) []).dramGo c
      | _ => s.wordRead source addr flips use (s.memRead (addr / 16 * 16) 16) true

/-! ## Writes and the scrubber (R408, R410) -/

/-- A write of `len` octets: whole codewords, in DRAM whole bursts, replace what was there; anything smaller is a read-modify-write, and one that
reads an uncorrectable error leaves the codeword poisoned (R408). -/
def State.partialWrite (s : State) (source a len val flips : Nat) : State :=
  match (if source < 20 then s.memRefusal a else none) with
  | some why => s.writeRefused source a why
  | none => (s.store source len a (octets val len) flips).onCores (fun c => { c with
      badLines := c.badLines.filter (fun l => decide (l < a / 64 ∨ (a + len - 1) / 64 < l)) })

/-- MEMORY_PARTIAL_WRITE (R408). -/
def execMemoryPartialWrite (t : Tick) (source addr len val flips : Nat) (s : State) : Host.Outcome State Fault Refusal :=
  .next ((s.tickTo t).partialWrite source addr len val flips)

/-- The next codeword of the brine pool the scrubber reads, from codeword `i` on: pans that are not ON are passed over. -/
def State.scrubNext (s : State) (i : Nat) : Nat → Option Nat
  | 0 => none
  | n + 1 =>
    let p := i / 262144 % 16
    if s.oct O.PAN_POWER p = 2 then some (i % 4194304) else s.scrubNext ((p + 1) * 262144) n

/-- The scrubber reads a codeword: a correctable one is written back, an uncorrectable one left as it is (R410). -/
def State.scrubWord (s : State) (memory a next flips : Nat) : State :=
  let s0 := match whereIs a with
    | .dram c _ => s.bump64 (O.READS c) 1
    | _ => s
  let j := s0.wordJudge a flips
  ((s0.wordSettle (fun _ => false) a flips j).memOutcome a 37 j.1 true).onMem (fun m => { m with scrub := put m.scrub memory next })

/-- The scrubber reads its next codeword of the brine pool or of a READY channel (R410). -/
def State.scrub (s : State) (memory flips : Nat) : State :=
  let i := lookD s.mem.scrub memory 0
  if memory = 0 then
    if s.rd O.MEM_SCRUB_PERIOD_S = 0 then s
    else match s.scrubNext i 17 with
      | some j => s.scrubWord memory (0x100000000 + 16 * j) (j + 1) flips
      | none => s
  else
    let c := memory - 1
    if s.rd (O.CH_SCRUB_PERIOD_S c) = 0 ∨ s.chState c ≠ 4 then s
    else
      let j := if 16 * i < s.fittedCap c then i else 0
      if s.rankHeld c (s.memOf (chanBase c + 16 * j)).2 then s
      else (s.chWakeIdle c).scrubWord memory (chanBase c + 16 * j) (j + 1) flips

/-- SCRUB_READ (R410). -/
def execScrubRead (t : Tick) (memory : Fin 3) (flips : Nat) (s : State) : Host.Outcome State Fault Refusal :=
  .next ((s.tickTo t).scrub memory.val flips)

/-! ## Pans (R413, R414) -/

/-- PAN_INIT_DONE: a pan in INIT is ON (R413). -/
def execPanInitDone (t : Tick) (pan : Fin 16) (s : State) : Host.Outcome State Fault Refusal :=
  let s1 := s.tickTo t
  .next (if s1.oct O.PAN_POWER pan.val = 1 then s1.panReady pan.val else s1)

/-- A write of PAN_RETAIN_REQ: reserved pans whose bit is 1 go from ON to RETAIN, those whose bit is 0 come back (R414). -/
def State.opPanRetain (s : State) (val : Nat) : Except Abort State :=
  if (List.range 16).any (fun p => bitAt val p && !s.flag O.PAN_RESERVE p) then .error .valueRange
  else .ok ((List.range 16).foldl (fun s p =>
    if !s.flag O.PAN_RESERVE p then s
    else if bitAt val p ∧ s.oct O.PAN_POWER p = 2 then s.wrOct O.PAN_POWER p 3
    else if !bitAt val p ∧ s.oct O.PAN_POWER p = 3 then s.wrOct O.PAN_POWER p 2
    else s) (s.wr O.PAN_RETAIN_REQ val))

/-! ## Channel commands (R419, R428, R434) -/

/-- Queued writes are lost: memory holds what it held before them (Table 13.9). -/
def State.writesLost (s : State) (c : Nat) : State :=
  ((s.chan c).wq.reverse.foldl (fun s q => s.memWrite q.addr (octets q.data q.len)) s).onChan c (fun x => { x with
    rq := [], wq := [], input := [], draining := false })

/-- Shedding, SLEEP or a controller test takes a channel into self-refresh: what it has accepted is completed, what waits at its input is
discarded (R428); one that changes its frequency goes on to its self-refresh state (R435). -/
def State.chSelfRefresh (s : State) (c : Nat) : State :=
  let st := s.chState c
  if st = 3 ∨ st = 4 then
    ((((s.dramFlush c).trainAbort c false).bump (O.SR_ENTRIES c)).setCh c 5).onChan c (fun x => { x with
      back := st, idle := false, rq := [], wq := [], input := [] })
  else if st = 5 then s.onChan c (fun x => { x with idle := false })
  else if st = 6 then s.onChan c (fun x => { x with change := x.change.map (fun y => (y.1, true)) })
  else s

/-- CH_COMMAND FREQ_CHANGE: CH_RESULT, and the state with the change begun (R434). -/
def State.freqChange (s : State) (c rate : Nat) (abort : Bool) : Nat × State :=
  let st := s.chState c
  let gathering : Bool := match (s.chan c).training with
    | some t => t.gathering
    | none => false
  if st = 5 then (4, s)
  else if st ≠ 3 ∧ st ≠ 4 then (1, s)
  else if gathering ∧ !abort then (3, s.bump (O.BUSY_TRAINING c))
  else if rate = 3 ∨ rate = s.rd (O.RATE_NOW c) then (5, s)
  else
    (0, (((((s.dramFlush c).trainAbort c false).setCh c 6).bump (O.FREQ_CHANGES c)).bump (O.SR_ENTRIES c)).onChan c (fun x => { x with
      change := some (rate, false) }))

/-- A write of CH_COMMAND (Table 12.5): the command's effect, with CH_RESULT for its requester. -/
def State.opChCommand (s : State) (r : Req) (c val : Nat) : Except Abort State :=
  let st := s.chState c
  let done := fun (x : Nat × State) => Except.ok (x.2.wrReq r (O.CH_RESULT c) x.1)
  match bits val 0 8 with
  | 1 => done (if st = 1 then (0, (s.setCh c 2).modeWrite c (s.rd (O.RATE_NOW c))) else (1, s))
  | 2 => done (if st ≠ 3 then (1, s) else if s.trained c (s.rd (O.RATE_NOW c)) then (0, s.setCh c 4) else (2, s))
  | 3 => done (s.freqChange c (bits val 8 2) (bitAt val 10))
  | 4 => done (if st = 0 then (1, s) else (0, s.chLose c 1))
  | _ => .error .valueRange

/-- CH_INIT_DONE: initialization ends in UNTRAINED with the stored results of the current rate, or in UNINIT where it failed (R419). -/
def execChInitDone (t : Tick) (ch : Fin 2) (ok : Bool) (s : State) : Host.Outcome State Fault Refusal :=
  let s1 := s.tickTo t
  let c := ch.val
  .next (if s1.chState c ≠ 2 then s1
    else if ok then ((s1.setCh c 3).zqAll c).applyResults c
    else (s1.setCh c 1).bump (O.INIT_FAIL c))

/-- FREQ_CHANGE_DONE: the channel runs at the new rate, READY or UNTRAINED by its results; one that a stage has shed meanwhile stays
in self-refresh (R434, R435). -/
def execFreqChangeDone (t : Tick) (ch : Fin 2) (s : State) : Host.Outcome State Fault Refusal :=
  let s1 := s.tickTo t
  let c := ch.val
  .next (match s1.chState c, (s1.chan c).change with
    | 6, some (rate, shed) =>
      let s2 := (s1.wr (O.RATE_NOW c) rate).onChan c (fun x => { x with change := none, lastRequest := s1.now })
      let st := if s2.trained c rate then 4 else 3
      if shed then (s2.setCh c 5).onChan c (fun x => { x with back := st, idle := false, input := [] })
      else
        let s3 := ((((s2.modeWrite c rate).setCh c st).zqAll c).applyResults c).trainStart c
        if st = 4 then (s3.inputGo c 64).dramGo c else s3.onChan c (fun x => { x with input := [] })
    | _, _ => s1)

/-- SR_IDLE_ENTRY: a READY channel whose queues have been empty for SR_IDLE_NS precharges its banks and enters self-refresh (R427). -/
def execSrIdleEntry (t : Tick) (ch : Fin 2) (s : State) : Host.Outcome State Fault Refusal :=
  let s1 := s.tickTo t
  let c := ch.val
  let ns := s1.rd (O.SR_IDLE_NS c)
  .next (if ns ≠ 0 ∧ s1.chState c = 4 ∧ (s1.chan c).rq = [] ∧ (s1.chan c).wq = [] ∧ (s1.chan c).input = [] ∧
      (s1.chan c).lastRequest + ceilDiv ns 5 ≤ s1.now then
      ((s1.setCh c 5).bump (O.SR_ENTRIES c)).onChan c (fun x => { x with back := 4, idle := true, rows := [], srAt := s1.now })
    else s1)

/-- SR_EXIT: a request to a channel in idle self-refresh brings it back; one that came before CKE low took effect is counted (R427). -/
def execSrExit (t : Tick) (ch : Fin 2) (s : State) : Host.Outcome State Fault Refusal :=
  let s1 := s.tickTo t
  .next (if s1.chState ch.val = 5 ∧ (s1.chan ch.val).idle then s1.chWakeIdle ch.val else s1)

/-- ZQ_OVERDUE: no calibration of a rank for another twice ZQ_PERIOD_MS (R426). -/
def execZqOverdue (t : Tick) (rank : Fin 4) (s : State) : Host.Outcome State Fault Refusal :=
  let s1 := s.tickTo t
  let c := rank.val / 2
  let r := (s1.chan c).rank (rank.val % 2)
  .next (if 3 ≤ s1.chState c ∧ s1.chState c ≤ 4 ∧
      r.lastZq + 2 * (r.overdue + 1) * s1.rd (O.ZQ_PERIOD_MS c) * msTk ≤ s1.now then
      (s1.bump (O.ZQ_OVERDUE c)).onChan c (fun x => x.onRank (rank.val % 2) (fun y => { y with overdue := y.overdue + 1 }))
    else s1)

/-! ## The lay's DRAM entries (R109, R425, R426) -/

/-- Every bank of a rank is precharged as its window opens (R425). -/
def State.precharge (s : State) (c rank : Nat) : State := s.onChan c (fun x => { x with rows := x.rows.filter (fun r => r.1 / 16 != rank) })

/-- A REFRESH entry: COUNT refreshes and the rank's window, unless the channel is not initialized or refreshes itself (R425). -/
def State.dramRefresh (s : State) (rank count : Nat) : State :=
  let c := rank / 2
  let st := s.chState c
  if st = 3 ∨ st = 4 then
    (((s.forceWaiting c (rank % 2)).bumpBy (O.REFRESHES c) count).precharge c (rank % 2)).onChan c (fun x =>
      x.onRank (rank % 2) (fun y => { y with refreshOpen := true }))
  else if st = 0 then s
  else s.bump (O.REFRESH_SKIPPED c)

/-- DRAM_REFRESH; the boot lay holds these entries too (R11). -/
def execDramRefresh (t : Tick) (rank : Fin 4) (count : Fin 256) (s : State) : Host.Outcome State Fault Refusal :=
  let s1 := s.tickTo t
  let id := 0x438 + rank.val
  .next (if (s1.entryWake id).shedHere id (shedAt id) then (s1.entryWake id).bump O.STAGE_SKIPPED else (s1.entryWake id).dramRefresh rank.val count.val)

/-- A MAINT entry: a ZQCS where one is due, then the rest of the window for the training helper (R426, R430). -/
def State.dramMaint (s : State) (rank : Nat) (closes : Tick) : State :=
  let c := rank / 2
  let k := rank % 2
  let st := s.chState c
  if st = 3 ∨ st = 4 then
    let s1 := ((s.forceWaiting c k).bump (O.MAINT_WINDOWS c)).precharge c k
    let due := decide (((s.chan c).rank k).lastZq + s.rd (O.ZQ_PERIOD_MS c) * msTk ≤ s.now)
    let s2 := if due then
        (s1.bump (O.ZQ_RUNS c)).onChan c (fun x => x.onRank k (fun y => { y with lastZq := s.now, overdue := 0 }))
      else s1
    (s2.onChan c (fun x => x.onRank k (fun y => { y with maintUntil := some closes }))).trainStart c
  else s

/-- DRAM_MAINT. -/
def execDramMaint (t : Tick) (rank : Fin 4) (closes : Tick) (s : State) : Host.Outcome State Fault Refusal :=
  .next ((s.tickTo t).entryOn (0x438 + rank.val) (shedAt (0x438 + rank.val)) (fun s => s.dramMaint rank.val closes))

/-- An END entry closes the rank's window: what waited for the rank is served (R424, R425). -/
def State.dramEnd (s : State) (rank : Nat) : State :=
  ((s.onChan (rank / 2) (fun x => x.onRank (rank % 2) (fun y => { y with refreshOpen := false, maintUntil := none }))).trainStart
    (rank / 2)).dramGo (rank / 2)

/-- DRAM_END. -/
def execDramEnd (t : Tick) (rank : Fin 4) (s : State) : Host.Outcome State Fault Refusal :=
  .next ((s.tickTo t).dramEnd rank.val)

/-! ## Training (R430 to R433) -/

/-- A write of TRAIN_COMMAND: refused with TRAIN_REFUSE, or the step waits or begins (R432). -/
def State.opTrainCommand (s : State) (r : Req) (val : Nat) : Except Abort State :=
  let c := bits val 0 1
  let rank := bits val 1 1
  let step := bits val 4 4
  let st := s.chState c
  let refuse := fun n => Except.ok (s.wrReq r O.TRAIN_REFUSE n)
  if (s.chan c).training.isSome then refuse 1
  else if s.chShed c then refuse 3
  else if st ≠ 3 ∧ st ≠ 4 then refuse 2
  else if step = 0 ∨ 6 < step ∨ s.rankCount c ≤ rank then refuse 4
  else
    .ok ((((s.wrReq r O.TRAIN_REFUSE 0).setSt O.TRAIN_STATUS 12 4 1).onChan c (fun x => { x with
      training := some { rank := rank, step := step, gathering := false, runs := [] } })).trainStart c)

/-- TRAIN_RUN_DONE: a run of the step that gathers, where its rank lets it run; two agreeing runs in a row are accepted, five without agreement
fail (R430, R431). -/
def execTrainRunDone (t : Tick) (ch : Fin 2) (run : List (Nat × Nat)) (s : State) : Host.Outcome State Fault Refusal :=
  let s1 := s.tickTo t
  let c := ch.val
  .next (match (s1.chan c).training with
    | some k =>
      if k.gathering ∧ s1.trainOpen c k.rank ∧ run.length = stepValues k.step then
        let runs := k.runs ++ [run]
        let s2 := (s1.wrLen O.TRAIN_RUNS (288 * runs.length) (runsValue runs)).onChan c (fun x => { x with
          training := some { k with runs := runs } })
        let s3 := if 2 < runs.length then s2.bump O.TRAIN_RERUNS else s2
        match k.runs.getLast? with
        | some prev =>
          if runsAgree k.step prev run then s3.trainAccept c k prev run
          else if runs.length = 5 then
            (((s3.bump O.TRAIN_FAILS).setSt O.TRAIN_STATUS 12 4 4).raiseEv O.TRAIN_STATUS 1).onChan c (fun x => { x with
              training := none })
          else s3
        | none => s3
      else s1
    | none => s1)

/-- A write of TRAIN_TABLE, by its decoded content: saved results restored for another rate, or for the current one while the channel
is UNTRAINED (R433). -/
def State.opTrainTable (s : State) (c : Nat) (entries : List TrainEntry) : Except Abort State :=
  if entries.any (fun e => e.rate == s.rd (O.RATE_NOW c)) && s.chState c != 3 then .error .valueRange
  else if entries.any (fun e => decide (2 < e.rate) || decide (1 < e.rank) || e.step == 0 || decide (6 < e.step)) then
    .error .valueRange
  else .ok (s.onChan c (fun x => { x with results := entries.foldl putResult x.results }))

end Sys2Proof.Machine
end

