-- ==== Sys2Proof/Machine/Classify.lean ====
section
/-!
DEFINITION. FRAME_CLASSIFY (09, §4, §5): the next frame in hint order is parsed, matched, acted on (R334) and sent to its destination, with the
class rules of R336 and R337 and the hitch path of R338.
-/
namespace Sys2Proof.Machine

/-- A frame put together again. -/
def Parts.join (x : Parts) : List Byte := match x.mac with
  | some m => m ++ x.tags.flatMap tagOctets ++ beOctets x.ety 2 ++ x.body
  | none => x.body

/-- What the classifier holds of a frame. -/
structure Seen where
  frame : EthFrame
  walk : Walk
  action : Nat
  index : Nat

/-- The UDP ports of the innermost datagram as one number. -/
def Seen.l4 (v : Seen) : Nat := v.walk.srcL4 * 65536 + v.walk.dstL4

/-- The frame with its rule's pops and rewrite done. -/
def State.actedOn (s : State) (v : Seen) : Parts :=
  rewriteParts (actRewrite v.action) (s.pop v.frame v.walk (bits v.action 49 2) (bitAt v.action 51))

/-- The class of a frame (R336). -/
def Seen.cls (v : Seen) : Nat :=
  if bitAt v.action 7 then bits v.action 8 2 else if v.frame.src = 5 then 3 else v.frame.cls

/-- The frame's IPv6 destination lies under a valid prefix of CONTEXTS (R335). -/
def State.underContext (s : State) (v : Seen) : Bool :=
  let d := beOctets v.walk.dst 16
  v.walk.l3 == 2 && (List.range 16).any (fun n =>
    let c := s.ctx n
    c.1 && overlay c.2.2 c.2.1 d == d)

/-- A destination: RADIO, QUEUE with its next hop and queue, FLOW, EXCEPTION, or none (R335). -/
inductive Dest where
  | radio
  | queue (hop : Nat) (queue : Option Nat)
  | flow (n : Nat)
  | exception
  | noRoute
deriving DecidableEq, Repr

/-- The destination of a frame. -/
def State.destOf (s : State) (v : Seen) : Dest :=
  match bits v.action 0 3 with
  | 1 => .queue (bits v.action 17 8) (if bitAt v.action 10 then none else some (bits v.action 11 6))
  | 2 => .radio
  | 3 => .flow (bits v.action 33 16)
  | 4 => .exception
  | _ =>
    if v.frame.src = 4 then .queue (s.rd O.DEFAULT_UPLINK_NEXT_HOP) none
    else if s.underContext v then .radio else .noRoute

/-- The innermost IPv6 datagram of a frame. -/
def Seen.datagram (v : Seen) : List Byte := match v.walk.ip with
  | some p => (v.frame.data.drop p).take (v.walk.ipEnd - p)
  | none => []

/-- The downlink hitch of a datagram's sensor with the frame's ingress port (Table 9.9). -/
def State.downHitch (s : State) (v : Seen) : Option HitchInfo :=
  if 4 ≤ v.frame.src ∨ v.walk.l3 ≠ 2 then none
  else ((s.dlSensor ((v.datagram.drop 24).take 16)).bind (fun i => s.hitchFor i true)).filter (fun h =>
    h.port == v.frame.src && s.hitchKeyed h.sensor)

/-- The class a frame keeps for its destination, with its demotion counted under the first row of Table 9.9 that tells of it (R337), and the
downlink hitch it is carried for. -/
def State.classFor (s : State) (v : Seen) (d : Dest) : Nat × Option HitchInfo × State :=
  if v.cls ≠ 0 then (v.cls, none, s)
  else match d, s.downHitch v with
    | .radio, some h => if v.frame.hint = 0 then (0, some h, s) else (1, none, s.bump O.C0_HINT)
    | _, _ => (1, none, s.bump O.C0_NO_HITCH)

/-- DEST RADIO (R324, R334, R343): the innermost IPv6 datagram, rewritten and its hop limit decremented, goes to the air MAC. A datagram
matched to its hitch is identified there, whatever becomes of it (R32, R34). -/
def State.toRadio (s : State) (v : Seen) (cls : Nat) (h : Option HitchInfo) : State :=
  let f := { v.frame with hitch := h.map (fun i => i.num) }
  let s0 := match h with
    | some i => s.hitchCarry i.num
    | none => s
  if f.oversize then (s0.bump O.RADIO_OVERSIZE).frameLost f 2
  else if v.walk.l3 ≠ 2 then (s0.bump O.RADIO_NOT_IPV6).frameLost f 2
  else match decHop (rewriteParts (actRewrite v.action) { mac := none, tags := [], ety := 0x86DD, body := v.datagram }) with
    | none => s0.hopGone f v.index
    | some x =>
      let (_, js, s3) := (s0.bump O.RADIO_HANDED).dlHand x.body cls (bits v.action 33 16) f.hitch f.at_
      let s4 := settle (js, s3)
      match f.host with
      | some m => s4.complete m 0 false false
      | none => s4

/-- A frame that is no uplink hitch frame goes to its destination. -/
def State.routeFrame (s : State) (v : Seen) : State :=
  let d := s.destOf v
  let (cls, h, s1) := s.classFor v d
  let f := { v.frame with cls := cls, hitch := none }
  let x := s1.actedOn v
  match d with
  | .radio => s1.toRadio { v with frame := f } cls h
  | .queue n q => s1.sendHop f (s1.pop f v.walk (bits v.action 49 2) (bitAt v.action 51)) n q (actRewrite v.action) v.l4 v.index
  | .flow n => s1.flowDeliver { f with data := x.join } n
  | .exception => s1.exceptionDeliver { f with data := x.join } 3 v.index
  | .noRoute =>
    let s2 := s1.bump O.NO_ROUTE
    if f.src = 5 then s2.frameLost f 2 else s2.exceptionDeliver f 5 v.index

/-- The ply link of a hitch's tagged TX_PLY entries. -/
def State.hitchLink (s : State) (h : Nat) : Option Nat :=
  ((taggedOf s.runWords s.runSec h).find? (fun e => eKind e.w == 1 && eAction e.w == 2)).bind (fun e => e.cell.map (fun c => ceLink (s.cell c)))

/-- A hitch's frame handed to its ply link (R28). -/
def State.hitchToPly (s : State) (v : Seen) (h link : Nat) : State :=
  let id := s.mac.nextId
  let s1 := s.onMac (fun m => { m with nextId := (m.nextId + 1) % 2 ^ 32 })
  s1.plyEnqueue link
    { id := id, sensor := 0x3FFFF, cls := 0, flow := bits v.action 33 16, hitch := some h, at_ := v.frame.at_, expires := 0,
      data := v.frame.data, psdus := [], total := 0, attempts := 0, tries := 0, aired := false }

/-- An uplink hitch frame (R338): by its hitch's port and queue, or demoted to C1, which diverts it (R34), and carried as any other. -/
def State.hitchFrame (s : State) (v : Seen) (h : HitchInfo) : State :=
  let rest := fun (k : Nat) => ((s.bump k).hitchGone v.frame).routeFrame { v with frame := { v.frame with cls := 1, hitch := none } , action := clearBit v.action 7 }
  let n := s.oct O.HITCH_NEXT_HOP h.port
  if plyEgress s.runWords h then match s.hitchLink h.num with
    | some l => s.hitchToPly v h.num l
    | none => rest O.C0_NO_NEXT_HOP
  else if s.hitchHopBad h.port then rest O.C0_NO_NEXT_HOP
  else
    let x := s.partsOf v.frame
    let long : Bool := match s.buildHop false (s.nhEntry n) (s.qPcp h.port h.queue) v.l4 x with
      | some (d, _) => decide (h.frameMax < max 64 (d.length + 4))
      | none => false
    if long then rest O.C0_TOO_LONG else s.sendHop { v.frame with cls := 0 } x n (some h.queue) none v.l4 v.index

/-- One frame parsed, matched and acted on. -/
def State.classify (s : State) (f : EthFrame) : State :=
  let w := s.parseFrame f
  let s0 := if w.deep then s.bump O.DEPTH_EXCEEDED else s
  if w.zero then (s0.bump O.LEN_ZERO).frameLost f 2
  else if w.conflict then
    let s1 := s0.bump O.LEN_CONFLICT
    (if s1.flag O.LEN_MIRROR then s1.exceptionDeliver { f with hitch := none, host := none } 2 0xFFFF else s1).frameLost f 2
  else
    let (index, action) := match s0.ruleFor (keyOf f w) with
      | some (i, r) => (i, r.action)
      | none => (0xFFFF, 0)
    let v : Seen := { frame := f, walk := w, action := action, index := index }
    let s1 := if bitAt action 4 then s0.ruleHit index (f.data.length + (if f.src = 4 then 0 else 4)) else s0
    let s2 := s1.mirror f action index
    if w.deep ∧ s2.rd O.DEPTH_POLICY = 0 then (s2.exceptionDeliver { f with hitch := none } 1 index).hitchGone f
    else if bitAt action 3 then (s2.bump O.RULE_DROPPED).frameLost f 2
    else match f.hitch.bind s2.hitchNum with
      | some h => s2.hitchFrame v h
      | none => s2.routeFrame v

/-- The frame that the parser serves next: the lowest hint, in arrival order (R331). -/
def nextParse (l : List EthFrame) : Option EthFrame :=
  l.foldl (fun b f => match b with
    | none => some f
    | some x => if f.hint < x.hint then some f else some x) none

/-- A frame classified under the values of the groups of boundary FRAME that were in force at the end of its reception (R326): the objects
that a commit since has replaced stand as they were while it is processed. -/
def State.classifyUnder (s : State) (f : EthFrame) : State :=
  let old := (s.eth.past.filter (fun e => decide (f.at_ < e.1))).flatMap (fun e => e.2)
  let now := old.map (fun e => (e.1, s.rd e.1))
  let under := fun (s : State) (l : List (Nat × Nat)) => l.foldl (fun s e => s.wr e.1 e.2) s
  under ((under s old.reverse).classify f) now

/-- FRAME_CLASSIFY. -/
def execFrameClassify (t : Tick) (s : State) : Host.Outcome State Fault Refusal :=
  let s1 := s.tickTo t
  .next (match nextParse s1.eth.parse with
    | some f => (s1.onEth (fun e => { e with parse := e.parse.filter (fun x => x.num != f.num) })).classifyUnder f
    | none => s1)

end Sys2Proof.Machine
end

