-- ==== Sys2Proof/Machine/CtrOps.lean ====
section
/-!
DEFINITION. Snapshots, clears and exports of the event counters (14, R469 to R475) and the counter selection group (R467).
-/
namespace Sys2Proof.Machine

/-- The values of all 64 counters, counter 0 first. -/
def State.counters (s : State) : Nat := (List.range 64).foldl (fun v n => v + lookD s.ctr.counts n 0 * 2 ^ (64 * n)) 0

/-- The header of a snapshot (R471): SNAP_SEQ, CAUSE (1 COMMAND, 2 SLOT, 3 EXPORT), the ASN and the time of the cycle. -/
def State.snapInfo (s : State) (cause : Nat) : Nat :=
  s.ctr.snapSeq % 2 ^ 32 + cause * 2 ^ 32 + s.lay.asn % 2 ^ 64 * 2 ^ 64 + time80 s.netNow * 2 ^ 128

/-- A snapshot into HOLD (R471). -/
def State.snapshot (s : State) (cause : Nat) : State :=
  let s1 := s.countAll s.now
  let s2 := s1.onCtr (fun c => { c with snapSeq := c.snapSeq + 1 })
  ((s2.wr O.HOLD s2.counters).wr O.HOLD_INFO (s2.snapInfo cause)).raiseEv O.COUNTER_EVENTS 1

/-- Every counter is set to zero (R472). -/
def State.countersClear (s : State) : State := (s.countAll s.now).onCtr (fun c => { c with counts := [] })

/-- SNAP_COMMAND (R471, R472). -/
def State.opSnap (s : State) (val : Nat) : Except Abort State :=
  match val with
  | 1 => .ok (s.snapshot 1)
  | 2 => .ok s.countersClear
  | 3 => .ok (s.snapshot 1).countersClear
  | _ => .error .valueRange

/-- An export period ends (R474, R475): a record in the ring, or at S1 or deeper one more skipped period. -/
def State.exportTick (s : State) : State :=
  if 1 ≤ s.stage then s.bump O.EXPORT_SKIPPED
  else
    let s1 := (s.countAll s.now).onCtr (fun c => { c with snapSeq := c.snapSeq + 1 })
    let rec_ := s1.snapInfo 3 + s1.counters * 2 ^ 256
    let s2 := if s1.ctr.ring.length < 16 then s1 else s1.raiseEv O.COUNTER_EVENTS 3
    (s2.onCtr (fun c => { c with ring := pushRing 16 c.ring rec_ })).raiseEv O.COUNTER_EVENTS 2

/-- A commit of group 0xA001 is refused with SOURCE_RESERVED (R467), `sv` the shadow values. -/
def State.selectCheck (s : State) (sv : Nat → Nat) : Option Nat :=
  if (List.range 64).any (fun n => bitAt (sv (recKey 0xA001 (n + 1))) 12 && (s.reading (sv (recKey 0xA001 (n + 1)) % 512)).isNone) then
    some 0x40
  else none

/-- Group 0xA001 has applied, `old` the state before (R467): counters with a new SOURCE or SATURATE are zero, every source is read anew. -/
def State.selectApplied (s old : State) : State :=
  let o := old.countAll old.now
  let fresh := fun (n : Nat) => (s.selectOf n ^^^ o.selectOf n) &&& 0x21FF != 0
  let s1 := { s with ctr := { o.ctr with counts := o.ctr.counts.filter (fun e => !fresh e.1), seen := [] } }
  let s2 := (s1.wr O.OVF_MAP (o.rd O.OVF_MAP)).wr O.COUNTER_EVENTS (o.rd O.COUNTER_EVENTS)
  s2.countAll s2.now

/-- Every wake of domain LAY sets the counters to zero (R469). -/
def State.countersWake (s : State) : State :=
  (s.onCtr (fun c => { c with counts := [], seen := [] })).countAll s.now

/-! ## The rows of the table -/

/-- EXPORT_TIMER. -/
def execExportTimer (t : Tick) (s : State) : Host.Outcome State Fault Refusal :=
  let s1 := s.tickTo t
  let p := s1.rd O.EXPORT_PERIOD_MS * msTk
  .next (if p = 0 ∨ s1.now < s1.ctr.exportAt + p ∨ !s1.domainUp 8 then s1
    else (s1.onCtr (fun c => { c with exportAt := c.exportAt + p })).exportTick)

end Sys2Proof.Machine
end

