-- ==== Sys2Proof/Machine/Programs.lean ====
section
/-!
DEFINITION. The test programs of Table 14.4: where each may run, what it covers, its worst-case duration, its overhead and the time
its block needs after END.
-/
namespace Sys2Proof.Machine

/-- A row of Table 14.4; overhead in units of 1 mW for the resource asked about is `testOverhead`. -/
structure TestProg where
  test : Nat
  coverage : Nat
  duration : Nat
  overhead : Nat
  back : Nat
deriving DecidableEq, Repr

/-- Table 14.4, coverage in 0.01 % and the overhead of the highest band. -/
def testProgs : List TestProg := [
  { test := 0x01, coverage := 9000, duration := 800000, overhead := 480, back := 10000 },
  { test := 0x02, coverage := 9000, duration := 200000, overhead := 480, back := 10000 },
  { test := 0x20, coverage := 9500, duration := 400000, overhead := 3, back := 2000 },
  { test := 0x21, coverage := 9800, duration := 1600000, overhead := 3, back := 2000 },
  { test := 0x30, coverage := 9700, duration := 100000, overhead := 12, back := 400 },
  { test := 0x40, coverage := 9400, duration := 1200000, overhead := 200, back := 20000 },
  { test := 0x50, coverage := 9600, duration := 40000, overhead := 40, back := 400 },
  { test := 0x60, coverage := 10000, duration := 700000, overhead := 60, back := 80000 },
  { test := 0x70, coverage := 9500, duration := 200000, overhead := 400, back := 2000 },
  { test := 0x80, coverage := 9600, duration := 400000, overhead := 800, back := 400 },
  { test := 0x81, coverage := 9600, duration := 400000, overhead := 800, back := 400 },
  { test := 0x90, coverage := 10000, duration := 100000, overhead := 80, back := 400 },
  { test := 0xA0, coverage := 9300, duration := 200000, overhead := 320, back := 8000 }]

/-- The row of a TEST_ID. -/
def testProg (test : Nat) : Option TestProg := testProgs.find? (fun p => p.test == test)

/-- A TEST_ID is listed for a resource (R476). -/
def testFits (test id : Nat) : Bool :=
  match test with
  | 0x01 => id == 0 || id == 4 || id == 8
  | 0x02 => id == 0 || id == 4 || id == 8
  | 0x20 => poolOf id == 1
  | 0x21 => poolOf id == 1
  | 0x30 => poolOf id == 2
  | 0x40 => poolOf id == 3
  | 0x50 => decide (0x430 ≤ id ∧ id ≤ 0x433)
  | 0x60 => decide (0x440 ≤ id ∧ id ≤ 0x44F)
  | 0x70 => decide (0x450 ≤ id ∧ id ≤ 0x452)
  | 0x80 => id == 0x454
  | 0x81 => id == 0x454
  | 0x90 => id == 0x455
  | 0xA0 => id == 0x458 || id == 0x459
  | _ => false

/-- The overhead of a test on a resource, in mW (Table 14.4). -/
def testOverhead (test id : Nat) : Nat :=
  if test = 0x01 ∨ test = 0x02 then (if id = 0 then 240 else if id = 4 then 360 else 480)
  else if test = 0x70 then (if id = 0x450 then 100 else if id = 0x451 then 200 else 400)
  else match testProg test with
    | some p => p.overhead
    | none => 0

/-- The time a block needs after END, in ticks. -/
def testBack (test : Nat) : Nat := match testProg test with
  | some p => p.back
  | none => 0

end Sys2Proof.Machine
end

