-- ==== Sys2Proof/Machine/TestOps.lean ====
section
/-!
DEFINITION. Built-in self-test (14, §2): the test log (R480), isolation (R477), verdicts and what they lead to (R479), reinitialization
(R478, R481), cancellation, and requests under the boot lay (R483).
-/
namespace Sys2Proof.Machine

/-! ## The log (R479, R480) -/

/-- Counters of record 0xA140 by outcome: 0 PASS, 1 FAIL, 2 INCOMPLETE, 3 CANCELLED, 4 SKIPPED. -/
def outcomeKey (o : Nat) : Nat := recKey 0xA140 (o + 2)

/-- An outcome logged, counted and flagged; a verdict goes into LAST_TESTED. -/
def State.testLog (s : State) (r : TestRun) (outcome failCode detail : Nat) : State :=
  let verdict : Bool := decide (outcome ≤ 1)
  let cover := if verdict then (match testProg r.test with
    | some p => p.coverage
    | none => 0) else 0
  let dur := if outcome = 4 then 0 else s.now - r.at_
  let e := s.ctr.logCount % 2 ^ 32 + r.asn % 2 ^ 40 * 2 ^ 32 + r.logical % 2 ^ 12 * 2 ^ 72 + r.member % 2 ^ 12 * 2 ^ 84 +
    r.test % 2 ^ 8 * 2 ^ 96 + outcome * 2 ^ 104 + failCode * 2 ^ 112 + detail * 2 ^ 120 + dur % 2 ^ 32 * 2 ^ 128 +
    cover * 2 ^ 160 + s.uptimeUs % 2 ^ 64 * 2 ^ 192
  let s1 := if s.ctr.log.length < 256 then s else s.raiseEv O.TEST_EVENTS 5
  let s2 := s1.onCtr (fun c => { c with
    log := pushRing 256 c.log e
    logCount := c.logCount + 1
    last := if verdict then
        put c.last r.member (r.asn % 2 ^ 40 + outcome * 2 ^ 40 + 2 ^ 43 + r.test % 2 ^ 8 * 2 ^ 48)
      else c.last })
  let s3 := (s2.raiseEv O.TEST_EVENTS outcome).bump (outcomeKey outcome)
  if verdict then s3.onPlc (fun p => { p with tested := put p.tested r.member (max 1 s.now) }) else s3

/-! ## Isolation (R477) -/

/-- The key-cache bank tested longest ago: neither the spare nor retired (R307). -/
def State.oldestBank (s : State) : Option Nat :=
  ((List.range 17).filter (fun b => bitAt (s.rd O.CACHE_BANKS) b && s.cph.spareBank != some b)).foldl
    (fun (b : Option Nat) (k : Nat) => match b with
      | none => some k
      | some j => if lookD s.cph.bankTested k 0 < lookD s.cph.bankTested j 0 then some k else some j) none

/-- A pan holds data or belongs to firmware (R148). -/
def State.panHolds (s : State) (p : Nat) : Bool := !(s.objsAt (panLoc p)).isEmpty || s.pan p == 2 || s.flag O.PAN_RESERVE p

/-- Why a test on a resource is skipped: DETAIL of Table 14.6. -/
def State.testBlocked (s : State) (member test : Nat) : Option Nat :=
  if test = 0x60 ∧ s.panHolds (member - 0x440) then some 4
  else if test = 0x90 ∧ s.cph.spareBank.isNone then some 5
  else none

/-- A block leaves service for a test. -/
def State.isolate (s : State) (member : Nat) : State :=
  if 0x100 ≤ member ∧ member ≤ 0x3FF then s.laneOut (member - 0x100) 8 .window
  else if 0x400 ≤ member ∧ member ≤ 0x41F then (s.engineYield (member - 0x400)).engineLost (member - 0x400) 3
  else if 0x420 ≤ member ∧ member ≤ 0x42F then s.hartStop (member - 0x420) 5
  else if 0x440 ≤ member ∧ member ≤ 0x44F then
    (s.setPan (member - 0x440) 6).memClear (panBase (member - 0x440)) (panBase (member - 0x43F))
  else if 0x450 ≤ member ∧ member ≤ 0x452 then s.streamsOff (streamsOf (member - 0x450))
  else if member = 0x455 then
    match s.oldestBank with
    | some b => s.onCph (fun c => { c with spareBank := none, bankTest := some b })
    | none => s
  else if member = 0x458 then s.chSelfRefresh 0
  else if member = 0x459 then s.chSelfRefresh 1
  else s

/-- DETAIL of a PASS or FAIL: the key-cache bank or the PKT pipeline tested. -/
def State.testDetail (s : State) (member test : Nat) : Nat :=
  if member = 0x455 then s.cph.bankTest.getD 0 else if test = 0x81 then 1 else 0

/-- A test on a member begins, or is skipped (R479). -/
def State.testBegin (s : State) (logical member test : Nat) (request : Bool) : State :=
  let back := if 0x420 ≤ member ∧ member ≤ 0x42F then s.hartState (member - 0x420) else 0
  let r : TestRun :=
    { logical := logical, member := member, test := test, at_ := s.now, asn := s.lay.asn, request := request, judged := false,
      failed := false, detail := 0, back := back }
  match s.testBlocked member test with
  | some d =>
    let s1 := (s.testLog r 4 0 d).bump O.TEST_NOT_CLEAR
    if d = 4 then
      let p := member - 0x440
      let s2 := if s1.pan p = 3 then (s1.setPan p 1).onPlc (fun q => { q with evac := del q.evac p }) else s1
      s2.journal s2.lay.asn 0x08 8 0 logical noId noId p 4 test
    else s1
  | none =>
    let s1 := (s.bump (recKey 0xA140 1)).isolate member
    s1.onCtr (fun c => { c with tests := c.tests ++ [{ r with detail := s1.testDetail member test }] })

/-- A TEST RUN whose ID has no member is skipped (R136). -/
def State.testNoMember (s : State) (logical test : Nat) : State :=
  s.testLog { logical := logical, member := logical, test := test, at_ := s.now, asn := s.lay.asn, request := false, judged := false,
              failed := false, detail := 0, back := 0 } 4 0 6

/-! ## The end of a test (R478, R481) -/

/-- A key-cache bank's test is over (R307): it becomes the spare, or is retired; a second retired bank costs 1,024 slots. -/
def State.bankEnds (s : State) (failed : Bool) : State :=
  match s.cph.bankTest with
  | none => s
  | some b =>
    let s1 := s.onCph (fun c => { c with bankTest := none, bankTested := put c.bankTested b s.now })
    if !failed then s1.onCph (fun c => { c with spareBank := some b })
    else
      let left := clearBit (s1.rd O.CACHE_BANKS) b
      let n := ((List.range 17).filter (bitAt left)).length
      ((s1.wr O.CACHE_BANKS left).wr O.CACHE_CAPACITY (min 16384 (1024 * n))).cacheTrim

/-- A test is over and its block reinitializes, or is out of service for good; a controller's channel and a pan begin to return at once. -/
def State.testOver (s : State) (r : TestRun) : State :=
  let s1 := s.onCtr (fun c => { c with
    tests := c.tests.filter (fun x => x.member != r.member)
    reinit := c.reinit ++ [{ member := r.member, test := r.test, back := r.back, at_ := s.now + testBack r.test, failed := r.failed }] })
  let m := r.member
  if r.failed ∧ poolOf m ≠ 0 then
    if m < 0x400 then s1.laneOut (m - 0x100) 9 .window
    else if m < 0x420 then s1.engineLost (m - 0x400) 4
    else s1.setHart (m - 0x420) 6
  else if m = 0x455 then s1.bankEnds r.failed
  else if 0x440 ≤ m ∧ m ≤ 0x44F ∧ !r.failed then s1.panInit (m - 0x440)
  else if m = 0x458 then s1.chReturn 0
  else if m = 0x459 then s1.chReturn 1
  else s1

/-- TEST END: a test without a verdict is INCOMPLETE; the block reinitializes. -/
def State.testEnd (s : State) (member : Nat) : State :=
  match s.ctr.tests.find? (fun x => x.member == member) with
  | none => s
  | some r => (if r.judged then s else s.testLog r 2 0 0).testOver r

/-- Tests are cancelled (R118, R127, R479), `detail` 1 LAY_SWAP, 2 STAGE, 3 DOMAIN. -/
def State.testCancel (s : State) (detail : Nat) (p : TestRun → Bool) : State :=
  (s.ctr.tests.filter p).foldl (fun s r =>
    let s1 := if r.judged then s
      else
        let s1 := s.testLog r 3 0 detail
        if detail ≤ 2 then s1.bump O.TEST_CANCELLED else s1
    s1.testOver r) s

/-- A hart comes back from its test (R478). -/
def State.hartReinit (s : State) (h back : Nat) : State :=
  if s.hartState h ≠ 5 then s
  else if back = 2 ∨ back = 3 then
    ((s.setHart h 2).onHart h (fun x => { x with pc := s.rd O.HART_ENTRY, priv := 3, a0 := h, a1 := 1 })).hartBack
  else if s.barred (0x420 + h) then s.setHart h 6
  else (s.setHart h (if back = 6 then 1 else back)).hartBack

/-- A block is back in service. -/
def State.reinitDone (s : State) (r : Reinit) : State :=
  let s1 := s.onCtr (fun c => { c with reinit := c.reinit.filter (fun x => x.member != r.member) })
  let m := r.member
  if 0x100 ≤ m ∧ m ≤ 0x3FF then (if s1.laneState (m - 0x100) = 8 then s1.setLane (m - 0x100) (if r.failed ∨ s1.barred m then 9 else 1) else s1)
  else if 0x400 ≤ m ∧ m ≤ 0x41F then
    (if s1.engine (m - 0x400) = 3 then (s1.setEngine (m - 0x400) (if r.failed ∨ s1.barred m then 4 else 1)).cphGo else s1)
  else if 0x420 ≤ m ∧ m ≤ 0x42F then (if r.failed then s1 else s1.hartReinit (m - 0x420) r.back)
  else if 0x430 ≤ m ∧ m ≤ 0x433 then s1.sluiceAgain (m - 0x430)
  else if 0x450 ≤ m ∧ m ≤ 0x452 then
    if s1.rxLive (m - 0x450) then s1.streamsOn (streamsOf (m - 0x450)) else s1
  else s1

/-! ## Verdicts (R479) -/

/-- A member that fails is retired at once (R145), its TEST state holding until END (R481); a pan goes PAN_STATE RETIRED. -/
def State.testRetire (s : State) (r : TestRun) : State :=
  let m := r.member
  if poolOf m ≠ 0 then s.retireMember m r.logical 0x01 r.test
  else if 0x440 ≤ m ∧ m ≤ 0x44F then
    ((s.setPan (m - 0x440) 5).bump O.RETIREMENTS).journal s.lay.asn 0x01 2 0 r.logical m noId (m - 0x440) 4 r.test
  else s

/-- A verdict comes, `code` 0 for a PASS (Table 14.5); a requested test ends with it (R483). -/
def State.testVerdict (s : State) (member code : Nat) : State :=
  match s.ctr.tests.find? (fun x => x.member == member && !x.judged) with
  | none => s
  | some r =>
    let bad : Bool := code != 0
    let r1 := { r with judged := true, failed := bad }
    let s0 := s.onCtr (fun c => { c with tests := c.tests.map (fun x => if x.member = member then r1 else x) })
    let s1 := s0.testLog r (if bad then 1 else 0) code r.detail
    let s2 :=
      if bad then (s1.faultN 6).testRetire r
      else if s1.plc.probation.contains member then
        (s1.onPlc (fun p => { p with probation := p.probation.filter (· != member), ineligible := del p.ineligible member })).journal
          s1.lay.asn 0x01 9 ((classOf s1.runWords member).getD 0) r.logical member member 0 0 r.test
      else s1
    if r.request then s2.testOver r1 else s2

/-! ## Requests under the boot lay (R483) -/

/-- A resource that a test names is retired. -/
def State.testRetired (s : State) (id : Nat) : Bool :=
  s.retired id || (decide (0x440 ≤ id ∧ id ≤ 0x44F) && s.pan (id - 0x440) == 5)

/-- The check of R483 that a request fails first, in the order of its table; 0 where it starts. -/
def State.requestResult (s : State) (r : Req) (id test : Nat) : Nat :=
  let load := s.ctr.tests.foldl (fun n x => n + testOverhead x.test x.member) 0 + testOverhead test id
  if !s.bootLay then 1
  else if 1 ≤ s.stage then 2
  else if !testFits test id ∨ s.testRetired id then 5
  else if r.tr = .csr ∧ id = 0x420 + r.src then 7
  else if s.ctr.tests.any (fun x => domainOf x.member == domainOf id) then 3
  else if 1500 < load then 4
  else if (s.testBlocked id test).isSome then 6
  else 0

/-- TEST_REQUEST (R483). -/
def State.opTestRequest (s : State) (r : Req) (val : Nat) : State :=
  let id := bits val 0 12
  let test := bits val 16 8
  let res := s.requestResult r id test
  let s1 := s.wrReq r O.REQUEST_RESULT res
  if res = 0 then s1.testBegin id id test true else s1

/-! ## The rows of the table -/

/-- TEST_VERDICT. -/
def execTestVerdict (t : Tick) (member : Nat) (failCode : Fin 7) (s : State) : Host.Outcome State Fault Refusal :=
  .next ((s.tickTo t).testVerdict member failCode.val)

/-- REINITIALIZATION_COMPLETE. -/
def execReinitializationComplete (t : Tick) (member : Nat) (s : State) : Host.Outcome State Fault Refusal :=
  let s1 := s.tickTo t
  .next (match s1.ctr.reinit.find? (fun x => x.member == member) with
    | some r => s1.reinitDone r
    | none => s1)

end Sys2Proof.Machine
end

