-- ==== Sys2Proof/Machine/LayRun.lean ====
section
/-!
DEFINITION. The lay at work (03, §5 and §7): what an entry does to its resource (R109), which entries are skipped (R127, R129, R136),
the idle state of a resource, the presentation of an entry at its tick (R124), pins (R141), and the change to the boot lay (R114).
-/
namespace Sys2Proof.Machine

/-! ## Sluices and class-0 windows -/

/-- A SLUICE entry: the 64 gates, the window (0 ordinary, 1 C0, 2 GUARD) and the tick of the strand's next entry (R109, R347). -/
def State.sluiceSet (s : State) (p gates window closes : Nat) : State :=
  (((s.wr (O.GATES p) (gates % 2 ^ 64)).wr (O.WINDOW p) window).onPort p (fun x => { x with
    closes := if window = 0 then none else some closes })).sluiceAgain p

/-- A sluice without a strand: every gate open and the window ordinary (09, §7.2). -/
def State.sluiceIdle (s : State) (p : Nat) : State := s.sluiceSet p (2 ^ 64 - 1) 0 0

/-- The frames of a hitch that wait as HITCH items when its task window ends: they count under TASK_OVERRUN and WINDOW_OVERRUN and are
outside the bound from now on (R402). -/
def State.windowOverrun (s : State) (h : Nat) : State :=
  let held := s.eth.ports.flatMap (fun p => p.2.queues.flatMap (fun q =>
    (q.2.filter (fun f => f.waits && !f.overrun && f.hitch == some h)).map (fun f => (p.1, q.1, f))))
  held.foldl (fun s x =>
    let s1 := (s.onFrame x.1 x.2.1 x.2.2.num (fun f => { f with overrun := true })).bump O.WINDOW_OVERRUN
    match s.hitchNum h with
    | some i => s1.hitchCause i x.2.2.at_ 9
    | none => s1) s

/-- A TASK END closes the hart's window, a deferred one where there is one; a handler goes on (R401). -/
def State.taskEnd (s : State) (h : Nat) : State :=
  let x := s.hart h
  let s1 := s.onHart h (fun y => { y with window := none, deferred := none })
  match (x.deferred <|> x.window).bind (fun w => w.hitch) with
  | some k => s1.windowOverrun k
  | none => s1

/-- A C0_WINDOW entry, which ends the state its strand held before (R102). -/
def State.entTask (s : State) (h flow : Nat) (hitch : Option Nat) (closes : Nat) : State :=
  (s.taskEnd h).taskWindow h { flow := flow, hitch := hitch, closes := closes }

/-! ## Entries (R109) -/

/-- The index of a transceiver's radio resource, and its role: synthesizer, TX chain, RX chains, tuner. -/
def State.entRadio (s0 : State) (id : Nat) (e : LEntry) (closes : Nat) (span : List Nat) : State :=
  let x := id / 4
  let s := s0.calAbandon x
  match radioRole id with
  | 0 =>
    if eAction e.w = 0 then s.synthOff x else s.synthHop x (bitAt e.w 10) (bits e.w 0 10) (eAction e.w == 2)
  | 1 =>
    if eAction e.w = 0 then s.txCloseWin x
    else if eAction e.w = 1 then s.entTxCell x (bits e.w 0 16) e.tag closes
    else s.entTxPly span (bits e.w 0 16) e.tag closes
  | 2 => if eAction e.w = 0 then s.rxCloseWin x else s.rxOpenWin x (eAction e.w == 2)
  | _ => if eAction e.w = 1 then s.entPreset x (bits e.w 0 8) else s.entMeasure x (eAction e.w == 2)

/-- What an entry does to member `m` of its ID (itself where its resource is not placed). -/
def State.entDo (s : State) (m : Nat) (e : LEntry) (closes : Nat) (span : List Nat) : State :=
  let cell := bits e.ext 0 16
  let n := m - 0x100
  match eKind e.w, eAction e.w with
  | 1, _ => s.entRadio m e closes span
  | 2, 0 => s.entLaneRelease n
  | 2, 1 => s.entLaneCell n (bits e.w 0 9) (bits e.w 9 6) (bitAt e.w 15) cell e.tag closes
  | 2, _ => s.entLaneGang n (bits e.w 0 9) (bits e.w 9 2) (bits e.ext 27 8) cell e.tag closes
  | 3, 0 => s.entUnreserve (m - 0x400)
  | 3, _ => s.entReserve (m - 0x400) (bits e.w 0 10)
  | 4, _ => s.sluiceSet (m - 0x430) e.gates (if bitAt e.w 23 then 1 else if bitAt e.w 22 then 2 else 0) closes
  | 5, 0 => s.dramEnd (m - 0x438)
  | 5, 1 => (s.dramEnd (m - 0x438)).dramRefresh (m - 0x438) (bits e.w 0 8)
  | 5, _ => (s.dramEnd (m - 0x438)).dramMaint (m - 0x438) closes
  | 6, 0 => s.taskEnd (m - 0x420)
  | 6, _ => s.entTask (m - 0x420) (bits e.w 0 16) e.tag closes
  | 7, 0 => s.testEnd m
  | 7, _ => s.testBegin e.id m (bits e.w 0 8) false
  | 8, a =>
    if poolOf m ≠ 1 then s
    else if a = 0 then s.entLaneRelease n
    else if a = 1 then s.entContention n (bits e.w 0 9) cell closes
    else s.entStandby n (a == 3) e.tag closes
  | _, _ => s

/-! ## The state of a resource (R102) -/

/-- A resource state as the lay engine holds it: the entry and its EXT, its kind and action. -/
def resState (e : LEntry) (now : Nat) : ResState :=
  { word := e.w + e.ext * 2 ^ 64, kind := eKind e.w, action := eAction e.w, since := now, hitch := e.tag }

/-- The state an entry sets is the one in force already. -/
def ResState.holds (r : ResState) (e : LEntry) : Bool := r.word % 2 ^ 60 / 2 ^ 48 == eRes e.w && r.word % 2 ^ 24 == eOp e.w &&
  r.kind == eKind e.w && r.word / 2 ^ 64 == e.ext

/-- The state a resource ID is in under the lay, `none` while it is idle. -/
def State.resOf (s : State) (id : Nat) : Option ResState := (look s.lay.res id).filter (fun r => r.action != 0)

/-- What ends with a state when another follows it at once (R102): windows, tests, bights; a transceiver's resources and a sluice pass over
directly (R162). -/
def State.leaveState (s : State) (m : Nat) (r : ResState) : State :=
  match r.kind with
  | 1 => s
  | 2 => s.entLaneRelease (m - 0x100)
  | 3 => s.entUnreserve (m - 0x400)
  | 5 => s.dramEnd (m - 0x438)
  | 6 => s.taskEnd (m - 0x420)
  | 7 => s.testEnd m
  | 8 => if poolOf m = 1 then s.entLaneRelease (m - 0x100) else s
  | _ => s

/-- A resource returns to its idle state; receptions of a lane end as `why` says. -/
def State.idleRes (s : State) (m : Nat) (r : ResState) (why : RxLoss) : State :=
  match r.kind with
  | 1 => match radioRole m with
    | 0 => s.synthOff (m / 4)
    | 1 => s.txCloseWin (m / 4)
    | 2 => s.rxCloseWin (m / 4)
    | _ => s.entMeasure (m / 4) false
  | 4 => s.sluiceIdle (m - 0x430)
  | k => if poolOf m = 1 ∧ (k = 2 ∨ k = 8) then ((s.abandonRx (m - 0x100) why).leaveState m r) else s.leaveState m r

/-- Every resource idle, as under the boot lay. -/
def State.idleAll (s : State) : State :=
  (s.lay.res.foldl (fun s e =>
    match (s.memberOf e.1).filter (fun _ => e.2.action != 0) with
    | some m => s.idleRes m e.2 .swap
    | none => s) s).onLay (fun l => { l with res := [] })

/-! ## Presentation (R124) -/

/-- The tick of the next state change of a strand after tick `a` of the current slot, in this slot or a later one (R102, R347). -/
def State.nextChange (s : State) (st : Strand) (a : Nat) : Nat :=
  match ((st.inSlot s.slotPos).map (fun e => eTick e.w)).find? (fun t => decide (a < t)) with
  | some t => s.lay.slotAt + t
  | none =>
    match (upFrom 1 s.frameLen).findSome? (fun k =>
        ((st.inSlot ((s.slotPos + k) % s.frameLen)).head?).map (fun e => k * s.slotTk + eTick e.w)) with
    | some d => s.lay.slotAt + d
    | none => s.nextSlotAt

/-- The transceivers that a ply burst of a cell handle spans at a slot position (R109). -/
def burstSpan (ws : List Nat) (sec pos cell : Nat) : List Nat :=
  (List.range 3).filter (fun x => match strandOf ws sec (4 * x + 1) with
    | some st => (st.inSlot pos).any (fun e => eAction e.w == 2 && bits e.w 0 16 == cell)
    | none => false)

/-- The words of a burst's other TX_PLY entries: the burst starts with the first of them presented. -/
def State.burstStarted (s : State) (e : LEntry) : Bool :=
  s.lay.presented.any (fun i => i != e.idx && eKind (imgWord s.runWords i) == 1 && eAction (imgWord s.runWords i) == 2 &&
    radioRole (eRes (imgWord s.runWords i)) == 1 && bits (imgWord s.runWords i) 0 16 == bits e.w 0 16)

/-- An entry on a member is skipped as on a shed resource: the stage sheds the member, the stream or the entry's kind, or the member's
domain or part is not powered. -/
def State.entShed (s : State) (m : Nat) (e : LEntry) : Bool := s.shedHere m ({ e with id := m } : LEntry).shedAt

/-- The needs of every class of a section are met by the available members. -/
def State.sectionFits (s : State) (ws : List Nat) (sec : Nat) : Bool := (s.shortClass ws sec).isNone

/-- A skipped entry: counted, and what was bound to a TX_CELL, or to the first TX_PLY of a burst, missed (R268). -/
def State.entSkip (s : State) (key : Nat) (e : LEntry) : State :=
  let s1 := s.bump key
  if eKind e.w ≠ 1 ∨ radioRole e.id ≠ 1 then s1
  else if eAction e.w = 1 then s1.txSkipped (e.id / 4) (bits e.w 0 16) e.tag
  else if eAction e.w = 2 ∧ !s.burstStarted e then s1.plySkipped (bits e.w 0 16) e.tag
  else s1

/-- An entry presented to its resource, or skipped: no member (R136), a retired one (R145), a shed one (R127). `closes` is the tick of its
strand's next state change. -/
def State.present (s : State) (closes : Nat) (e : LEntry) : State :=
  match (s.memberOf e.id).filter (fun m => !s.retired m) with
  | none =>
    let s1 := s.bump O.UNMAPPED_SKIPPED
    let s2 := if s.flag O.DEGRADED && !s.sectionFits s.runWords s.runSec then s1.bump O.STAGE_SKIPPED else s1
    if eKind e.w = 7 ∧ eAction e.w = 1 then s2.testNoMember e.id (bits e.w 0 8) else s2
  | some m =>
    let s0 := s.entryWake m
    if s0.entShed m e then s0.entSkip O.STAGE_SKIPPED e
    else
      let s1 := match s0.resOf e.id with
        | some r => if eAction e.w = 0 ∧ r.kind = eKind e.w then s0 else s0.leaveState m r
        | none => s0
      let s2 := (s1.event 4).onLay (fun l => { l with res := put l.res e.id (resState e s.now) })
      if eKind e.w = 1 ∧ radioRole e.id = 1 ∧ eAction e.w = 2 ∧ s.burstStarted e then s2
      else s2.entDo m e closes (burstSpan s.runWords s.runSec s.slotPos (bits e.w 0 16))

/-! ## The boot lay (R11) -/

/-- Refresh windows of a rank in the boot lay's slot (DESIGN CHOICE, notes/assumptions/42.md: R11 gives no ticks; those of Table 3.12, which hold the refreshes of the
largest density at the doubled rate). -/
def bootWindows : Nat := 321

/-- The boot lay's entries, numbered from 0: for each rank its REFRESH and END entries in order of tick, then the entry of each sluice, which
opens every gate. -/
def bootEntry (word : Nat) : Option LEntry :=
  let rank := word / (2 * bootWindows)
  let k := word % (2 * bootWindows) / 2
  let at_ := fun (id tick op : Nat) => id * 2 ^ 48 + tick * 2 ^ 24 + op
  if rank < 4 then
    let w := if word % 2 = 0 then at_ (0x438 + rank) (6240 * k) 0x400008 else at_ (0x438 + rank) (6240 * k + 883) 0
    some { idx := word, id := 0x438 + rank, w := 5 * 2 ^ 60 + w, ext := 0, blk := .every 0 0 }
  else
    let port := word - 8 * bootWindows
    if port < 4 then
      some { idx := word, id := 0x430 + port, w := 4 * 2 ^ 60 + at_ (0x430 + port) 0 0xF, ext := 2 ^ 60 - 1, blk := .every 0 0 }
    else none

/-- The state change at a word of the running section, or of the boot lay, with the tick at which its strand changes next. -/
def State.entryAt (s : State) (word : Nat) : Option (Nat × LEntry) :=
  if s.bootLay then (bootEntry word).map (fun e => (s.nextSlotAt, e))
  else (strandsOf s.runWords s.runSec).findSome? (fun st =>
    (st.changes.find? (fun e => e.idx == word && eKind e.w != 9)).map (fun e => (s.nextChange st (eTick e.w), e)))

/-! ## Pins (R142) -/

/-- The hitches of an image whose key is absent when pinning runs (R142). -/
def State.pinsMissing (s : State) (ws : List Nat) : State :=
  ((allHitches ws).filter (fun i => !s.hitchKeyed i.sensor)).foldl (fun s i =>
    (s.journal s.lay.asn 0x14 6 0 noId noId noId i.sensor 1 i.num).bump O.PIN_MISSING) s

/-! ## The boot lay takes over (R11, R114) -/

/-- The boot lay runs from now: the banks exchange roles, so that the former running bank is standby, VERIFIED; nothing of the compiled lay
goes on. Its hitches and their records stay for frames in flight (R32) and for the swap that follows (R132). -/
def State.bootLayNow (s : State) : State :=
  if s.bootLay then s
  else
    let s := if s.flag O.DEGRADED then s.raiseEv O.LAY_STATUS 3 else s
    let rb := s.rd O.RUNNING_BANK
    let was := s.slotTk
    let held := s.runHitches
    let s1 := (s.testCancel 1 (fun _ => true)).idleAll
    let s2 := (((((s1.wr O.RUNNING_BANK 0xFF).wr O.RUNNING_SECTION 5).wr O.DEGRADED 0).wr O.RUNNING_BUILD_ID 0).wr O.RUNNING_CRC 0).wr
      O.SLOT_POS 0
    let s3 := (s2.setBank (1 - rb) { words := [], written := 0 }).setSt O.LAY_STATUS 12 4 3
    let s4 := s3.onLay (fun l => { l with
      standby := rb, stopPending := false, verifyAt := none, stopped := held.map (fun i => (i, s.hitchKey i)), presented := [], skipStage := 0
      conds := l.conds.map (fun c => if (c.cause == 2 || c.cause == 7) && c.stop.isNone then { c with stop := some s.now } else c) })
    let s5 := ((held.foldl (fun s i => s.condBegin 1 i.num) (s4.condInstant 5)).onPlc (fun p => { p with map := [], ref := [], testing := [] })).renameC0
    let s6 := (List.range 4).foldl State.sluiceIdle s5
    [0, 1].foldl State.trainStart (if was = s6.slotTk then s6 else s6.anchorMove).pinsNow

/-! ## The rows of the table -/

/-- LAY_ENTRY_PRESENTED: an entry of the running section, or of the boot lay, at its slot position and tick, once (R124). -/
def execLayEntryPresented (t : Tick) (word : Nat) (s : State) : Host.Outcome State Fault Refusal :=
  let s1 := s.tickTo t
  .next (match s1.entryAt word with
    | some (closes, e) =>
      if s1.laySteps ∧ e.blk.at s1.slotPos ∧ s1.now = s1.lay.slotAt + eTick e.w ∧ !s1.lay.presented.contains word then
        (s1.present closes e).onLay (fun l => { l with presented := l.presented ++ [word] })
      else s1
    | none => s1)

/-- A SLUICE entry comes to a port. -/
def State.sluiceEntry (s : State) (port : Fin 4) (act : State → State) : State :=
  s.entryOn (0x430 + port.val) (shedAt (0x430 + port.val)) act

/-- A TASK entry comes to a hart. -/
def State.taskEntry (s : State) (hart : Fin 16) (act : State → State) : State :=
  s.entryOn (0x420 + hart.val) (shedAt (0x420 + hart.val)) act

/-- SLUICE_GATE_SET. -/
def execSluiceGateSet (t : Tick) (port : Fin 4) (gates : Nat) (s : State) : Host.Outcome State Fault Refusal :=
  .next ((s.tickTo t).sluiceEntry port (fun s => s.sluiceSet port.val gates 0 0))

/-- SLUICE_C0_WINDOW. -/
def execSluiceC0Window (t : Tick) (port : Fin 4) (gates : Nat) (closes : Tick) (s : State) : Host.Outcome State Fault Refusal :=
  .next ((s.tickTo t).sluiceEntry port (fun s => s.sluiceSet port.val gates 1 closes))

/-- SLUICE_GUARD_WINDOW. -/
def execSluiceGuardWindow (t : Tick) (port : Fin 4) (gates : Nat) (closes : Tick) (s : State) : Host.Outcome State Fault Refusal :=
  .next ((s.tickTo t).sluiceEntry port (fun s => s.sluiceSet port.val gates 2 closes))

/-- TASK_C0_WINDOW (R399, R401). -/
def execTaskC0Window (t : Tick) (hart : Fin 16) (flow : Fin 65536) (hitch : Option (Fin 1024)) (closes : Tick) (s : State) :
    Host.Outcome State Fault Refusal :=
  .next ((s.tickTo t).taskEntry hart (fun s => s.entTask hart.val flow.val (hitch.map (·.val)) closes))

/-- TASK_END (R401, R402). -/
def execTaskEnd (t : Tick) (hart : Fin 16) (s : State) : Host.Outcome State Fault Refusal :=
  .next ((s.tickTo t).taskEntry hart (fun s => s.taskEnd hart.val))

/-- TEST_RUN (R477): on the member that serves the ID; skipped without one, or where the stage sheds tests or the resource. -/
def execTestRun (t : Tick) (id : Nat) (test : Nat) (closes : Tick) (s : State) : Host.Outcome State Fault Refusal :=
  let s1 := s.tickTo t
  .next (if !s1.layRuns ∨ !testFits test id ∨ s1.now ≥ closes then s1
    else match (s1.memberOf id).filter (fun m => !s1.retired m) with
    | none => (s1.bump O.UNMAPPED_SKIPPED).testNoMember id test
    | some m => s1.entryOn m (min 1 (shedAt m)) (fun s => (s.testEnd m).testBegin id m test false))

/-- TEST_END (R478) of a test that an entry began. -/
def execTestEnd (t : Tick) (id : Nat) (s : State) : Host.Outcome State Fault Refusal :=
  let s1 := s.tickTo t
  .next (match s1.ctr.tests.find? (fun x => x.logical == id && !x.request) with
    | some x => s1.testEnd x.member
    | none => s1)

/-- BIGHT_CONTENTION (R113). -/
def execBightContention (t : Tick) (lane : Fin 768) (stream : Fin 512) (cell : Nat) (closes : Tick) (s : State) :
    Host.Outcome State Fault Refusal :=
  .next ((s.tickTo t).entryOn (0x100 + lane.val) (min (shedAt (0x100 + lane.val)) (streamShedAt stream.val)) (fun s =>
    s.entContention lane.val stream.val cell closes))

/-- BIGHT_CAPTURE (R113). -/
def execBightCapture (t : Tick) (lane : Fin 768) (hitch : Option (Fin 1024)) (closes : Tick) (s : State) :
    Host.Outcome State Fault Refusal :=
  .next ((s.tickTo t).entryOn (0x100 + lane.val) (shedAt (0x100 + lane.val)) (fun s =>
    s.entStandby lane.val false (hitch.map (·.val)) closes))

/-- BIGHT_SPARE (R113) on the member that serves the ID: a lane stands by; an engine or a core keeps capacity for placement. -/
def execBightSpare (t : Tick) (id : Nat) (s : State) : Host.Outcome State Fault Refusal :=
  let s1 := s.tickTo t
  .next (match (s1.memberOf id).filter (fun m => poolOf m == 1) with
    | some m => s1.entryOn m (shedAt m) (fun s => s.entStandby (m - 0x100) true none (s.lay.slotAt + s.slotTk * s.frameLen))
    | none => s1)

/-- BIGHT_END on the member that serves the ID. -/
def execBightEnd (t : Tick) (id : Nat) (s : State) : Host.Outcome State Fault Refusal :=
  let s1 := s.tickTo t
  .next (match (s1.memberOf id).filter (fun m => poolOf m == 1) with
    | some m => s1.entryOn m (shedAt m) (fun s => s.entLaneRelease (m - 0x100))
    | none => s1)

end Sys2Proof.Machine
end

