-- ==== Sys2Proof/Machine/PlcOps.lean ====
section
/-!
DEFINITION. Placement's work at a slot boundary beside the mapping (04, §3 to §5): flow homes moved out of harts, test preparation
(R147, R148), temperature decisions with their lead (R143, R144), TIER_FORCE (R151) and pans powered up again (R154).
-/
namespace Sys2Proof.Machine

/-! ## Flow homes -/

/-- A flow home moved by placement, with its journal entry. -/
def State.homeMove (s : State) (f h cause detail : Nat) : State :=
  let old := (s.flow f).home
  (s.moveHome f h).journal s.lay.asn cause 3 0 noId (0x420 + old) (0x420 + h) f 2 detail

/-- The hart that takes a flow's home away from harts to avoid. -/
def State.homeAway (s : State) (mask : Nat) (avoid : List Nat) : Option Nat := s.newHome (avoid.foldl clearBit (mask % 2 ^ 16))

/-- Flow homes move off some harts where another hart of their mask can take them; a PIN flow stays (R147, Table 4.1). Flows that no
entry lists move together, under one journal entry (DESIGN CHOICE, notes/assumptions/19.md). -/
def State.flowsOut (s : State) (hs : List Nat) (cause detail : Nat) : State :=
  let s1 := s.cores.flows.foldl (fun s e =>
    let fl := s.flow e.1
    if flowPin fl.entry || !hs.contains fl.home then s
    else match s.homeAway (flowMask fl.entry) hs with
      | some h => s.homeMove e.1 h cause detail
      | none => s) s
  let rest := s1.cores.homeRest
  if !hs.contains rest then s1
  else match s1.homeAway 0xFFFF hs with
    | none => s1
    | some h =>
      let unlisted := (s1.cores.queued.filter (fun i => i.readyOn.isSome && (look s1.cores.flows i.flow).isNone)).map (fun i => i.seq)
      let s2 := s1.onCores (fun c => { c with
        homeRest := h
        queued := c.queued.map (fun i => if unlisted.contains i.seq then { i with readyOn := some h } else i) })
      (s2.bumpBy O.HOME_MOVES (65536 - s2.cores.flows.length)).journal s2.lay.asn cause 3 0 noId (0x420 + rest) (0x420 + h) 0 2 detail

/-! ## Test preparation (Table 4.1, order 3) -/

/-- The members that the mapping of the next slot will give to TEST RUN entries, with the TEST_ID. -/
def State.testsAhead (s : State) : List (Nat × Nat) :=
  let pos := (s.slotPos + 1) % s.frameLen
  (classesOf s.runWords).flatMap (fun c =>
    let v := slotView s.runWords s.runSec pos c
    if v.tests.isEmpty then []
    else
      let m := s.mapClass v
      v.tests.filterMap (fun t => (look m t.1).map (fun x => (x, t.2))))

/-- The TEST_ID of a TEST RUN of a pan that the running section holds `n` slots from the current one. -/
def State.panTestIn (s : State) (p n : Nat) : Option Nat :=
  (strandOf s.runWords s.runSec (0x440 + p)).bind (fun st => st.testIn ((s.slotPos + n) % s.frameLen))

/-- From the boundary before a test's slot its member gets no unscheduled work and flow homes leave a hart, and a pan is emptied from two
slots before (R147, R148). -/
def State.testPrepare (s : State) : State :=
  let ahead := s.testsAhead
  let s1 := s.onPlc (fun p => { p with testing := p.testing ++ ahead.map (fun t => t.1) })
  let s2 := (ahead.filter (fun t => poolOf t.1 == 3)).foldl (fun s t => s.flowsOut [t.1 - 0x420] 0x08 t.2) s1
  (List.range 16).foldl (fun s p => match s.panTestIn p 2 with
    | some t => if s.pan p = 1 then s.evacuate p 3 0x08 t else s
    | none => s) s2

/-! ## Temperature (Table 4.1, order 6) -/

/-- Harts of a temperature region. -/
def regionHarts (r : Nat) : List Nat := if r = 3 then List.range 8 else if r = 4 then upFrom 8 8 else []

/-- DETAIL of a temperature decision. -/
def State.regionDetail (s : State) (r : Nat) : Nat := lookD s.plc.regionTemp r 0

/-- A temperature decision takes hold: members of the region are taken last, and flow homes leave its harts. -/
def State.regionHot (s : State) (r : Nat) : State :=
  let s1 := s.onPlc (fun p => { p with hotRegions := if p.hotRegions.contains r then p.hotRegions else p.hotRegions ++ [r] })
  if s1.triggerOn 0 then s1.flowsOut (regionHarts r) 0x09 (s1.regionDetail r) else s1

/-- The temperature decisions made at least the lead of R144 before this boundary take effect; a later one is deferred. -/
def State.thermalBoundary (s : State) : State :=
  let mine := s.plc.decisions.filter (fun d => d.cause == 9)
  let s1 := s.onPlc (fun p => { p with
    decisions := p.decisions.filter (fun d => d.cause != 9 || decide (s.lay.slotAt < d.madeAt + 10000)) })
  mine.foldl (fun s d =>
    if s.lay.slotAt < d.madeAt + 10000 then
      (s.bump O.DEFERRED).journal s.lay.asn 0x09 8 0 noId noId noId 0 0 (s.regionDetail d.subject)
    else if d.on then s.regionHot d.subject
    else s.onPlc (fun p => { p with hotRegions := p.hotRegions.filter (· != d.subject) })) s1

/-! ## Tiers (order 10) -/

/-- A migration may bring an object to a place now: a pan, or a channel that is READY (R420). -/
def State.placeOpen (s : State) (loc : Nat) : Bool :=
  if loc = 0x458 ∨ loc = 0x459 then s.chServes (loc - 0x458) else true

/-- TIER_FORCE at a boundary (R151): a sensor listed with another tier moves there once MIN_DWELL_S lets it; an entry that would move a
hitch's sensor out of HOT is ignored, and journaled at the first boundary after the write. -/
def State.tierForce (s : State) : State :=
  let fresh := s.plc.decisions.any (fun d => d.cause == 0x0C)
  let s1 := s.onPlc (fun p => { p with decisions := p.decisions.filter (fun d => d.cause != 0x0C) })
  (List.range (s.len O.TIER_FORCE / 4)).foldl (fun s k =>
    let i := bits (s.rd O.TIER_FORCE) (32 * k) 18
    let tier := bits (s.rd O.TIER_FORCE) (32 * k + 18) 2
    match s.locOf 1 i with
    | none => s
    | some loc =>
      if tier = 0 ∨ tier = tierOfLoc loc then s
      else if s.hitchSensors.contains i ∧ tier ≠ 1 then
        (if fresh then s.journal s.lay.asn 0x0D 8 0 noId loc noId i 1 0 else s)
      else if !s.dwellPast (objKey 1 i) ∨ !s.placeOpen loc ∨ !s.placeOpen (s.placeFor tier 64) then s
      else s.migrateTo (objKey 1 i) tier (if tier < tierOfLoc loc then 0x0C else 0x0D) 0) s1

/-- While everything fits in HOT nothing stays in DRAM: what no force keeps there moves to a pan (R154). -/
def State.hotAgain (s : State) : State :=
  if !s.hotFits then s
  else (s.plc.loc.filter (fun e => e.2 == 0x458 || e.2 == 0x459)).foldl (fun s e =>
    if !s.placeOpen e.2 ∨ (e.1 / 2 ^ 24 = 1 ∧ 2 ≤ s.forcedTier (e.1 % 2 ^ 24)) ∨ !s.dwellPast e.1 then s
    else s.migrateTo e.1 1 0x0C 0) s

/-! ## Pans (R148, R154) -/

/-- A pan that placement powered down and that is not reserved. -/
def State.sleepingPan (s : State) : Option Nat :=
  if !s.domainUp 15 then none
  else (List.range 16).find? (fun p => s.pan p == 0 && s.oct O.PAN_POWER p == 0 && !s.flag O.PAN_RESERVE p)

/-- A pan powered up again (R154); the cause its journal entry names is open. -/
def State.panRouse (s : State) (p : Nat) : State :=
  let (v, s1) := s.free
  (s1.panInit p).journal s1.lay.asn (v % 256) 5 0 noId noId (panLoc p) p 4 0

/-- A pan that placement powered down is powered up again when no pan has room. -/
def State.panWake (s : State) : State :=
  match s.sleepingPan with
  | some p => if (s.openPans 64).isEmpty && !(List.range 16).any (fun q => s.oct O.PAN_POWER q == 1 && !s.flag O.PAN_RESERVE q) then s.panRouse p else s
  | none => s

/-- Octets placed in a pan. -/
def State.panLoad (s : State) (p : Nat) : Nat := 0x400000 - s.panFree p

/-- While the running lay tests pans, one unreserved pan is empty (R148): a pan is powered up, or the least filled one evacuated, where none
is, becomes so or is in INIT. -/
def State.keepEmpty (s : State) : State :=
  let free := (List.range 16).filter (fun p => !s.flag O.PAN_RESERVE p)
  let served := free.any (fun p => (s.pan p == 1 && (s.objsAt (panLoc p)).isEmpty) || s.pan p == 3 || s.pan p == 6 || s.oct O.PAN_POWER p == 1)
  if !s.panTests || served then s
  else match s.sleepingPan with
    | some p => s.panRouse p
    | none =>
      match (free.filter (fun p => s.pan p == 1)).foldl (fun (b : Option Nat) p => match b with
          | none => some p
          | some q => if s.panLoad p < s.panLoad q then some p else some q) none with
      | some p => s.evacuate p 1 0x08 0
      | none => s

/-- Pans emptied for a test that has not come are in service again. -/
def State.panBack (s : State) : State :=
  let pending : Bool := match look s.groups 0x3102 with
    | some g => g.pendingAt.isSome
    | none => false
  if pending then s
  else (List.range 16).foldl (fun s p =>
    if s.pan p = 3 ∧ (look s.plc.evac p).isNone ∧ (List.range 3).all (fun n => (s.panTestIn p n).isNone) then
      (s.setPan p 1).onPlc (fun q => { q with panEmptyAt := put q.panEmptyAt p s.now })
    else s) s

/-- Placement's work on objects and pans at a slot boundary. -/
def State.placeStep (s : State) : State := (((((s.tierForce).hotAgain).panBack).evacAgain).keepEmpty).panWake

end Sys2Proof.Machine
end

