-- ==== Sys2Proof/Machine/Loader.lean ====
section
/-!
DEFINITION. The loader (03, §6): the checks of Table 3.8 in their order, over every section of an image, and the warnings of R123.
Where several words fail one check, the section that comes first is named and in it the word that comes first (DEDUCED,
notes/assumptions/17.md). What the checks ask of the rest of the block comes in as a `LoadEnv`.
-/
namespace Sys2Proof.Machine

/-- What verification asks of the block outside the image. -/
structure LoadEnv where
  contract : Nat
  compat : Nat
  written : Nat
  requireSig : Bool
  /-- SIG_PUBKEY is not zero and the signature verifies. -/
  sigOk : Bool
  /-- TYPE and TEMPLATE of a cell handle. -/
  cell : Nat → Nat × Nat
  /-- TX_OFFSET_TK and ACK_OFFSET_TK of a template. -/
  template : Nat → Nat × Nat
  /-- Channel masked for a transceiver's path. -/
  masked : Nat → Bool → Nat → Bool
  /-- The sub-band that holds a channel's frequency on a transceiver. -/
  subBand : Nat → Nat → Option Nat
  /-- DUTY of a sub-band, 0.01 %. -/
  duty : Nat → Nat
  /-- tRFC in ticks of a fitted rank. -/
  fitted : Nat → Option Nat
  refreshRate : Nat
  /-- A member is available for a section (R125). -/
  available : Nat → Nat → Bool
  /-- A channel has a valid stored calibration entry for a path. -/
  calValid : Nat → Bool → Nat → Bool
  /-- RETRY_BUDGET of R123, from the sensor links. -/
  retryLate : Bool
  /-- Sensors pinned for the running image; whether it holds a ply hitch; the slots of used PLY_KEY_SLOTS entries. -/
  runSensors : List Nat
  runPly : Bool
  plySlots : List Nat

/-- A rejection: code, REJECT_WORD, REJECT_ITEM, REJECT_DETAIL. -/
structure Reject where
  code : Nat
  word : Nat
  item : Nat
  detail : Nat
deriving DecidableEq, Repr

/-- REJECT_WORD where no single word is concerned (R120). -/
def noWord : Nat := 0xFFFFFFFF
/-- REJECT_ITEM where the table names none (R120). -/
def noItem : Nat := 0xFFFF

/-- A rejection without a detail. -/
def rej (code word item : Nat) : Reject := { code := code, word := word, item := item, detail := 0 }

/-- The failure of a list whose word comes first. -/
def firstFail (l : List (Nat × Nat)) : Option (Nat × Nat) :=
  l.foldl (fun (b : Option (Nat × Nat)) (x : Nat × Nat) =>
    match b with
    | none => some x
    | some y => if x.1 < y.1 then some x else some y) none

/-- The sections an image holds. -/
def sectionsOf (ws : List Nat) : List Nat := (List.range 5).filter (fun n => (imgRegion ws n).2 != 0)

/-- A check run over every section, the first that fails giving the rejection. -/
def overSections (ws : List Nat) (code : Nat) (check : Nat → List (Nat × Nat)) : Option Reject :=
  (sectionsOf ws).findSome? (fun n => (firstFail (check n)).map (fun x => rej code x.1 x.2))

/-! ## The words (MAGIC to OPERAND_RANGE) -/

/-- Two regions overlap. -/
def overlaps (a b : Nat × Nat) : Bool := decide (a.1 < b.1 + b.2) && decide (b.1 < a.1 + a.2)

/-- The regions an image states: item, header word, offset and length, absent ones left out; the signature block has no number of
its own. -/
def statedRegions (ws : List Nat) : List (Nat × Nat × Nat × Nat) :=
  ((List.range 6).filterMap (fun n =>
    let r := imgRegion ws n
    if r.2 = 0 then none else some (n, 3 + n, r.1, r.2))) ++
  (if imgSigned ws then [(noItem, 10, imgSigOffset ws, 8)] else [])

/-- The first region that overlaps the header or a region before it. -/
def overlapFrom (seen : List (Nat × Nat)) : List (Nat × Nat × Nat × Nat) → Option (Nat × Nat)
  | [] => none
  | (item, word, o, l) :: r =>
    if seen.any (overlaps (o, l)) then some (word, item) else overlapFrom ((o, l) :: seen) r

/-- SECTION (0x03). -/
def checkSection (ws : List Nat) : Option (Nat × Nat) :=
  let regs := statedRegions ws
  if imgSlotTk ws < 500000 ∨ 16000000 < imgSlotTk ws ∨ imgFrameLen ws = 0 ∨ imgStrandCount ws = 0 ∨
      4096 < imgStrandCount ws then some (1, noItem)
  else if !imgSigned ws && imgSigOffset ws != 0 then some (10, noItem)
  else match regs.find? (fun r => decide (imgWords ws < r.2.2.1 + r.2.2.2)) with
  | some (item, word, _, _) => some (word, item)
  | none =>
    match overlapFrom [(0, 16)] regs with
    | some x => some x
    | none =>
      if (imgRegion ws 0).2 = 0 then some (3, noItem)
      else
        ((upFrom 16 (imgWords ws - 16)).find? (fun k =>
          imgWord ws k != 0 && !(regs.any (fun r => decide (r.2.2.1 ≤ k) && decide (k < r.2.2.1 + r.2.2.2))))).map
          (fun k => (k, noItem))

/-- The offending word of a strand's entries (R100, R101). -/
def bodyFail (id mark : Nat) (body : List (Nat × Nat)) : Option Nat :=
  if 0xC00 ≤ id then
    match body with
    | [(i, w), (j, x)] => if eKind w ≠ 9 then some i else if eKind x ≠ 0xB then some j else none
    | [] => some mark
    | (i, _) :: _ => some i
  else
    match body with
    | [] => none
    | (i, w) :: r =>
      if eKind w = 0xA ∧ (markMode w = 1 ∨ markMode w = 2) then (r.find? (fun x => isStrandMark x.2)).map (fun x => x.1)
      else some i

/-- The first malformed strand of a section's words: its offending word and its resource ID (STRAND_FORM, 0x04). -/
def formFrom (fuel : Nat) (prev : Option Nat) (ws : List (Nat × Nat)) : Option (Nat × Nat) :=
  match fuel, ws with
  | f + 1, (i, w) :: r =>
    let n := bits w 0 18
    let late := match prev with
      | some p => decide (eRes w ≤ p)
      | none => false
    if !isStrandMark w || decide (r.length < n) || late || (domainOf (eRes w)).isNone then some (i, eRes w)
    else
      match bodyFail (eRes w) i (r.take n) with
      | some j => some (j, eRes w)
      | none => formFrom f (some (eRes w)) (r.drop n)
  | _, _ => none

/-- STRAND_FORM, with STRAND_COUNT judged on the base section. -/
def checkStrands (ws : List Nat) : Option (Nat × Nat) :=
  (sectionsOf ws).findSome? (fun n =>
    match formFrom (imgRegion ws n).2 none (regionWords ws n) with
    | some x => some x
    | none => if n = 0 ∧ (strandsOf ws 0).length ≠ imgStrandCount ws then some (1, noItem) else none)

/-- The failures of a check of each word of a section's strands, the STRAND mark included. -/
def eachWord (ws : List Nat) (sec : Nat) (bad : Strand → Nat → Bool) : List (Nat × Nat) :=
  (strandsOf ws sec).flatMap (fun st =>
    (((st.mark, imgWord ws st.mark) :: st.body).filter (fun x => bad st x.2)).map (fun x => (x.1, st.id)))

/-- ENTRY_KIND (0x05). -/
def kindBad (st : Strand) (w : Nat) : Bool :=
  eKind w != 0xB && (decide (0xC ≤ eKind w) || eRes w != st.id || !kindFits (eKind w) st.id)

/-- The operand bits that Table 3.6 lists for an entry. -/
def operandMask (w : Nat) : Nat :=
  match eKind w with
  | 1 => match radioRole (eRes w) with
    | 0 => 0xF007FF
    | 1 => 0xF0FFFF
    | 2 => 0xF00000
    | _ => 0xF000FF
  | 2 => 0xE0FFFF
  | 3 => 0xC003FF
  | 4 => 0xC0000F
  | 5 => 0xC000FF
  | 6 => 0xC0FFFF
  | 7 => 0xC000FF
  | 8 => 0xFFFDFF
  | 9 => 0xFFF000
  | 10 => match markMode w with
    | 0 => 0xC3FFFF
    | 1 => 0xC0FFFF
    | 2 => 0xCFFFFF
    | _ => 0xC00000
  | _ => 0

/-- The EXT bits that Table 3.6 lists for the entry it follows. -/
def extMask (w : Nat) : Nat :=
  match eKind w with
  | 1 => 0x7FF
  | 2 => 2 ^ 35 - 1
  | 4 => 2 ^ 60 - 1
  | 6 => 0x7FF
  | 8 => 0xFFFF
  | 9 => 2 ^ 45 - 1
  | _ => 0

/-- A number has a bit outside a mask. -/
def outside (v mask : Nat) : Bool := (v ||| mask) != mask

/-- The header bits that Table 3.1 lists. -/
def headerMask (k : Nat) : Nat :=
  if k = 0 then 2 ^ 48 - 1
  else if k = 1 then 2 ^ 53 - 1
  else if k = 2 then 2 ^ 32 + 2 ^ 18 - 1
  else if k ≤ 8 then (2 ^ 18 - 1) * 2 ^ 32 + 2 ^ 18 - 1
  else if k = 9 then 2 ^ 32 - 1
  else if k = 10 then 2 ^ 18 - 1
  else if k = 11 then 2 ^ 64 - 1
  else 0

/-- The reserved-field failures along a strand's words, `prev` the word before. -/
def reservedFrom (id prev : Nat) : List (Nat × Nat) → List (Nat × Nat)
  | [] => []
  | (i, w) :: r =>
    let bad :=
      if eKind w = 0xB then takesExt prev && outside (bits w 0 60) (extMask prev)
      else outside (eOp w) (operandMask w) || ((eKind w == 0 || eKind w == 0xA) && eTick w != 0)
    if bad then (i, id) :: reservedFrom id w r else reservedFrom id w r

/-- RESERVED_FIELD (0x06). -/
def checkReserved (ws : List Nat) : Option Reject :=
  match (List.range 16).find? (fun k => outside (imgWord ws k) (headerMask k)) with
  | some k => some (rej 0x06 k noItem)
  | none =>
    match (regionWords ws 5).find? (fun x => outside x.2 (2 ^ 36 - 1)) with
    | some (k, _) => some (rej 0x06 k noItem)
    | none => overSections ws 0x06 (fun n =>
        (strandsOf ws n).flatMap (fun st => reservedFrom st.id 0 ((st.mark, imgWord ws st.mark) :: st.body)))

/-- The EXT failures along a strand's words, `need` the entry that waits for its EXT. -/
def extFrom (id : Nat) (need : Option Nat) : List (Nat × Nat) → List (Nat × Nat)
  | [] => match need with
    | some i => [(i, id)]
    | none => []
  | (i, w) :: r =>
    if eKind w = 0xB then
      match need with
      | some _ => extFrom id none r
      | none => (i, id) :: extFrom id none r
    else
      let missing := match need with
        | some j => [(j, id)]
        | none => []
      missing ++ extFrom id (if takesExt w then some i else none) r

/-- The order failures along a strand's words, `last` the tick of the entry before in the block (TIME_ORDER, 0x08). -/
def orderFrom (id slotTk len : Nat) (last : Option Nat) : List (Nat × Nat) → List (Nat × Nat)
  | [] => []
  | (i, w) :: r =>
    if eKind w = 0xB then orderFrom id slotTk len last r
    else if eKind w = 0xA then
      (if markMode w = 1 ∧ len ≤ bits w 0 16 then [(i, id)] else []) ++ orderFrom id slotTk len none r
    else
      let early := match last with
        | some l => decide (eTick w ≤ l)
        | none => false
      let bad := decide (slotTk ≤ eTick w) || (isChange w && early)
      (if bad then [(i, id)] else []) ++
        orderFrom id slotTk len (if isChange w then some (eTick w) else last) r

/-- An operand of Table 3.6 out of its range, with the entry's EXT. -/
def operandBad (len : Nat) (w ext : Nat) : Bool :=
  match eKind w with
  | 1 => decide (2 < eAction w)
  | 2 => decide (2 < eAction w) || (eAction w == 2 && bits w 9 2 == 3) || (eAction w == 1 && bits ext 27 8 != 0)
  | 3 => decide (1 < eAction w)
  | 4 => bitAt w 23 && bitAt w 22
  | 5 => eAction w == 3
  | 6 => decide (1 < eAction w)
  | 7 => decide (1 < eAction w) || (eAction w == 1 && !testFits (bits w 0 8) (eRes w))
  | 8 => decide (3 < eAction w) || ((eAction w == 1 || eAction w == 2) && poolOf (eRes w) != 1)
  | 9 => bits w 12 2 == 3 || (bitAt w 23 && bits w 14 6 != 0) || decide (bits ext 29 14 < 64) ||
      decide (9234 < bits ext 29 14)
  | 10 => match markMode w with
    | 0 => decide (131055 < bits w 0 18)
    | 1 => false
    | 2 => len % 2 ^ bits w 16 4 != 0 || decide (2 ^ bits w 16 4 ≤ bits w 0 16)
    | _ => true
  | _ => false

/-- The operand failures along a strand's words. -/
def operandFrom (id len : Nat) : List (Nat × Nat) → List (Nat × Nat)
  | [] => []
  | (i, w) :: r =>
    let ext := match r with
      | (_, x) :: _ => if eKind x = 0xB then bits x 0 60 else 0
      | [] => 0
    if operandBad len w ext then (i, id) :: operandFrom id len r else operandFrom id len r

/-! ## Windows (WINDOW_SPAN to TEST_POWER) -/

/-- The windows of section `n`. -/
def sectionWins (ws : List Nat) (n : Nat) : List Win :=
  (strandsOf ws n).flatMap (fun st => st.wins (imgSlotTk ws) (imgFrameLen ws))

/-- A window of R103, which must close in its slot. -/
def mustClose (w : Nat) : Bool :=
  match eKind w with
  | 1 => radioRole (eRes w) == 1
  | 2 => true
  | 5 => true
  | 8 => eAction w != 3
  | _ => false

/-- A TX window of a transceiver. -/
def Win.isTx (t : Nat) (w : Win) : Bool := eKind w.e.w == 1 && w.e.id == 4 * t + 1
/-- An RX window of a transceiver. -/
def Win.isRx (t : Nat) (w : Win) : Bool := eKind w.e.w == 1 && w.e.id == 4 * t + 2
/-- A TEST window on a transceiver. -/
def Win.isTrxTest (t : Nat) (w : Win) : Bool := eKind w.e.w == 7 && w.e.id == 4 * t

/-- Two windows share a tick on the circle of the slotframe. -/
def Win.meets (frame : Nat) (a b : Win) : Bool :=
  (decide (a.start < b.stop) && decide (b.start < a.stop)) ||
    (decide (a.start + frame < b.stop) && decide (b.start < a.stop + frame)) ||
    (decide (a.start < b.stop + frame) && decide (b.start + frame < a.stop))

/-- A tick of the slotframe lies inside a window. -/
def Win.holds (frame : Nat) (w : Win) (t : Nat) : Bool :=
  (decide (w.start ≤ t) && decide (t < w.stop)) || decide (w.start ≤ t + frame) && decide (t + frame < w.stop)

/-- The state changes of a resource in execution order, ticks of the slotframe; idle ones are kept. -/
def changesOf (ws : List Nat) (sec id : Nat) : List (Nat × LEntry) :=
  match strandOf ws sec id with
  | some st => st.order (imgSlotTk ws) (imgFrameLen ws)
  | none => []

/-- Entries of an execution order that share a tick with the one before them or after them. -/
def twins : List (Nat × LEntry) → List (Nat × Nat)
  | x :: y :: r => (if x.1 = y.1 then [(x.2.idx, x.2.id), (y.2.idx, y.2.id)] else []) ++ twins (y :: r)
  | _ => []

/-- EXCLUSIVE (0x20). -/
def exclusiveFails (ws : List Nat) (sec : Nat) : List (Nat × Nat) :=
  let frame := imgSlotTk ws * imgFrameLen ws
  let wins := sectionWins ws sec
  ((strandsOf ws sec).flatMap (fun st => twins (st.order (imgSlotTk ws) (imgFrameLen ws)))) ++
  (List.range 3).flatMap (fun t =>
    let tx := wins.filter (Win.isTx t)
    let rx := wins.filter (Win.isRx t)
    let tests := wins.filter (Win.isTrxTest t)
    let points := ((changesOf ws sec (4 * t)) ++ (changesOf ws sec (4 * t + 3))).filter (fun x => eKind x.2.w == 1)
    (tx.flatMap (fun a => (rx.filter (Win.meets frame a)).flatMap (fun b => [(a.e.idx, a.e.id), (b.e.idx, b.e.id)]))) ++
    (points.filter (fun p => (tx ++ rx).any (fun w => w.holds frame p.1))).map (fun p => (p.2.idx, p.2.id)) ++
    (tests.filter (fun a => (tx ++ rx).any (Win.meets frame a) || points.any (fun p => a.holds frame p.1))).map
      (fun a => (a.e.idx, a.e.id)))

/-- The duration of a synthesizer entry as HOP_TIME counts it. -/
def synthTk (w : Nat) : Nat := match eAction w with
  | 1 => 2800
  | 2 => 36000
  | _ => 0

/-- The synthesizer entry before a tick, cyclically, and the ticks since it. -/
def synthBefore (frame t : Nat) (cs : List (Nat × LEntry)) : Option (Nat × LEntry) :=
  cs.foldl (fun (b : Option (Nat × LEntry)) (x : Nat × LEntry) =>
    let d := if x.1 < t then t - x.1 else t + frame - x.1
    match b with
    | none => some (d, x.2)
    | some y => if d < y.1 then some (d, x.2) else some y) none

/-- HOP_TIME (0x21). -/
def hopFails (ws : List Nat) (sec : Nat) : List (Nat × Nat) :=
  let frame := imgSlotTk ws * imgFrameLen ws
  let wins := sectionWins ws sec
  (List.range 3).flatMap (fun t =>
    let cs := (changesOf ws sec (4 * t)).filter (fun x => eKind x.2.w == 1)
    (wins.filter (fun w => w.isTx t || w.isRx t)).filterMap (fun w =>
      match synthBefore frame w.start cs with
      | some (d, e) => if d < synthTk e.w then some (w.e.idx, w.e.id) else none
      | none => none))

/-- RX_COVERAGE (0x22): inside one RX window, which every RX_ON and RX_SINGLE entry opens anew. -/
def coverFails (ws : List Nat) (sec : Nat) : List (Nat × Nat) :=
  let frame := imgSlotTk ws * imgFrameLen ws
  let wins := sectionWins ws sec
  (wins.filter (fun w =>
    match w.e.stream with
    | some s => !((wins.filter (Win.isRx (streamBand s))).any (fun r =>
        (decide (r.start + 2000 ≤ w.start) && decide (w.stop ≤ r.stop)) ||
        (decide (r.start + 2000 ≤ w.start + frame) && decide (w.stop + frame ≤ r.stop))))
    | none => false)).map (fun w => (w.e.idx, w.e.id))

/-- GANG_FORM (0x23): gangs and ply bursts at one slot position. -/
def gangFails (ws : List Nat) (sec : Nat) : List (Nat × Nat) :=
  let slot := imgSlotTk ws
  let wins := sectionWins ws sec
  let gangs := wins.filter (fun w => eKind w.e.w == 2 && eAction w.e.w == 2)
  let plys := wins.filter (fun w => eKind w.e.w == 1 && eAction w.e.w == 2 && radioRole w.e.id == 1)
  (gangs.filter (fun a =>
    let mates := gangs.filter (fun b => bits b.e.ext 27 8 == bits a.e.ext 27 8 && b.start / slot == a.start / slot)
    decide (3 < mates.length) ||
      mates.any (fun b => b.start != a.start || (b.e.idx != a.e.idx && bits b.e.w 9 2 == bits a.e.w 9 2)))).map
    (fun a => (a.e.idx, bits a.e.ext 27 8)) ++
  (plys.filter (fun a => plys.any (fun b =>
    bits b.e.w 0 16 == bits a.e.w 0 16 && b.start / slot == a.start / slot && b.start != a.start))).map
    (fun a => (a.e.idx, bits a.e.w 0 16))

/-- The cell types with an acknowledgement part (Table 7.3); a CONTENTION cell has one where the lay provides a TX_CELL. -/
def ackPart (type : Nat) (txCell : Bool) : Bool :=
  match type with
  | 1 => true
  | 2 => true
  | 3 => true
  | 4 => true
  | 6 => true
  | 7 => txCell
  | _ => false

/-- TEMPLATE_SLOT (0x24). -/
def templateFails (env : LoadEnv) (ws : List Nat) (sec : Nat) : List (Nat × Nat) :=
  let es := (strandsOf ws sec).flatMap Strand.changes
  let txCells := (es.filter (fun e => eKind e.w == 1)).filterMap LEntry.cell
  es.filterMap (fun e => match e.cell with
    | none => none
    | some h =>
      let (type, tpl) := env.cell h
      let (tx, ack) := env.template tpl
      if type ≠ 0 ∧ (imgSlotTk ws ≤ tx ∨ (ackPart type (txCells.contains h) ∧ imgSlotTk ws ≤ ack)) then some (e.idx, tpl)
      else none)

/-- REG_CHANNEL (0x30). -/
def regFails (env : LoadEnv) (ws : List Nat) (sec : Nat) : List (Nat × Nat) :=
  ((strandsOf ws sec).flatMap Strand.changes).filterMap (fun e =>
    if eKind e.w = 1 ∧ radioRole e.id = 0 ∧ eAction e.w ≠ 0 ∧ env.masked (e.id / 4) (bitAt e.w 10) (bits e.w 0 10) then
      some (e.idx, bits e.w 0 10)
    else none)

/-- One hour in ticks. -/
def hourTk : Nat := 720000000000

/-- The sub-band a TX window transmits in: that of the transmit LO set last before it. -/
def winSubBand (env : LoadEnv) (ws : List Nat) (sec : Nat) (w : Win) : Option Nat :=
  let t := w.e.id / 4
  let cs := (changesOf ws sec (4 * t)).filter (fun x => eKind x.2.w == 1 && eAction x.2.w != 0 && bitAt x.2.w 10)
  match synthBefore (imgSlotTk ws * imgFrameLen ws) w.start cs with
  | some (_, e) => env.subBand t (bits e.w 0 10)
  | none => none

/-- The ticks of a window that lie in the hour from `a`, on the circle of the slotframe. -/
def hourPart (frame a : Nat) (w : Win) : Nat :=
  let part (x : Nat) (y : Nat) : Nat := min y (a + hourTk) - max x a
  part w.start w.stop + part (w.start + frame) (w.stop + frame)

/-- REG_DUTY (0x31): the sub-bands over their ceiling. Every TX window counts in full; a slotframe shorter than an hour is scaled to
it, a longer one is judged by its busiest hour, which begins where a window begins (R122). -/
def dutyFails (env : LoadEnv) (ws : List Nat) (sec : Nat) : List (Nat × Nat) :=
  let frame := imgSlotTk ws * imgFrameLen ws
  let tx := ((sectionWins ws sec).filter (fun w => (List.range 3).any (fun t => w.isTx t))).filterMap
    (fun w => (winSubBand env ws sec w).map (fun b => (b, w)))
  tx.filterMap (fun x =>
    let mine := (tx.filter (fun y => y.1 == x.1)).map (fun y => y.2)
    let past :=
      if frame < hourTk then
        decide (env.duty x.1 * 72000000 * frame < (mine.foldl (fun n w => n + (w.stop - w.start)) 0) * hourTk)
      else mine.any (fun v => decide (env.duty x.1 * 72000000 < mine.foldl (fun n w => n + hourPart frame v.start w) 0))
    if past then some (x.2.e.idx, x.1) else none)

/-- The gaps between consecutive refreshes of a slotframe, with the last to the first of the next. -/
def gapsOk (limit frame first : Nat) : List Nat → Bool
  | [] => true
  | [a] => decide (first + frame - a ≤ limit)
  | a :: b :: r => decide (b - a ≤ limit) && gapsOk limit frame first (b :: r)

/-- REFRESH (0x40), R121. -/
def refreshFails (env : LoadEnv) (ws : List Nat) (sec : Nat) : List (Nat × Nat) :=
  let frame := imgSlotTk ws * imgFrameLen ws
  let trefi := if env.refreshRate = 1 then 1560 else 780
  (upFrom 0x438 4).flatMap (fun id =>
    match env.fitted (id - 0x438) with
    | none => match strandOf ws sec id with
      | some st => [(st.mark, id)]
      | none => []
    | some trfc =>
      if shedAt id ≤ sec then []
      else
        let wins := (sectionWins ws sec).filter (fun w => w.e.id == id && eAction w.e.w == 1)
        let short := wins.filter (fun w => decide (w.stop - w.start < 3 + bits w.e.w 0 8 * trfc))
        let times := wins.flatMap (fun w => (List.range (bits w.e.w 0 8)).map (fun i => w.start + 3 + i * trfc))
        short.map (fun w => (w.e.idx, id)) ++
          (if times.length < ceilDiv frame trefi ∨ !gapsOk (9 * trefi) frame (times.headD 0) times then [(noWord, id)]
           else []))

/-- The TEST windows of a section. -/
def testWins (ws : List Nat) (sec : Nat) : List Win := (sectionWins ws sec).filter (fun w => eKind w.e.w == 7)

/-- TEST_STAGGER (0x50). -/
def staggerFails (ws : List Nat) (sec : Nat) : List (Nat × Nat) :=
  let frame := imgSlotTk ws * imgFrameLen ws
  let ts := testWins ws sec
  ts.filterMap (fun a =>
    if ts.any (fun b => (b.e.idx != a.e.idx || b.start != a.start) && domainOf b.e.id == domainOf a.e.id &&
        a.meets frame b) then
      some (a.e.idx, (domainOf a.e.id).getD 0)
    else none)

/-- TEST_POWER (0x51): the first TEST RUN in execution order whose opening takes the sum above 1.5 W. -/
def testPowerFail (ws : List Nat) (sec : Nat) : Option Nat :=
  let frame := imgSlotTk ws * imgFrameLen ws
  let ts := testWins ws sec
  let past := ts.filter (fun a =>
    decide (1500 < (ts.filter (fun b => b.holds frame a.start)).foldl
      (fun n b => n + testOverhead (bits b.e.w 0 8) b.e.id) 0))
  (past.foldl (fun (m : Option Win) (w : Win) =>
    match m with
    | none => some w
    | some v => if w.start < v.start then some w else some v) none).map (fun w => w.e.idx)

/-! ## Classes, stages and hitches -/

/-- CLASS_FORM (0x90). -/
def checkClasses (ws : List Nat) : Option Reject :=
  let cs := classTable ws
  let bad := cs.find? (fun c =>
    c.2.2.2 == 0 || decide (c.2.2.1 < c.2.1) || poolOf c.2.1 == 0 || poolOf c.2.1 != poolOf c.2.2.1 ||
    cs.any (fun d => decide (d.1 < c.1) &&
      ((d.2.2.2 == c.2.2.2 && poolOf d.2.1 != poolOf c.2.1) ||
       (d.2.2.2 != c.2.2.2 && decide (d.2.1 ≤ c.2.2.1) && decide (c.2.1 ≤ d.2.2.1)))))
  match bad with
  | some c => some (rej 0x90 c.1 c.2.2.2)
  | none => overSections ws 0x90 (fun n =>
      ((strandsOf ws n).filter (fun st => poolOf st.id != 0 && !st.body.isEmpty && (classOf ws st.id).isNone)).map
        (fun st => (st.mark, noItem)))

/-- The available members of a class for a section. -/
def availableOf (env : LoadEnv) (ws : List Nat) (sec cls : Nat) : Nat :=
  ((membersOf ws cls).filter (env.available sec)).length

/-- CLASS_SHORT (0x91). -/
def checkShort (env : LoadEnv) (ws : List Nat) : Option Reject :=
  (sectionsOf ws).findSome? (fun n =>
    ((classesOf ws).find? (fun c => decide (availableOf env ws n c < needOf ws n c))).map (fun c => rej 0x91 noWord c))

/-- STAGE_RESOURCE (0x71). -/
def stageFails (ws : List Nat) (sec : Nat) : List (Nat × Nat) :=
  if sec = 0 then []
  else (strandsOf ws sec).flatMap (fun st =>
    if shedAt st.id ≤ sec then [(st.mark, st.id)]
    else (st.changes.filter (fun e => decide (e.shedAt ≤ sec))).map (fun e => (e.idx, st.id)))

/-- The tagged windows of a hitch in a section. -/
def taggedWins (ws : List Nat) (sec h : Nat) : List Win := (sectionWins ws sec).filter (fun w => w.e.tag == some h)

/-- One window of a list covers the ticks from `a` to `b`, both included, on the circle of the slotframe. -/
def covered (frame : Nat) (wins : List Win) (a b : Nat) : Bool :=
  wins.any (fun w => (List.range 3).any (fun k =>
    decide (w.start + k * frame ≤ a + frame) && decide (b + frame < w.stop + k * frame)))

/-- The wait from tick `r` to the first opportunity, each given by its first and last usable start. -/
def waitFrom (frame r : Nat) (opps : List (Nat × Nat)) : Option Nat :=
  let t := r % frame
  least (opps.flatMap (fun o => (List.range 3).filterMap (fun k =>
    if t + frame ≤ o.2 + k * frame then some (o.1 + k * frame - (t + frame)) else none)))

/-- The ticks of `[lo, hi]` after which a wait can be longest: `lo`, and each tick after one of `marks`, cyclically. -/
def worstTicks (frame lo hi : Nat) (marks : List Nat) : List Nat :=
  lo :: marks.flatMap (fun m =>
    let first := lo + (m % frame + frame - lo % frame) % frame
    (if first < hi then [first + 1] else []))

/-- The end of the first task window that starts at or after a tick. -/
def releaseTick (frame t : Nat) (tasks : List Win) : Nat :=
  (tasks.foldl (fun (b : Option (Nat × Nat)) (w : Win) =>
    let s := t + (w.start % frame + frame - t % frame) % frame
    let x := (s, s + (w.stop - w.start))
    match b with
    | none => some x
    | some y => if x.1 < y.1 then some x else some y) none).elim t (fun x => x.2)

/-- The largest of the waits, `none` where some tick waits for ever. -/
def longest (f : Nat → Option Nat) : List Nat → Option Nat
  | [] => some 0
  | t :: r => match f t, longest f r with
    | some a, some b => some (max a b)
    | _, _ => none

/-- The opportunities of an uplink hitch's frames to leave (R110): C0 windows that open its gate and hold the frame, or its TX_PLY
entries. -/
def upOpps (ws : List Nat) (sec : Nat) (i : HitchInfo) (plyTx : List Win) : List (Nat × Nat) :=
  if plyTx.isEmpty then
    let occ := occupancyTk i.frameMax i.rate
    ((sectionWins ws sec).filter (fun w =>
      w.e.id == 0x430 + i.port && w.e.isC0 && bitAt w.e.gates i.queue && decide (occ ≤ w.stop - w.start))).map
      (fun w => (w.start, w.stop - occ))
  else plyTx.map (fun w => (w.start, w.start))

/-- T + W_max of an uplink hitch (R110), `none` where a frame never leaves. -/
def upWait (ws : List Nat) (i : HitchInfo) (rx tasks : List Win) (opps : List (Nat × Nat)) : Option Nat :=
  let frame := imgSlotTk ws * imgFrameLen ws
  let c := 27804 + 44 * ccmBlocks i.lMax
  let wait := fun t => waitFrom frame t opps
  if tasks.isEmpty then
    longest wait (rx.flatMap (fun w => worstTicks frame (w.start + c) (w.stop + c) (opps.map (fun o => o.2))))
  else
    let ts := rx.flatMap (fun w => worstTicks frame (w.start + c) (w.stop + c) (tasks.map (fun k => k.start)))
    match longest (fun t => some (releaseTick frame t tasks - t)) ts,
          longest (fun t => wait (releaseTick frame t tasks)) ts with
    | some t, some w => some (t + w)
    | _, _ => none

/-- The first condition of R110 that an uplink hitch fails, 0 where closure holds. -/
def upClosure (ws : List Nat) (sec : Nat) (i : HitchInfo) : Nat :=
  let frame := imgSlotTk ws * imgFrameLen ws
  let tag := taggedWins ws sec i.num
  let cells := tag.filter (fun w => eKind w.e.w == 2 && eAction w.e.w == 1)
  let gangs := tag.filter (fun w => eKind w.e.w == 2 && eAction w.e.w == 2)
  let rx := cells ++ gangs
  let txCells := tag.filter (fun w => eKind w.e.w == 1 && eAction w.e.w == 1)
  let plyTx := tag.filter (fun w => eKind w.e.w == 1 && eAction w.e.w == 2)
  let caps := tag.filter (fun w => eKind w.e.w == 8)
  let res := tag.filter (fun w => eKind w.e.w == 3)
  let tasks := tag.filter (fun w => eKind w.e.w == 6)
  let n := ccmBlocks i.lMax
  let fixed := fUp i.lMax + (if plyTx.isEmpty then 0 else 599)
  if decide (shedAt (4 * i.trx) ≤ sec) || (plyTx.isEmpty && decide (shedAt (0x430 + i.port) ≤ sec)) || rx.isEmpty ||
      i.ply != (!gangs.isEmpty || !plyTx.isEmpty) ||
      cells.any (fun w => (w.e.stream.map streamBand) != some i.trx) ||
      gangs.any (fun w => (w.e.stream.map streamBand) != some (bits w.e.w 9 2)) ||
      txCells.any (fun w => w.e.id != 4 * i.trx + 1) then 1
  else if cells.any (fun w => !covered frame
      (caps.filter (fun k => classOf ws k.e.id == classOf ws w.e.id)) w.start (w.stop - 1)) then 2
  else if rx.any (fun w => !covered frame res (w.start + 24000) (w.stop + 24204 + 44 * n)) then 3
  else match upWait ws i rx tasks (upOpps ws sec i plyTx) with
    | some w => if fixed + w ≤ 240000 then 0 else 4
    | none => 4

/-- The longest interval between consecutive ticks of a rising list, cyclically. -/
def longestGap (frame first : Nat) : List Nat → Nat
  | [] => 0
  | [a] => first + frame - a
  | a :: b :: r => max (b - a) (longestGap frame first (b :: r))

/-- The first condition of R111 that a downlink hitch fails, 0 where closure holds. -/
def downClosure (ws : List Nat) (sec : Nat) (i : HitchInfo) : Nat :=
  let frame := imgSlotTk ws * imgFrameLen ws
  let tag := taggedWins ws sec i.num
  let cells := tag.filter (fun w => eKind w.e.w == 2 && eAction w.e.w == 1)
  let gangs := tag.filter (fun w => eKind w.e.w == 2 && eAction w.e.w == 2)
  let txCells := tag.filter (fun w => eKind w.e.w == 1 && eAction w.e.w == 1)
  let plyTx := tag.filter (fun w => eKind w.e.w == 1 && eAction w.e.w == 2)
  let res := tag.filter (fun w => eKind w.e.w == 3)
  let starts := sortNub (res.map (fun w => w.start % frame))
  if decide (shedAt (4 * i.trx) ≤ sec) || decide (shedAt (0x430 + i.port) ≤ sec) ||
      (!i.ply && (!gangs.isEmpty || !plyTx.isEmpty)) || (i.ply && !txCells.isEmpty) ||
      txCells.any (fun w => w.e.id != 4 * i.trx + 1) ||
      cells.any (fun w => (w.e.stream.map streamBand) != some i.trx) then 1
  else if (if i.ply then plyTx else txCells).isEmpty then 2
  else if res.any (fun w => decide (w.stop - w.start < 5004 + 44 * ccmBlocks i.lMax)) then 3
  else if starts.isEmpty then 4
  else if fDown i.lMax + longestGap frame (starts.headD 0) starts ≤ 160000 then 0 else 4

/-- HITCH_CLOSURE (0x60). -/
def checkClosure (ws : List Nat) : Option Reject :=
  (sectionsOf ws).findSome? (fun n =>
    (hitchesOf ws n).findSome? (fun i =>
      let d := if i.down then downClosure ws n i else upClosure ws n i
      if d = 0 then none else some { code := 0x60, word := i.idx, item := i.num, detail := d }))

/-- A strand's state changes as R112 compares them: tick, word and EXT in execution order. -/
def strandSig (ws : List Nat) (sec id : Nat) : List (Nat × Nat × Nat) :=
  (changesOf ws sec id).map (fun x => (x.1, x.2.w, x.2.ext))

/-- The tagged entries of a hitch as R112 compares them. -/
def tagSig (ws : List Nat) (sec h : Nat) : List (Nat × Nat × Nat) :=
  ((strandsOf ws sec).flatMap (fun st => st.order (imgSlotTk ws) (imgFrameLen ws))).filterMap
    (fun x => if x.2.tag = some h then some (x.1, x.2.w, x.2.ext) else none)

/-- A binding without the word it stands at. -/
def HitchInfo.same (a b : HitchInfo) : Bool := { a with idx := 0 } == { b with idx := 0 }

/-- R112 fails for hitch `h` in a stage section: the word concerned. -/
def stageHitchFail (ws : List Nat) (sec h : Nat) : Option Nat :=
  let here := hitchOf ws sec h
  let tags := taggedOf ws sec h
  let bad := match hitchOf ws 0 h with
    | none => here.isSome || !tags.isEmpty
    | some b =>
      if hitchShedAt ws b ≤ sec then here.isSome || !tags.isEmpty
      else match here with
        | none => true
        | some i => !(i.same b) || tagSig ws sec h != tagSig ws 0 h ||
            (upFrom (4 * b.trx) 4 ++ [0x430 + b.port]).any (fun id => strandSig ws sec id != strandSig ws 0 id)
  if bad then
    some (match here, tags with
      | some i, _ => i.idx
      | none, e :: _ => e.idx
      | none, [] => noWord)
  else none

/-- HITCH_STAGE (0x61). -/
def checkHitchStage (ws : List Nat) : Option Reject :=
  (sectionsOf ws).findSome? (fun n =>
    let orphans := ((strandsOf ws n).flatMap Strand.changes).filterMap (fun e => match e.tag with
      | some h => if (hitchOf ws n h).isNone then some (e.idx, h) else none
      | none => none)
    let moved := if n = 0 then [] else
      ((allHitches ws).map (fun i => i.num)).filterMap (fun h => (stageHitchFail ws n h).map (fun w => (w, h)))
    (firstFail (orphans ++ moved)).map (fun x => rej 0x61 x.1 x.2))

/-- The pins an image and the running one need together (R141, R305). -/
def pinsNeeded (env : LoadEnv) (ws : List Nat) : Nat :=
  let hs := allHitches ws
  (sortNub (hs.map (fun i => i.sensor) ++ env.runSensors)).length +
    (if env.runPly || hs.any (fun i => i.ply) then (sortNub env.plySlots).length else 0)

/-! ## The whole (R120) and the warnings (R123) -/

/-- The checks of Table 3.8 in their order, the first failure standing. -/
def loadCheck (env : LoadEnv) (ws : List Nat) : Option Reject :=
  let h0 := imgWord ws 0
  if bits h0 0 32 ≠ 0x4C594B31 then some (rej 0x01 0 noItem)
  else if bits h0 32 8 = 0 ∨ env.contract < bits h0 32 8 then some (rej 0x80 0 noItem)
  else if bits h0 40 8 = 0 ∨ env.compat < bits h0 40 8 then some (rej 0x81 0 noItem)
  else if imgWords ws < 16 ∨ 131072 < imgWords ws ∨ env.written < imgWords ws then some (rej 0x02 2 noItem)
  else if imgCrc ws ≠ crcOf ws then some (rej 0x10 9 noItem)
  else if !imgSigned ws && env.requireSig then some (rej 0x11 noWord noItem)
  else if imgSigned ws && !env.sigOk then some (rej 0x12 noWord noItem)
  else
    ((checkSection ws).map (fun x => rej 0x03 x.1 x.2)) <|>
    ((checkStrands ws).map (fun x => rej 0x04 x.1 x.2)) <|>
    (overSections ws 0x05 (fun n => eachWord ws n kindBad)) <|>
    (checkReserved ws) <|>
    (overSections ws 0x07 (fun n => (strandsOf ws n).flatMap (fun st => extFrom st.id none st.body))) <|>
    (overSections ws 0x08 (fun n => (strandsOf ws n).flatMap (fun st =>
      orderFrom st.id (imgSlotTk ws) (imgFrameLen ws) none st.body))) <|>
    (overSections ws 0x09 (fun n => (strandsOf ws n).flatMap (fun st =>
      operandFrom st.id (imgFrameLen ws) ((st.mark, imgWord ws st.mark) :: st.body)))) <|>
    (overSections ws 0x0A (fun n => ((sectionWins ws n).filter (fun w =>
      mustClose w.e.w && decide ((w.start / imgSlotTk ws + 1) * imgSlotTk ws ≤ w.stop))).map
      (fun w => (w.e.idx, w.e.id)))) <|>
    (overSections ws 0x20 (exclusiveFails ws)) <|>
    (overSections ws 0x21 (hopFails ws)) <|>
    (overSections ws 0x22 (coverFails ws)) <|>
    (overSections ws 0x23 (gangFails ws)) <|>
    (overSections ws 0x24 (templateFails env ws)) <|>
    (overSections ws 0x30 (regFails env ws)) <|>
    (overSections ws 0x31 (dutyFails env ws)) <|>
    (overSections ws 0x40 (refreshFails env ws)) <|>
    (overSections ws 0x50 (staggerFails ws)) <|>
    ((sectionsOf ws).findSome? (fun n => (testPowerFail ws n).map (fun i => rej 0x51 i noItem))) <|>
    (checkClasses ws) <|>
    (checkShort env ws) <|>
    (((upFrom 1 4).find? (fun n => (imgRegion ws n).2 == 0)).map (fun n => rej 0x70 (3 + n) n)) <|>
    (overSections ws 0x71 (stageFails ws)) <|>
    (checkClosure ws) <|>
    (checkHitchStage ws) <|>
    (if 2048 < pinsNeeded env ws then some (rej 0x62 noWord (pinsNeeded env ws)) else none)

/-- WARNINGS of an image that passed (R123). -/
def warningsOf (env : LoadEnv) (ws : List Nat) : Nat :=
  let noCal := (sectionsOf ws).any (fun n => ((strandsOf ws n).flatMap Strand.changes).any (fun e =>
    eKind e.w == 1 && radioRole e.id == 0 && eAction e.w == 1 && !env.calValid (e.id / 4) (bitAt e.w 10) (bits e.w 0 10)))
  let noSpare := (sectionsOf ws).any (fun n => (classesOf ws).any (fun c =>
    needOf ws n c != 0 && needOf ws n c == availableOf env ws n c))
  (if env.retryLate then 1 else 0) + (if noCal then 2 else 0) + (if noSpare then 4 else 0)

end Sys2Proof.Machine
end

