-- ==== Sys2Proof/Machine/JotOut.lean ====
section
/-!
DEFINITION. What the dictionary engine answers (02, §5, §8): responses, aborts and bus errors with their log entries (R90), the words of
a transfer cell's outcome (Table 2.11), and the end of a write whose answer comes later than the write (R60, R486).
-/
namespace Sys2Proof.Machine

/-- The transport of a requester carries frames: the CAN bus is not off (R62), the management PHY has its link and CLK is ON (R516). -/
def State.carries (s : State) (tr : Transport) : Bool :=
  match tr with
  | .can => !s.jot.busOff && !s.pwr.xtalFail
  | .udp => s.pins.mgmtUp && s.domainUp 1 && s.pins.low.isNone
  | .csr => true

/-! ## PDUs (R65, R66) -/

/-- The 29-bit identifier: FUNCTION, SOURCE, DEST and TAG. -/
def jotIdent (fn src dest tag : Nat) : Nat := fn % 32 * 2 ^ 24 + src % 256 * 2 ^ 16 + dest % 256 * 2 ^ 8 + tag % 256

/-- FUNCTION of an identifier. -/
def identFn (w : Nat) : Nat := bits w 24 5

/-- SOURCE of an identifier. -/
def identSrc (w : Nat) : Nat := bits w 16 8

/-- DEST of an identifier. -/
def identDest (w : Nat) : Nat := bits w 8 8

/-- TAG of an identifier. -/
def identTag (w : Nat) : Nat := bits w 0 8

/-- The header of Table 2.6; `cmd` is its low 16 bits: CMD with SHADOW (bit 8) and LAST (bit 9). -/
def jotHeader (cmd index sub count : Nat) : Nat :=
  cmd % 2 ^ 10 + index % 2 ^ 16 * 2 ^ 16 + sub % 256 * 2 ^ 32 + count % 2 ^ 24 * 2 ^ 40

/-- The FD data length that `n` octets are padded to. -/
def fdLength (n : Nat) : Nat := ([8, 12, 16, 20, 24, 32, 48, 64].find? (fun m => decide (n ≤ m))).getD 64

/-- The octets of a PDU: the header and `len` octets of data, on CAN FD padded with 0x00 to the next valid FD length. -/
def jotPdu (tr : Transport) (cmd index sub count len data : Nat) : List Byte :=
  let p := octets (jotHeader cmd index sub count) 8 ++ octets data len
  if tr = .can then p ++ List.replicate (fdLength p.length - p.length) 0 else p

/-- A PDU of Carand's to a requester: its own node ID is SOURCE, the requester's SOURCE and TAG are DEST and TAG. -/
def State.pdu (s : State) (r : Req) (fn cmd index sub count len data : Nat) : OutEvent :=
  .jot r.tr r.host (jotIdent fn (s.rd O.NODE_ID) r.src r.tag) (jotPdu r.tr cmd index sub count len data)

/-- Carand sends a frame of a transport: CAN_TX counts those of CAN FD. -/
def State.sends (s : State) (tr : Transport) (e : OutEvent) : State :=
  if !s.carries tr then s
  else if tr = .can then (s.emit e).bump O.CAN_TX else s.emit e

/-- An object's cell in the CSR window (R82). -/
def cellAddr (shadow : Bool) (index sub : Nat) : Nat :=
  0x400000000 + (if shadow then 0x40000000 else 0) + index * 0x4000 + sub * 0x40

/-- A response, FUNCTION 2: the low 16 bits of its header, COUNT and data. -/
def State.rsp (s : State) (r : Req) (cmd index sub count data : Nat) : OutEvent := s.pdu r 2 cmd index sub count count data

/-- A response is sent. -/
def State.respond (s : State) (r : Req) (cmd index sub count data : Nat) : State :=
  s.sends r.tr (s.rsp r cmd index sub count data)

/-- ACCESS of a fault entry (Table 2.13) for a refused command of Table 2.7 on an object: 3 for a service command or an object of the
session, 2 for a write of COMMIT, 1 for another write, else 0 (a command that Table 2.7 does not name among them: DESIGN CHOICE,
notes/assumptions/15.md). -/
def accessOf (cmd index sub : Nat) : Nat :=
  if (0x10 ≤ cmd ∧ cmd ≤ 0x12) ∨ (index = 0x1103 ∧ 6 ≤ sub ∧ sub ≤ 8) then 3
  else if cmd = 2 ∨ cmd = 4 then (if sub = 0xFE then 2 else 1) else 0

/-- A request is refused: an ABORT on JOT (FUNCTION 1, the code as data), a bus error on the CSR window at an address of the object's
cell; both are logged (R90). -/
def State.refuseAt (s : State) (r : Req) (cmd index sub addr : Nat) (a : Abort) : State :=
  let access := accessOf cmd index sub
  match r.tr with
  | .csr => (s.logFault a.code addr 2 access r.src).emit (.busError r.src addr)
  | tr =>
    if s.carries tr then
      ((s.logFault a.code (index * 256 + sub) tr.code access r.src).bump O.ABORTS_SENT).sends tr
        (s.pdu r 1 cmd index sub 4 4 a.code)
    else s

/-- A request for an object is refused; on the CSR window at the view it was made at. -/
def State.refuseReq (s : State) (r : Req) (cmd index sub : Nat) (a : Abort) : State :=
  s.refuseAt r cmd index sub (cellAddr (r.addr == 1) index sub) a

/-! ## The service session (R81) -/

/-- The service session ends. -/
def State.svcEnd (s : State) : State :=
  (s.onJot (fun j => { j with svc := { j.svc with holder := none } })).wr O.SVC_HOLDER 0

/-! ## Transfer cells (R87, R88) -/

/-- The words of an object's transfer cell that are a hart's own. -/
def State.xferCell (s : State) (hart key : Nat) : XferCell :=
  (s.jot.cells.find? (fun c => c.hart == hart && c.key == key)).getD { hart := hart, key := key, buf := 0, len := 0 }

/-- A hart's words of a transfer cell replaced. -/
def State.setXfer (s : State) (c : XferCell) : State :=
  s.onJot (fun j => { j with cells := j.cells.filter (fun d => !(d.hart == c.hart && d.key == c.key)) ++ [c] })

/-- The transfer of an object. -/
def State.xferRun (s : State) (key : Nat) : XferRun :=
  (s.jot.moves.find? (fun c => c.key == key)).getD
    { key := key, state := 0, seq := 0, abort := 0, hart := 0, write := false, shadow := false, buf := 0, len := 0 }

/-- The transfer of an object replaced. -/
def State.setMove (s : State) (c : XferRun) : State :=
  s.onJot (fun j => { j with moves := j.moves.filter (fun d => d.key != c.key) ++ [c] })

/-- STATE of XFER_STATUS changes, and SEQ with it (R58). -/
def XferRun.toState (c : XferRun) (st : Nat) : XferRun :=
  if c.state = st then c else { c with state := st, seq := (c.seq + 1) % 65536 }

/-- A transfer ends: DONE, or FAILED with its abort code in XFER_ABORT (R88). -/
def State.xferEnds (s : State) (key : Nat) (res : Option Abort) : State :=
  let c := s.xferRun key
  match res with
  | none => s.setMove (c.toState 2)
  | some a => s.setMove { c.toState 3 with abort := a.code }

/-! ## The end of a write -/

/-- What a write comes to: done, answered later, or refused (with what the refusal itself changes). -/
inductive Wrote where
  | done (s : State)
  | later (s : State)
  | no (s : State) (a : Abort)

/-- A write that is done or refused with nothing changed. -/
def Wrote.of (s : State) (x : Except Abort State) : Wrote :=
  match x with
  | .ok t => .done t
  | .error a => .no s a

/-- A write is done or refused: the RSP of WRITE, the closing RSP of WRITE_SEG (LAST set), the end of the transfer on a transfer cell; or
an abort or bus error. -/
def State.endWrite (s : State) (r : Req) (seg : Bool) (index sub : Nat) (res : Option Abort) : State :=
  match r.tr, seg with
  | .csr, true => s.xferEnds (index * 256 + sub) res
  | .csr, false => match res with
    | none => s
    | some a => s.refuseReq r 0x02 index sub a
  | _, _ => match res with
    | none => (if seg then s else s.event 9).respond r (if seg then 0x204 else 0x02) index sub 0 0
    | some a => s.refuseReq r (if seg then 0x04 else 0x02) index sub a

end Sys2Proof.Machine
end

