-- ==== Sys2Proof/Machine/OtpOps.lean ====
section
/-!
DEFINITION. The OTP array and what it holds (15): records and their budgets (R484 to R487), the limited-write settings (R488 to R490),
the lifecycle (R491 to R493) and the boot key hash (R494).
-/
namespace Sys2Proof.Machine

/-- The state with the OTP array changed. -/
def State.onOtp (s : State) (f : Otp → Otp) : State := { s with otp := f s.otp }

/-- The records of an area, oldest first: 0 BOOT_KEY, 1 NODE_ID, 2 REGION, 3 ROOT, 4 LIFECYCLE. -/
def State.otpRecs (s : State) (a : Nat) : List OtpRec := lookD s.otp.areas a []

/-- How many records an area has room for (Table 15.2). -/
def otpRoom (a : Nat) : Nat := [2, 10, 5, 18, 5].getD a 0

/-- The first row of an area and the data rows of its records (Table 15.2). -/
def otpRows (a : Nat) : Nat × Nat := ([74, 84, 104, 1084, 1192].getD a 2048, [4, 1, 195, 5, 0].getD a 0)

/-- A record's row `j` as the array holds it (R484, Table 15.1): the data rows, the last of a root generation its retire row, then the marker. What
tells the lifecycle records apart beside their TAG the manual leaves open; their order is their value here. -/
def otpRecRow (a : Nat) (r : OtpRec) (j : Nat) : Nat :=
  let n := (otpRows a).2
  if j < n then (if a = 3 ∧ j = 4 then (if r.retired then 2 ^ 64 - 1 else 0) else bits r.value (64 * j) 64)
  else if r.blank then 0
  else if r.valid then 0xA5 + crc32c ((octets r.value (8 * n)).map (fun b => b.toNat)) * 2 ^ 32
  else 2 ^ 64 - 1

/-- A row of the areas that the device programs; a blank row is zero. -/
def State.otpRow (s : State) (row : Nat) : Nat :=
  match (List.range 5).find? (fun a => decide ((otpRows a).1 ≤ row ∧ row < (otpRows a).1 + otpRoom a * ((otpRows a).2 + 1))) with
  | some a =>
    let i := row - (otpRows a).1
    let w := (otpRows a).2 + 1
    match (s.otpRecs a)[i / w]? with
    | some r => otpRecRow a r (i % w)
    | none => 0
  | none => 0

/-- Free records of an area. -/
def State.otpFree (s : State) (a : Nat) : Nat := otpRoom a - (s.otpRecs a).length

/-- Valid records of an area. -/
def State.otpValid (s : State) (a : Nat) : List OtpRec := (s.otpRecs a).filter (fun r => r.valid)

/-- The newest valid record of an area (R485). -/
def State.otpNewest (s : State) (a : Nat) : Option Nat := ((s.otpValid a).getLast?).map (fun r => r.value)

/-- The lifecycle state: 1 MANUFACTURE, 2 PROVISIONED, 3 DEPLOYED, 4 RETIRED (R491). -/
def State.lifecycle (s : State) : Nat := (s.otpNewest 4).getD 1

/-- The remaining counts (Table 15.3), by area; for BOOT_KEY one until it is programmed. -/
def State.otpLeft (s : State) (a : Nat) : Nat :=
  match a with
  | 0 => 1 - (s.otpValid 0).length
  | 1 => 8 - (s.otpValid 1).length
  | 2 => 4 - (s.otpValid 2).length
  | 3 => 15 - s.rootGen
  | _ => 4 - s.lifecycle

/-- Changes still to come of an area, as SPARES_LEFT counts them: ROOT has generation 0 to come until it is programmed (R487). -/
def State.otpToCome (s : State) (a : Nat) : Nat := s.otpLeft a + (if a = 3 ∧ (s.otpValid 3).isEmpty then 1 else 0)

/-- The objects that show what the array holds. -/
def State.otpMirror (s : State) : State :=
  let key := (s.otpNewest 0).getD 0
  let spares := (List.range 5).foldl (fun v a => setOctet v a (s.otpFree a - s.otpToCome a)) 0
  let s1 := (((s.wr O.NODE_ID ((s.otpNewest 1).getD 127)).wr O.NODE_ID_LEFT (s.otpLeft 1)).wr O.REGION_LEFT (s.otpLeft 2)).wr
    O.ROOT_LEFT (s.otpLeft 3)
  let s2 := ((((s1.wr O.ROOT_ROTATE s.rootGen).wr O.ROOT_GENERATION s.rootGen).wr O.LIFECYCLE s.lifecycle).wr
    O.LIFECYCLE_NOW s.lifecycle).wr O.LIFECYCLE_LEFT (s.otpLeft 4)
  ((s2.wr O.BOOT_KEY_HASH key).wr O.BOOT_KEY_READ key).wr O.SPARES_LEFT spares

/-- A record of an area written. -/
def State.otpAppend (s : State) (a : Nat) (r : OtpRec) : State :=
  s.onOtp (fun o => { o with areas := modify o.areas a [] (· ++ [r]) })

/-- BUSY of OTP_STATUS, a state field. -/
def State.otpBusy (s : State) (b : Bool) : State := s.setSt O.OTP_STATUS 15 1 (if b then 1 else 0)

/-- OTP_FAULT is counted. -/
def State.otpFaulted (s : State) : State := (s.raiseEv O.OTP_STATUS 3).bump O.OTP_FAULTS

/-- Programming of a record begins, or ends in OTP_FAULT where the area has no free record (R487). -/
def State.otpStart (s : State) (area value : Nat) (who : Option (Req × Nat × Bool)) (then_ : List (Nat × Nat)) : Wrote :=
  if s.otpFree area = 0 then .no s.otpFaulted .otpFault
  else .later ((s.onOtp (fun o => { o with
    job := some { area := area, value := value, who := who, at_ := s.now, then_ := then_ } })).otpBusy true)

/-- The checks of R487 after the first, in their order, then `go`. -/
def State.otpChecks (s : State) (forbidden exhausted : Bool) (full : Abort) (go : Wrote) : Wrote :=
  if forbidden then .no s .lifecycle
  else if exhausted then .no s full
  else if 1 ≤ s.stage then .no s.otpFaulted .otpFault
  else if s.otp.job.isSome then .no s .shadowBusy
  else go

/-! ## Writes of the OTP-backed objects -/

/-- A write of NODE_ID (Table 15.3); its range is the object's. -/
def State.opNodeId (s : State) (r : Req) (seg : Bool) (val : Nat) : Wrote :=
  if val = s.rd O.NODE_ID then .done s
  else s.otpChecks (s.lifecycle == 4) (s.otpLeft 1 == 0) .limitExhausted (s.otpStart 1 val (some (r, O.NODE_ID, seg)) [])

/-- A region profile passes the checks of R195: its CRC-32C, REGION as VIS, ranges in order, DUTY at most 100 %. -/
def regionOk (v : Nat) : Bool :=
  let range := fun (o : Nat) => decide (bits v (8 * o) 32 ≤ bits v (8 * o + 32) 32)
  decide (v < 2 ^ (8 * 1556)) &&
  bits v (8 * 1552) 32 == crc32c ((octets v 1552).map (fun b => b.toNat)) &&
  (List.range 8).all (fun i => decide (0x20 ≤ octet v (4 + i) ∧ octet v (4 + i) ≤ 0x7E)) &&
  (List.range 3).all (fun b =>
    let o := 16 + 512 * b
    (List.range 16).all (fun k => range (o + 8 + 8 * k)) && (List.range 4).all (fun k => range (o + 136 + 8 * k)) &&
    (List.range 16).all (fun k => range (o + 168 + 12 * k) && decide (bits v (8 * (o + 176 + 12 * k)) 16 ≤ 10000)))

/-- A region profile without what is written to its reserved fields (R7, Table 5.9). -/
def regionKept (v : Nat) : Nat :=
  let zero := fun (v at_ n : Nat) => setBits v (8 * at_) (8 * n) 0
  (List.range 3).foldl (fun v b =>
    let o := 16 + 512 * b
    (List.range 16).foldl (fun v k => zero (zero v (o + 178 + 12 * k) 2) (o + 366 + 8 * k) 2) (zero (zero v (o + 1) 3) (o + 488) 24))
    (zero v 12 4)

/-- A write of REGION_PROFILE (R489). -/
def State.opRegion (s : State) (r : Req) (seg : Bool) (len val : Nat) : Wrote :=
  if len ≠ 1556 then .no s .lengthMismatch
  else if !regionOk val then .no s .valueRange
  else if s.otpNewest 2 = some (regionKept val) then .done s
  else s.otpChecks (s.lifecycle == 4) (s.otpLeft 2 == 0) .limitExhausted (s.otpStart 2 (regionKept val) (some (r, O.REGION_PROFILE, seg)) [])

/-- A write of ROOT_ROTATE (R490). -/
def State.opRootRotate (s : State) (r : Req) (seg : Bool) (val : Nat) : Wrote :=
  if val = s.rootGen then .done s
  else if val ≠ s.rootGen + 1 ∨ s.cph.rewrapFrom.isSome then .no s .valueRange
  else
    let (key, s1) := s.draw
    s.otpChecks (s.lifecycle == 1 || s.lifecycle == 4) (s.otpLeft 3 == 0) .limitExhausted
      (s1.otpStart 3 (key % 2 ^ 256) (some (r, O.ROOT_ROTATE, seg)) [])

/-- A write of LIFECYCLE (Table 15.4). -/
def State.opLifecycle (s : State) (r : Req) (seg : Bool) (val : Nat) : Wrote :=
  let now := s.lifecycle
  let who := some (r, O.LIFECYCLE, seg)
  if val = now then .done s
  else if now = 1 ∧ val = 2 then
    let (key, s1) := s.draw
    s.otpChecks (s.otpValid 0).isEmpty (s.otpLeft 4 == 0) .limitExhausted
      (if (s.otpValid 3).isEmpty then s1.otpStart 3 (key % 2 ^ 256) who [(4, 2)] else s.otpStart 4 2 who [])
  else if now = 2 ∧ val = 3 then s.otpChecks false (s.otpLeft 4 == 0) .limitExhausted (s.otpStart 4 3 who [])
  else if now ≤ 3 ∧ val = 4 then s.otpChecks false (s.otpLeft 4 == 0) .limitExhausted (s.otpStart 4 4 who [])
  else .no s .valueRange

/-- A write of BOOT_KEY_HASH (R494). -/
def State.opBootKey (s : State) (r : Req) (seg : Bool) (val : Nat) : Wrote :=
  if val = s.rd O.BOOT_KEY_HASH then .done s
  else s.otpChecks (s.lifecycle != 1) (s.otpLeft 0 == 0) .writeRo (s.otpStart 0 val (some (r, O.BOOT_KEY_HASH, seg)) [])

/-! ## Programming and its effects -/

/-- A rewrap runs while channel 0 is active and pauses while it is not (R310). -/
def State.rewrapState (s : State) : State :=
  match s.cph.rewrapFrom with
  | some _ => s.setSt O.REWRAP_STATUS 12 4 (if s.chState 0 = 4 then 1 else 2)
  | none => s

/-- Entry to RETIRED: every root row is retired, the cache, the suspension records and the wrap unit are zeroized (R311). -/
def State.zeroize (s : State) : State :=
  let s1 := s.onOtp (fun o => { o with areas := modify o.areas 3 [] (fun l => l.map (fun r => { r with retired := true })) })
  let s2 := ((s1.cph.jobs.filter (fun j => j.state == 3)).foldl (fun s j => (s.jobEnds j 7).2) s1).cacheLost
  (s2.onCph (fun c => { c with importLeft := [], rewrapFrom := none, fetches := [] })).setSt O.REWRAP_STATUS 12 4 0

/-- RETIRED: a compiled lay is stopped as by STOP at the next slot boundary, and zeroizing follows; under the boot lay it follows at once. -/
def State.retireDevice (s : State) : State :=
  if s.bootLay then s.zeroize else s.onLay (fun l => { l with stopPending := true })

/-- What a record just programmed brings about. -/
def State.otpEffect (s : State) (area value : Nat) : State :=
  match area with
  | 2 => (s.wr O.PROFILE_PENDING 1).onRadio (fun r => { r with profileNext := some value })
  | 3 => if s.rootGen = 0 then s
    else ((s.onCph (fun c => { c with rewrapFrom := some (s.rootGen - 1) })).wr O.REWRAP_DONE 0).rewrapState
  | 4 => if value = 4 then s.retireDevice else s
  | _ => s

/-- The answer of a write that programmed OTP; the object's slow copy shows the new value from then on (R60). -/
def State.otpAnswer (s : State) (who : Option (Req × Nat × Bool)) (res : Option Abort) : State :=
  match who with
  | some (r, key, seg) => { s with objsEdge := put s.objsEdge key (s.rd key) }.endWrite r seg (key / 256) (key % 256) res
  | none => s

/-- A record's readback is done: as programmed, or it differs and the record is voided and programmed again (R486). -/
def State.otpProgrammed (s : State) (good : Bool) : State :=
  match s.otp.job with
  | none => s
  | some j =>
    let s0 := s.onOtp (fun o => { o with job := none })
    let next := fun (x : Wrote) => match x with
      | .later t => t
      | .done t => t
      | .no t a => ((t.otpBusy false).otpMirror).otpAnswer j.who (some a)
    if good then
      let s1 := ((s0.otpAppend j.area { value := j.value, valid := true, blank := false, retired := false }).raiseEv O.OTP_STATUS 0).bump
        O.OTP_PROGRAMS
      let s2 := (s1.otpMirror).otpEffect j.area j.value
      match j.then_ with
      | [] => (s2.otpBusy false).otpAnswer j.who none
      | (a, v) :: rest => next (s2.otpStart a v j.who rest)
    else
      let s1 := (s0.otpAppend j.area { value := j.value, valid := false, blank := false, retired := false }).raiseEv O.OTP_STATUS 1
      next ((s1.otpMirror).otpStart j.area j.value j.who j.then_)

/-- Programming is cut short by a reset, S5 or the loss of VDD_AON: data rows without a marker may stay behind (R486), whether any was programmed
being open; a LIFECYCLE record has no data row, and rows of zeros stay blank. -/
def State.otpCut (s : State) : State :=
  match s.otp.job with
  | none => s
  | some j =>
    let s1 := (s.onOtp (fun o => { o with job := none })).otpBusy false
    let (v, s2) := s1.free
    if j.area = 4 ∨ j.value = 0 ∨ v % 2 = 0 then s2
    else s2.otpAppend j.area { value := j.value, valid := false, blank := true, retired := false }

/-- A device found in RETIRED: its transition completes (R492). -/
def State.retireAgain (s : State) : State := if s.lifecycle = 4 then s.zeroize else s

/-- A rewrap that was interrupted goes on from slot 0 (R310). -/
def State.rewrapAgain (s : State) : State :=
  match (s.otpValid 3).reverse with
  | _ :: b :: _ => if b.retired then s else (s.onCph (fun c => { c with rewrapFrom := some (s.rootGen - 1) })).rewrapState
  | _ => s

/-- Records whose marker is blank are voided and counted (R486). -/
def State.otpVoid (s : State) : State :=
  let n := (List.range 5).foldl (fun n a => n + ((s.otpRecs a).filter (fun r => r.blank)).length) 0
  let s1 := s.onOtp (fun o => { o with areas := o.areas.map (fun e => (e.1, e.2.map (fun r => { r with blank := false }))) })
  if n = 0 then s1 else ((List.range n).foldl (fun s _ => s.raiseEv O.OTP_STATUS 2) s1).wr O.VOIDED n

/-- At power-on and every release of RESET_N: records without a marker are voided and counted (R486), the region profile comes into force
(R197), an interrupted rewrap goes on (R310) and a transition into RETIRED completes (R492). -/
def State.otpBoot (s : State) : State :=
  let s1 := s.otpVoid.otpMirror
  ((s1.onRadio (fun r => { r with profile := (s1.otpNewest 2).getD 0, profileNext := none })).rewrapAgain).retireAgain

/-- A record of generation `g` goes under the current one, if it holds: its slot is not CORRUPT and its checks are good (R310). -/
def State.rewrapSlot (s : State) (g n : Nat) : Bool × State :=
  let r := s.record n
  match (if rcGen r = g ∧ !(s.keyNote n).corrupt then s.unsealRecord n r else none), s.rootKey s.rootGen with
  | some key, some root => (true, s.putRecord n (sealRecord root s.rootGen n (rcKind r) (rcSeq r) key))
  | _, _ => (false, s)

/-- The rewrap has come to its end: every record of the old generation is under the new one, whose row before it is retired (R310). -/
def State.rewrapDone (s : State) : State :=
  match s.cph.rewrapFrom with
  | none => s
  | some g =>
    if s.chState 0 ≠ 4 then s
    else
      let (n, s1) := s.storeSlots.foldl (fun (a : Nat × State) k =>
        let (done, s1) := a.2.rewrapSlot g k
        (if done then a.1 + 1 else a.1, s1)) (0, s.onCph (fun c => { c with rewrapFrom := none }))
      let s2 := s1.onOtp (fun o => { o with areas := modify o.areas 3 [] (fun l =>
        match (findAt l (fun r => r.valid && !r.retired)) with
        | some (i, r) => if ((l.drop (i + 1)).any (fun x => x.valid)) then setAt l i { r with retired := true } else l
        | none => l) })
      ((s2.wr O.REWRAP_DONE n).setSt O.REWRAP_STATUS 12 4 0).raiseEv O.REWRAP_STATUS 0

/-! ## The rows of the table -/

/-- OTP_RECORD_PROGRAMMED (R486). -/
def execOtpRecordProgrammed (t : Tick) (good : Bool) (s : State) : Host.Outcome State Fault Refusal :=
  .next ((s.tickTo t).otpProgrammed good)

/-- REWRAP_DONE (R310). -/
def execRewrapDone (t : Tick) (s : State) : Host.Outcome State Fault Refusal := .next ((s.tickTo t).rewrapDone)

end Sys2Proof.Machine
end

