-- ==== Sys2Proof/Machine/PowerOps.lean ====
section
/-!
DEFINITION. The power controller (13): domains and their parts, what a block loses and regains with its power, wakes (R448, R449),
requests and refusals (R445, R446), the supply stage and what it sheds (R457 to R460), SLEEP (R452) and the S5 sequence (R462, R464).
A unit is a domain n (key n) or its part p (key 16 * (n + 1) + p).
-/
namespace Sys2Proof.Machine

/-! ## Domains and parts (Tables 13.2 and 13.7) -/

/-- The domain of a unit. -/
def unitDomain (k : Nat) : Nat := if k < 16 then k else k / 16 - 1

/-- The wake steps of a domain: 1 regulator, 2 oscillator, 3 memory, 4 logic. -/
def wakeSteps (n : Nat) : List Nat :=
  match n with
  | 1 => [1, 2, 4]
  | 11 => [1, 2, 3, 4]
  | 12 => [1, 2, 3, 4]
  | _ => [1, 3, 4]

/-- The prerequisites of a domain. -/
def prereqs (n : Nat) : List Nat :=
  match n with
  | 0 => []
  | 1 => []
  | 6 => [5]
  | 7 => [5]
  | 8 => [1, 15]
  | 9 => [1, 15]
  | 10 => [1, 15]
  | 11 => [10]
  | 13 => [1, 15]
  | 14 => [1, 15]
  | _ => [1]

/-- A domain's prerequisites with theirs, in domain-number order. -/
def allPrereqs (n : Nat) : List Nat :=
  sortNub (prereqs n ++ (prereqs n).flatMap prereqs ++ ((prereqs n).flatMap prereqs).flatMap prereqs)

/-- The parts of a domain with a switch of their own, but for the pans, which placement switches (R151). -/
def domainParts (n : Nat) : List Nat :=
  match n with
  | 5 => [0, 1, 2]
  | 9 => [0]
  | 11 => [0, 1, 2, 3]
  | 12 => [0, 1]
  | 13 => [1]
  | _ => []

/-- The first stage that sheds a unit (Table 13.7); 6 for what the S5 sequence keeps until its end. -/
def unitShedAt (k : Nat) : Nat :=
  if k ≤ 1 ∨ k = 8 ∨ k = 11 ∨ k = partKey 11 0 then 6
  else if k = 4 ∨ k = partKey 5 2 ∨ k = partKey 11 2 ∨ k = partKey 11 3 then 2
  else if k = 7 ∨ k = 14 ∨ k = partKey 9 0 ∨ k = partKey 12 1 then 3
  else if k = 3 ∨ k = partKey 5 1 ∨ k = partKey 11 1 ∨ k = partKey 12 0 ∨ k = partKey 13 1 then 4
  else 5

/-- A stage sheds a unit. -/
def unitShed (stage k : Nat) : Bool := decide (unitShedAt k ≤ stage)

/-- Every unit, domains in rising order, each followed by its parts. -/
def allUnits : List Nat := (upFrom 1 15).flatMap (fun n => n :: (domainParts n).map (partKey n))

/-- State of a unit (Table 13.3). -/
def State.unitState (s : State) (k : Nat) : Nat := if k < 16 then s.domain k else lookD s.pwr.parts k 0

/-- State of a unit set; ROOT_STATE follows CLK: 0 OFF, 1 LOCKING, 2 LOCKED, 3 FAULT. -/
def State.setUnit (s : State) (k v : Nat) : State :=
  if k < 16 then
    let s1 := s.wrOct O.DOMAIN_STATE k v
    if k = 1 then s1.wr O.ROOT_STATE (match v with
      | 0 => 2
      | 1 => 2
      | 4 => 1
      | 6 => 3
      | _ => 0) else s1
  else s.onPwr (fun p => { p with parts := put p.parts k v })

/-! ## Balls (R441, R451) -/

/-- PMIC_EN[n] is driven high: in any state but OFF, but for the 100 µs before a retry of the domain's regulator step (R441). -/
def State.pmicEn (s : State) (n : Nat) : Bool :=
  n == 0 || (s.domain n != 3 && !(look s.pwr.wakes n).any (fun w => w.waiting && w.step == 1))

/-- The outputs of a unit float: from the opening of its switch, or its domain's, until its logic step is complete (R451). -/
def State.floats (s : State) (k : Nat) : Bool :=
  [2, 3, 4, 6].contains (s.unitState k) || (decide (16 ≤ k) && [2, 3, 4, 6].contains (s.domain (unitDomain k)))

/-- SHED_STAGE[2:0] (R457). -/
def State.shedStage (s : State) : Nat := s.stage

/-! ## What a block loses with its power -/

/-- The lanes of a domain. -/
def domainLanes (n : Nat) : List Nat := if n = 6 then List.range 384 else upFrom 384 384

/-- The harts of a domain's part, or of the whole domain. -/
def domainHarts (k : Nat) : List Nat :=
  if k = partKey 13 1 then upFrom 4 4 else if k = 13 then List.range 8 else if k = 14 then upFrom 8 8 else []

/-- A lane domain is off: its lanes end what they receive, the frames in their back ends are gone (Table 6.8, R222). -/
def State.lanesOff (s : State) (n : Nat) : State :=
  let mine := domainLanes n
  let s1 := mine.foldl (fun s l => if s.laneState l = 0 then s else s.laneOut l 0 .shed) s
  s1.onRx (fun r => { r with back := r.back.filter (fun e => !mine.contains e.1) })

/-- A lane domain is ON. -/
def State.lanesUp (s : State) (n : Nat) : State :=
  (domainLanes n).foldl (fun s l => if s.laneState l = 0 then s.setLane l (if s.barred (0x100 + l) then 9 else 1) else s) s

/-- Domain LAY is off: the lay engine, the air MAC and the time unit lose what they hold but for the sensor entries, which are in memory,
and the network time, which AON carries on (R358). -/
def State.layDown (s : State) : State :=
  let s1 := (List.range 3).foldl (fun s x => (s.txCloseWin x).rxCloseWin x) (s.bootLayNow.coarseStart)
  let s2 := if s1.stOf O.LAY_STATUS = 2 then s1.setSt O.LAY_STATUS 12 4 1 else s1
  let lost := { s2 with
    mac := { Mac.reset with sensors := s2.mac.sensors, lost := s2.mac.lost, nextId := s2.mac.nextId, nextNum := s2.mac.nextNum }
    rx := { s2.rx with links := [] } }
  lost.onLay (fun l => { l with verifyAt := none, stopPending := false, presented := [], res := [] })

/-- Domain LAY is ON: the boot lay runs, its slots on the grid of the network time that the coarse copy gives (R358, R359), the time unit
in FREERUN, the counters at zero (R469). -/
def State.layUp (s : State) : State :=
  let s1 := s.coarseEnd.freerun
  let s2 := s1.onLay (fun l => { l with asn := s1.gridAsn s1.now, slotAt := s1.now, slotEnd := some s1.nextGrid })
  s2.slotRef.countersWake

/-- Domain BRINE is off: every pan is, with the sensor entries it held; `keep` in DOZE, where pans retain (Table 12.2). -/
def State.brineDown (s : State) (keep : Bool) : State :=
  (List.range 16).foldl (fun s p =>
    let w := s.oct O.PAN_POWER p
    if keep then (if w = 2 then s.wrOct O.PAN_POWER p 3 else s)
    else
      let gone := (s.objsAt (panLoc p)).filter (fun k => k / 2 ^ 24 == 1)
      let s1 := (gone.foldl (fun s k => s.sensorLost (k % 2 ^ 24)) s).panOff p
      if s1.pan p = 5 then s1 else s1.setPan p 0) s

/-- Domain BRINE is ON: pans that retained go on, and from DOZE the others stay OFF (R414); from OFF all begin INIT but retired ones. -/
def State.brineUp (s : State) (doze : Bool) : State :=
  (List.range 16).foldl (fun s p =>
    let w := s.oct O.PAN_POWER p
    if w = 3 then (if bitAt (s.rd O.PAN_RETAIN_REQ) p then s else s.wrOct O.PAN_POWER p 2)
    else if w = 0 ∧ s.pan p ≠ 5 ∧ !doze then s.panInit p
    else s) s

/-- A DRAM channel whose power goes: in order it refreshes itself (R428), else its contents are lost. -/
def State.channelOff (s : State) (c : Nat) (hard : Bool) : State :=
  let st := s.chState c
  if hard ∨ st < 3 ∨ 6 < st then s.chLose c 0 else s.chSelfRefresh c

/-- The parts of a domain that are waking go no further when the domain's power goes. -/
def State.partsStop (s : State) (k : Nat) : State :=
  if 16 ≤ k then s
  else (domainParts k).foldl (fun s q =>
    let key := partKey k q
    if (look s.pwr.wakes key).isSome then (s.onPwr (fun p => { p with wakes := del p.wakes key })).setUnit key 3 else s) s

/-- What stops when a unit leaves ON and IDLE, or its switch opens: `target` 2 for DOZE and 3 for OFF, `hard` where the power is lost at
once and DRAM with it. -/
def State.blockDown (s : State) (k target : Nat) (hard : Bool) : State :=
  let s0 := (s.partsStop k).testCancel 3 (fun r => domainOf r.member == some k ||
    (match partOf r.member with
     | some (d, p) => partKey d p == k
     | none => false))
  match k with
  | 2 => s0.trxOff 0
  | 3 => s0.trxOff 1
  | 4 => s0.trxOff 2
  | 5 => [0, 1, 2].foldl (fun s b => s.streamsOff (streamsOf b)) s0
  | 6 => s0.lanesOff 6
  | 7 => s0.lanesOff 7
  | 8 => s0.layDown
  | 9 => s0.cipherDown (List.range 32) true
  | 10 => ((List.range 4).foldl State.flushPort s0).onEth (fun e => { e with parse := [] })
  | 11 => [0, 1, 2, 3].foldl (fun s p => s.linkTo p 2) s0
  | 12 => [0, 1].foldl (fun s c => s.channelOff c hard) s0
  | 13 => (domainHarts 13).foldl (fun s h => if s.hartState h = 6 then s else s.hartStop h (if 5 ≤ s.stage then 7 else 0)) s0
  | 14 => (domainHarts 14).foldl (fun s h => if s.hartState h = 6 then s else s.hartStop h (if unitShed s.stage 14 then 7 else 0)) s0
  | 15 => s0.brineDown (target == 2)
  | _ =>
    let p := k % 16
    match unitDomain k with
    | 5 => s0.streamsOff (streamsOf p)
    | 9 => s0.cipherDown (upFrom 16 16) false
    | 11 => s0.linkTo p 2
    | 12 => s0.channelOff p hard
    | 13 => (domainHarts k).foldl (fun s h => if s.hartState h = 6 then s else s.hartStop h 7) s0
    | _ => s0

/-- Harts whose power is there again are PARKED, retired ones RETIRED. -/
def State.hartsOn (s : State) (hs : List Nat) : State :=
  (hs.foldl (fun s h =>
    if s.idPowered (0x420 + h) ∧ (s.hartState h = 0 ∨ s.hartState h = 7) then s.setHart h (if s.barred (0x420 + h) then 6 else 1)
    else s) s).hartBack

/-- Streams of a band whose transceiver receives become valid with the rake's part. -/
def State.bandOn (s : State) (b : Nat) : State :=
  if s.rxLive b then s.onTrx b (fun t => { t with streamsAt := some (s.now + 2000) }) else s

/-- What a unit takes up when it is ON, `doze` from DOZE (R443, R49). -/
def State.blockUp (s : State) (k : Nat) (doze : Bool) : State :=
  match k with
  | 2 => s.trxStartup 0
  | 3 => s.trxStartup 1
  | 4 => s.trxStartup 2
  | 5 => [0, 1, 2].foldl State.bandOn s
  | 6 => s.lanesUp 6
  | 7 => s.lanesUp 7
  | 8 => s.layUp
  | 9 => s.cipherBack
  | 11 => (List.range 4).foldl (fun s p => s.linkTo p (s.linkIdle p)) s
  | 12 => [0, 1].foldl (fun s c => if s.partUp 12 c then (s.chWake c).chReturn c else s) s
  | 13 => s.hartsOn (List.range 8)
  | 14 => s.hartsOn (upFrom 8 8)
  | 15 => s.brineUp doze
  | _ =>
    let p := k % 16
    match unitDomain k with
    | 5 => s.bandOn p
    | 9 => s.cipherBack
    | 11 => s.linkTo p (s.linkIdle p)
    | 12 => (s.chWake p).chReturn p
    | 13 => s.hartsOn (upFrom 4 4)
    | _ => s

/-! ## Requests, refusals and wakes -/

/-- A refusal, or an abort, counted in the domain's entry of REFUSALS (R446). -/
def State.refuse (s : State) (n code target : Nat) (aborted : Bool) : State :=
  let at_ := 128 * n + (if aborted then 32 else 0)
  let v := s.rd O.REFUSALS
  let v1 := setBits v at_ 32 (bits v at_ 32 + 1)
  let v2 := setBits (setBits v1 (128 * n + 64) 8 code) (128 * n + 72) 8 target
  s.wr O.REFUSALS (setBits v2 (128 * n + 96) 32 ((s.now - s.resetAt) / secTk))

/-- REQ_RESULT of a domain: 0 DONE, 1 PENDING, 2 REFUSED, 3 ABORTED, 4 SUPERSEDED, 5 CANCELLED. -/
def State.setResult (s : State) (n v : Nat) : State := s.wrOct O.REQ_RESULT n v

/-- A wake begins from DOZE or OFF. -/
def State.wakeBegin (s : State) (k : Nat) : State :=
  let origin := s.unitState k
  (s.setUnit k 4).onPwr (fun p => { p with
    wakes := put p.wakes k { step := (wakeSteps (unitDomain k)).headD 1, attempt := 1, at_ := s.now, waiting := false, origin := origin } })

/-- The prerequisites of a unit are ON or IDLE: those of Table 13.2, and for a part its domain. -/
def State.prereqsUp (s : State) (k : Nat) : Bool :=
  if k < 16 then (prereqs k).all s.domainUp else s.domainUp (unitDomain k)

/-- Why a wake is refused: STAGE, PREREQUISITE or WAKE_FAULT (Table 13.4). -/
def State.wakeRefused (s : State) (k : Nat) : Option Nat :=
  if unitShed s.stage k then some 1
  else if (allPrereqs (unitDomain k)).any (fun m => s.domain m == 6 || unitShed s.stage m) ||
      (decide (16 ≤ k) && s.domain (unitDomain k) == 6) then some 2
  else if s.unitState k = 6 then some 0xD
  else none

/-- The queue of units that wait to wake moves on while none is waking (R459). -/
def State.queueGo : Nat → State → State
  | 0, s => s
  | f + 1, s =>
    if !s.pwr.wakes.isEmpty then s
    else match s.pwr.queue with
    | [] => s
    | k :: r =>
      let s1 := s.onPwr (fun p => { p with queue := r })
      let st := s.unitState k
      if st ≤ 1 ∨ st = 5 ∨ (16 ≤ k ∧ !s.domainUp (unitDomain k)) then State.queueGo f s1
      else match s.wakeRefused k with
      | some c => State.queueGo f ((if k < 16 then s1.setResult k 2 else s1).refuse (unitDomain k) c 0 false)
      | none =>
        if s.prereqsUp k then s1.wakeBegin k
        else State.queueGo f (s1.onPwr (fun p => { p with
          queue := (allPrereqs (unitDomain k)).filter (fun m => !s.domainUp m) ++ k :: r }))

/-- Units put in the queue, in rising order, after those there. -/
def State.queueWakes (s : State) (ks : List Nat) : State :=
  State.queueGo 64 (s.onPwr (fun p => { p with queue := p.queue ++ ks.filter (fun k => !p.queue.contains k) }))

/-- A wake that comes to nothing: its unit is OFF again, counted as an abort by the stage (Table 13.3). -/
def State.wakeAbort (s : State) (k : Nat) : State :=
  let n := unitDomain k
  let s1 := ((s.onPwr (fun p => { p with wakes := del p.wakes k })).setUnit k 3).refuse n 1 0 true
  if k < 16 ∧ s1.oct O.REQ_RESULT n = 1 then s1.setResult n 3 else s1

/-- A unit goes OFF at once: the stage sheds it, SLEEP, S5, or its power is lost (Table 13.3); its pending request is CANCELLED (R460). -/
def State.unitOff (s : State) (k : Nat) (hard : Bool) : State :=
  let s0 :=
    if k < 16 ∧ (look s.pwr.pendingReq k).isSome then
      (s.onPwr (fun p => { p with pendingReq := del p.pendingReq k })).setResult k 5
    else s
  match s.unitState k with
  | 3 => s0
  | 6 => s0
  | 4 => s0.wakeAbort k
  | 5 =>
    let s1 := (s0.blockDown k 3 hard).onPwr (fun p => { p with entering := del p.entering k })
    (if s1.oct O.REQ_RESULT k = 1 then s1.setResult k 0 else s1).setUnit k 3
  | 2 => (if k = 15 then s0.brineDown false else s0).setUnit k 3
  | _ => (((s0.blockDown k 3 hard).setUnit k 3).onPwr (fun p => { p with idleAt := del p.idleAt k }))

/-- WAKE_FAULT of a unit (R442, R449): FAULT_DOMAINS, FAULT_RECORD, POWER_FAULT; CLK's failure leaves the block in SLEEP (R450). What
REQ_RESULT then reads the manual leaves open. -/
def State.wakeFault (s : State) (k step cause attempts : Nat) : State :=
  let n := unitDomain k
  let sub := if k < 16 then 0xFF else k % 16
  let s1 := (s.onPwr (fun p => { p with wakes := del p.wakes k })).setUnit k 6
  let s2 := (s1.wr O.FAULT_DOMAINS (setBit (s1.rd O.FAULT_DOMAINS) n)).wr O.FAULT_RECORD
    (n + sub * 2 ^ 8 + step * 2 ^ 16 + cause * 2 ^ 24 + attempts * 2 ^ 32 + s.uptimeUs % 2 ^ 64 * 2 ^ 64)
  let s3 := (if cause = 1 then s2.raiseEv O.POWER_FAULT 3 else s2).raiseEv O.POWER_FAULT 0 |>.event 24
  let (v, s4) := s3.free
  let s5 := if k < 16 ∧ s.oct O.REQ_RESULT n = 1 then s4.setResult n (v % 6) else s4
  if k = 1 then (s5.raiseEv O.RESET_CAUSE 4).onPwr (fun p => { p with queue := [], sleepAt := some (p.sleepAt.getD s.now) })
  else State.queueGo 64 s5

/-! ## DOZE and OFF on request (R445, R446) -/

/-- A domain has a non-empty strand on its resources in some section of a held image (R447). -/
def State.strandOn (s : State) (n : Nat) : Bool :=
  s.heldImages.any (fun ws => (sectionsOf ws).any (fun sec => (strandsOf ws sec).any (fun st =>
    !st.body.isEmpty && domainOf st.id == some n)))

/-- The first refuser of Table 13.4, in code order, of DOZE or OFF of a domain. -/
def State.offRefused (s : State) (n : Nat) : Option Nat :=
  let harts := fun (hs : List Nat) => hs.any (fun h => s.hartState h == 2 || s.hartState h == 4)
  if (upFrom 2 14).any (fun m => (prereqs m).contains n && (s.domainUp m || s.domain m == 4)) then some 3
  else if s.strandOn n then some 4
  else if n = 9 ∧ s.cph.pinned.any (fun k => (s.keySlot k).kind != 0) then some 5
  else if (n = 13 ∨ n = 14) ∧ harts (domainHarts n) then some 6
  else if n = 12 ∧ [0, 1].any (fun c => s.rd (O.DENSITY c) != 0 && !([0, 1, 5].contains (s.chState c))) then some 7
  else if n = 12 ∧ [0, 1].any (fun c => (s.chan c).training.isSome) then some 8
  else if n = 11 ∧ [0, 1, 2, 3].any s.isUp then some 9
  else if n = 8 then some 0xA
  else if s.ctr.tests.any (fun t => domainOf t.member == some n) then some 0xB
  else none

/-- A domain is in the way to DOZE or OFF: its state is saved, the switch yet to open; transceivers and lanes are OFF from here (Tables 5.2
and 6.8). -/
def State.enterOff (s : State) (n target : Nat) : State :=
  let origin := s.domain n
  let s1 := (s.setUnit n 5).onPwr (fun p => { p with
    entering := put p.entering n { target := target, origin := origin }, idleAt := del p.idleAt n })
  if n = 6 ∨ n = 7 then s1.lanesOff n else if 2 ≤ n ∧ n ≤ 4 then s1.trxOff (n - 2) else s1

/-- Blocks of a domain have work, so far as the block's own state shows it (R444). -/
def State.domainBusy (s : State) (n : Nat) : Bool :=
  let trx := fun (x : Nat) =>
    let t := s.trx x
    t.txOpen || t.rxOpen || t.tune.isSome || t.calRun.isSome || t.tx.isSome
  let lanes := fun (b : Nat) => s.rx.lanes.any (fun e => e.1 / 384 == b) || s.rx.back.any (fun e => e.1 / 384 == b)
  match n with
  | 2 => trx 0
  | 3 => trx 1
  | 4 => trx 2
  | 5 => s.rd O.STREAM_VALID != 0
  | 6 => lanes 0
  | 7 => lanes 1
  | 9 => !s.cph.jobs.isEmpty || !s.cph.fetches.isEmpty || !s.cph.importLeft.isEmpty
  | 10 => !s.eth.parse.isEmpty || s.eth.ports.any (fun p => p.2.queues.any (fun q => !q.2.isEmpty))
  | 11 => [0, 1, 2, 3].any (fun p => s.isUp p || (s.port p).tx.isSome)
  | 12 => [0, 1].any (fun c => s.chState c == 2 || s.chState c == 6 || (s.chan c).training.isSome ||
      !((s.chan c).rq.isEmpty && (s.chan c).wq.isEmpty && (s.chan c).input.isEmpty))
  | 13 => (domainHarts 13).any (fun h => s.hartState h == 2 || s.hartState h == 4)
  | 14 => (domainHarts 14).any (fun h => s.hartState h == 2 || s.hartState h == 4)
  | 15 => !s.plc.migrations.isEmpty || (List.range 16).any (fun p => s.oct O.PAN_POWER p == 1)
  | _ => true

/-- The running lay, the boot lay too, has an entry on a domain's resources within the next 400 tk (R444). -/
def State.laySoon (s : State) (n : Nat) : Bool :=
  (s.bootLay && s.laySteps && (List.range (8 * bootWindows + 4)).any (fun w => (bootEntry w).any (fun e => domainOf e.id == some n &&
    (decide (s.now < s.lay.slotAt + eTick e.w ∧ s.lay.slotAt + eTick e.w ≤ s.now + 400) || decide (s.nextSlotAt + eTick e.w ≤ s.now + 400))))) ||
  s.layRuns && (strandsOf s.runWords s.runSec).any (fun st => domainOf st.id == some n &&
    ((st.inSlot s.slotPos).any (fun e => decide (s.now < s.lay.slotAt + eTick e.w ∧ s.lay.slotAt + eTick e.w ≤ s.now + 400)) ||
     (st.inSlot ((s.slotPos + 1) % s.frameLen)).any (fun e => decide (s.nextSlotAt + eTick e.w ≤ s.now + 400))))

/-- A domain's clocks stop: IDLE (R439). -/
def State.enterIdle (s : State) (n : Nat) : State :=
  let s1 := (s.setUnit n 1).onPwr (fun p => { p with idleAt := put p.idleAt n s.now })
  if look s.pwr.pendingReq n = some 1 then
    (s1.onPwr (fun p => { p with pendingReq := del p.pendingReq n })).setResult n 0
  else s1

/-- A request for a state, 0 ON, 1 IDLE, 2 DOZE, 3 OFF, on a domain that is in no transition. -/
def State.requestStart (s : State) (n target : Nat) : State :=
  let st := s.domain n
  let refused := fun (c : Nat) => (s.refuse n c target false).setResult n 2
  if st ≤ 1 then
    if target = 0 then (s.idleWake n).setResult n 0
    else if target = 1 then
      if st = 1 ∨ n = 8 then s.setResult n 0
      else (s.setResult n 1).onPwr (fun p => { p with pendingReq := put p.pendingReq n 1 })
    else match s.offRefused n with
      | some c => refused c
      | none => (s.setResult n 1).enterOff n target
  else if target ≤ 1 then
    match s.wakeRefused n with
    | some c => refused c
    | none =>
      if !s.domainUp 1 then refused 2
      else if s.prereqsUp n then (s.setResult n 1).wakeBegin n
      else (s.setResult n 1).queueWakes ((allPrereqs n).filter (fun m => !s.domainUp m) ++ [n])
  else if st = 2 ∧ target = 3 then match s.offRefused n with
    | some c => refused c
    | none => ((if n = 15 then s.brineDown false else s).setUnit n 3).setResult n 0
  else s.setResult n 0

/-- The pending request of a domain whose transition is complete starts (R445). -/
def State.pendingGo (s : State) (n : Nat) : State :=
  match look s.pwr.pendingReq n with
  | some t => (s.onPwr (fun p => { p with pendingReq := del p.pendingReq n })).requestStart n t
  | none => if s.oct O.REQ_RESULT n = 1 then s.setResult n 0 else s

/-- DOMAIN_REQ (R445): AON and CLK are refused; in a transition the request waits, or undoes it where it asks for the state being left. -/
def State.opDomainReq (s : State) (n target : Nat) : Except Abort State :=
  if n ≤ 1 then .error .valueRange
  else .ok (match look s.pwr.entering n, look s.pwr.wakes n with
    | some e, _ =>
      if target = e.origin then
        let s1 := (s.onPwr (fun p => { p with entering := del p.entering n, pendingReq := del p.pendingReq n })).setUnit n e.origin
        ((if n = 6 ∨ n = 7 then s1.lanesUp n else if 2 ≤ n ∧ n ≤ 4 then s1.trxStartup (n - 2) else s1).refuse n 0xC e.target true).setResult n 0
      else (s.setResult n 1).onPwr (fun p => { p with pendingReq := put p.pendingReq n target })
    | none, some _ => (s.setResult n 1).onPwr (fun p => { p with pendingReq := put p.pendingReq n target })
    | none, none =>
      if s.pwr.queue.contains n ∧ 2 ≤ target then
        (s.onPwr (fun p => { p with queue := p.queue.filter (· != n) })).requestStart n target
      else (s.onPwr (fun p => { p with pendingReq := del p.pendingReq n })).requestStart n target)

/-- The on-die switch of a domain in the way to DOZE or OFF has opened. -/
def State.switchOpen (s : State) (n : Nat) : State :=
  match look s.pwr.entering n with
  | none => s
  | some e =>
    State.queueGo 64
      (((((s.blockDown n e.target false).onPwr (fun p => { p with entering := del p.entering n })).setUnit n e.target).setResult n 0).pendingGo n)

/-! ## Wake steps (R448, R449) -/

/-- A unit is ON: a domain with those of its parts that no stage sheds and no fault keeps off. -/
def State.unitOn (s : State) (k : Nat) : State :=
  let s1 := (s.setUnit k 0).onPwr (fun p => { p with wakes := del p.wakes k })
  let doze : Bool := (look s.pwr.wakes k).any (fun w => w.origin == 2)
  if 16 ≤ k then State.queueGo 64 (s1.blockUp k doze)
  else
    let s2 := (domainParts k).foldl (fun s q =>
      let key := partKey k q
      if s.unitState key = 6 then s else s.setUnit key (if unitShed s.stage key then 3 else 0)) s1
    State.queueGo 64 (((s2.bumpAt O.WAKES k).blockUp k doze).pendingGo k)

/-- A wake step reports ready: the next one starts, or the unit is ON. -/
def State.stepReady (s : State) (k : Nat) : State :=
  match look s.pwr.wakes k with
  | none => s
  | some w =>
    if w.waiting then s
    else match (wakeSteps (unitDomain k)).find? (fun x => decide (w.step < x)) with
    | some x => s.onPwr (fun p => { p with wakes := put p.wakes k { w with step := x, attempt := 1, at_ := s.now } })
    | none => s.unitOn k

/-- The timeout of a wake step in ticks (Table 13.5). -/
def stepTk (step : Nat) : Nat :=
  match step with
  | 1 => 400000
  | 2 => 30000
  | 3 => 10000
  | _ => 400

/-- A wake step misses its timeout: it is turned off for 100 µs, or after the third attempt the unit is in WAKE_FAULT. -/
def State.stepTimeout (s : State) (k : Nat) : State :=
  match look s.pwr.wakes k with
  | none => s
  | some w =>
    if w.waiting ∨ s.now < w.at_ + stepTk w.step then s
    else if w.attempt < 3 then s.onPwr (fun p => { p with wakes := put p.wakes k { w with waiting := true, at_ := s.now } })
    else s.wakeFault k w.step 0 3

/-- The 100 µs before a retry are over: the step is repeated with its full timeout. -/
def State.stepRetry (s : State) (k : Nat) : State :=
  match look s.pwr.wakes k with
  | none => s
  | some w =>
    if w.waiting ∧ w.at_ + 20000 ≤ s.now then
      s.onPwr (fun p => { p with wakes := put p.wakes k { w with waiting := false, attempt := w.attempt + 1, at_ := s.now } })
    else s

/-- Every domain and part that the stage does not shed wakes, in ascending order, and hart 0 then starts in the boot ROM (R453, R463). -/
def State.wakeAll (s : State) : State :=
  ((s.onPwr (fun p => { p with sleepAt := none, boot := true, queue := [] }))).queueWakes
    ((upFrom 1 15).filter (fun n => !unitShed s.stage n))

/-- PMIC_PG of a domain lost (R442): OFF at once, then WAKE_FAULT; with CLK every other domain goes too. -/
def State.pgLost (s : State) (n : Nat) : State :=
  let st := s.domain n
  let early : Bool := match look s.pwr.wakes n with
    | some w => w.step == 1
    | none => false
  if n = 0 ∨ st = 3 ∨ st = 6 ∨ early then s
  else
    let s1 := if n = 1 then ((upFrom 2 14).reverse).foldl (fun s m => s.unitOff m true) (s.onPwr (fun p => { p with queue := [] })) else s
    let s2 := if (look s1.pwr.wakes n).isSome then (s1.onPwr (fun p => { p with wakes := del p.wakes n })).setUnit n 3 else s1.unitOff n true
    s2.wakeFault n 1 1 1

/-- FAULT_CLEAR: WAKE_FAULT of the domains named and of their parts becomes OFF; for CLK its wake starts again (R450). -/
def State.opFaultClear (s : State) (val : Nat) : State :=
  let s1 := (List.range 16).foldl (fun s n =>
    if !bitAt val n then s
    else
      let s1 := if s.domain n = 6 then s.setUnit n 3 else s
      let s2 := (domainParts n).foldl (fun s q => if s.unitState (partKey n q) = 6 then s.setUnit (partKey n q) 3 else s) s1
      s2.wr O.FAULT_DOMAINS (clearBit (s2.rd O.FAULT_DOMAINS) n)) s
  if bitAt val 1 ∧ s.domain 1 = 6 then
    if s1.pwr.relock then s1.queueWakes [1] else s1.wakeAll
  else s1

/-! ## The supply stage (R455 to R460) -/

/-- The input of an ADC code in mV, trimmed (R455). -/
def State.sampleMv (s : State) (code : Nat) : Nat :=
  let g : Int := 10000 + s.rdI O.GAIN_TRIM 16
  (((code * 14400 : Nat) : Int) * g / (4096 * 10000)).toNat

/-- READ_VIN in mV: LINEAR11, a five-bit exponent and an eleven-bit mantissa, both signed, rounded down. -/
def linear11 (w : Nat) : Nat :=
  let y := toInt 11 (w % 2 ^ 11)
  let n := toInt 5 (bits w 11 5)
  if n < 0 then (y * 1000 / (2 ^ (-n).toNat : Nat)).toNat else (y * 1000 * (2 ^ n.toNat : Nat)).toNat

/-- The evaluated input: the mean of the last DEBOUNCE samples, lowered to a PMBus value younger than 5 ms (R456, R457). -/
def State.inputMv (s : State) : Nat :=
  let l := (s.pwr.samples.take (max 1 (s.rd O.DEBOUNCE))).map s.sampleMv
  let mean := if l.isEmpty then 0 else l.foldl (· + ·) 0 / l.length
  match s.pwr.pmbus with
  | some (mv, at_) =>
    if s.flag O.PMBUS_ENABLE ∧ s.now < at_ + 5 * msTk ∧ s.pwr.pmbusFails < 3 then min mean mv else mean
  | none => mean

/-- The deepest stage whose threshold an input is below. -/
def State.deepest (s : State) (v : Nat) : Nat :=
  (upFrom 1 5).foldl (fun d k => if v < s.rd (O.S1_MV + (k - 1)) then k else d) 0

/-- A stage's number in the history of the S5 journal, and its time in STAGE_TIME_S. -/
def State.stageTime (s : State) : State :=
  let i := if s.stage = 0 then 4 else s.stage - 1
  s.onPwr (fun p => { p with
    stageTk := if 5 ≤ s.stage then p.stageTk else p.stageTk.set i (p.stageTk.getD i 0 + (s.now - p.stageAt)), stageAt := s.now })

/-- The block is in SLEEP, in the hold of R463 or without CLK: a stage change is reported and has no other effect. -/
def State.aonOnly (s : State) : Bool := s.pwr.sleepAt.isSome || s.pwr.hold.isSome

/-- What is shed when the stage deepens to `new` (R458, Table 13.7). -/
def State.shedTo (s : State) (new : Nat) : State :=
  let s1 := (s.onPwr (fun p => { p with queue := p.queue.filter (fun k => !unitShed new k) })).testCancel 2 (fun _ => true)
  let s2 := (allUnits.filter (unitShed new)).foldl (fun s k => s.unitOff k false) s1
  let s3 := (s2.onLay (fun l => { l with skipStage := max l.skipStage new })).condBegin 2 new
  let s4 := if 3 ≤ new then s3.abandonMigrations 0x459 else s3
  (if 4 ≤ new then s4.abandonMigrations 0x458 else s4).stageMigrations new

/-- A unit that the stage sheds goes off at the S5 sequence, DRAM writes that are queued being lost (Table 13.9). -/
def State.s5Begin (s : State) (prev vin : Nat) : State :=
  let s1 := [0, 1].foldl State.writesLost ((s.otpCut.svcEnd.testCancel 2 (fun _ => true)).idleAll)
  (s1.shedTo 5).onPwr (fun p => { p with
    queue := []
    s5 := some { at_ := s.now, prev := prev, due := s.rd O.GASP_COUNT, sent := 0, good := 0, lastAt := 0, vin := vin,
                 journal := s.flag O.JOURNAL_ENABLE } })

/-- S5 in SLEEP: no sequence, its dying gasps not sent; the restart rule applies (R462). -/
def State.s5Asleep (s : State) : State :=
  (s.bumpBy O.GASPS_NOT_SENT (s.rd O.GASP_COUNT)).otpCut.svcEnd.onPwr (fun p => { p with
    sleepAt := none, hold := some { afterS5 := true, since := none } })

/-- A new stage is reported: STAGE_NOW, STAGE_EVENTS, STAGE_ENTRIES, the time in the stage before, the history of the S5 journal. -/
def State.stageReport (s : State) (new vin : Nat) : State :=
  let old := s.stage
  let s1 := ((s.stageTime).wr O.STAGE_NOW new).raiseEv O.STAGE_EVENTS (if old < new then 0 else 1)
  let s2 := if new = 0 then s1 else s1.bumpAt O.STAGE_ENTRIES (new - 1)
  (s2.event 23).onPwr (fun p => { p with
    rise := 0, history := pushRing 16 p.history { time := time80 s.netNow, stage := new, vin := vin } })

/-- A stage decided at a SLOW edge takes effect (R457 to R460): what it sheds goes off, what it no longer sheds wakes. In SLEEP, in the
hold of R463 and after the S5 sequence began a change has no other effect than its report, but for S5 in SLEEP. -/
def State.setStage (s : State) (new vin : Nat) : State :=
  let old := s.stage
  let s1 := s.stageReport new vin
  if s.pwr.hold.isSome ∨ s.pwr.s5.isSome then s1
  else if s.pwr.sleepAt.isSome then
    if new = 5 then s1.s5Asleep else if new < old then s1.onPwr (fun p => { p with shallower := true }) else s1
  else if new = 5 then s1.s5Begin old vin
  else if old < new then State.queueGo 64 (s1.shedTo new)
  else s1.queueWakes (allUnits.filter (fun k => decide (unitShedAt k ≤ old ∧ new < unitShedAt k)))

/-- The hold of R463 follows the input: since when it has been at or above RESTART_MV, 11.0 V at power-on and after RESET_N. -/
def State.holdTrack (s : State) (v : Nat) : State :=
  match s.pwr.hold with
  | none => s
  | some h =>
    let floor := if h.afterS5 then s.rd O.RESTART_MV else 11000
    s.onPwr (fun p => { p with hold := some { h with since := if v < floor then none else some (h.since.getD s.now) } })

/-- The stage is evaluated at a SLOW edge (R457). -/
def State.supplyEval (s : State) (code : Nat) : State :=
  let s1 := s.onPwr (fun p => { p with samples := (code :: p.samples).take 64 })
  let v := s1.inputMv
  let s2 := ((s1.wr O.VIN_MV v).wr O.VIN_MIN_MV (min v (s1.rd O.VIN_MIN_MV))).holdTrack v
  let stage := s2.stage
  let force := s2.rd O.STAGE_FORCE
  let deep := max (s2.deepest v) force
  if stage < deep then s2.setStage deep v
  else if 1 ≤ stage ∧ stage ≤ 4 ∧ force < stage ∧ s2.rd (O.S1_MV + (stage - 1)) + s2.rd O.HYST_MV ≤ v then
    let n := s2.pwr.rise + 1
    if s2.rd O.RISE_HOLD_MS * 100000 ≤ n * 3125 then s2.setStage (stage - 1) v
    else s2.onPwr (fun p => { p with rise := n })
  else s2.onPwr (fun p => { p with rise := 0 })

/-- A PMBus read of the input ends (R456). -/
def State.pmbusRead (s : State) (vin : Option Nat) : State :=
  match vin with
  | some w => s.onPwr (fun p => { p with pmbus := some (linear11 w, s.now), pmbusFails := 0 })
  | none => ((s.bump O.PMBUS_ERRORS).raiseEv O.STAGE_EVENTS 3).onPwr (fun p => { p with pmbusFails := p.pmbusFails + 1 })

/-! ## SLEEP (R452, R453) and loss of root PLL lock (R438) -/

/-- SLEEP is entered: both channels to self-refresh, domains 15 to 2 and CLK to OFF. -/
def State.sleepEnter (s : State) : State :=
  let s1 := s.onPwr (fun p => { p with queue := [] })
  let s2 := [0, 1].foldl (fun s c => s.channelOff c false) s1
  let s3 := ((upFrom 1 15).reverse).foldl (fun s n => s.unitOff n false) s2
  s3.onPwr (fun p => { p with sleepAt := some s.now, shallower := false, boot := false })

/-- A write of SLEEP_REQ: refused under SLEEP_LAY while a compiled lay runs, which CLK's entry of REFUSALS counts (DEDUCED, notes/assumptions/37.md). -/
def State.opSleep (s : State) (val : Nat) : State :=
  if val = 0 ∨ s.pwr.sleepAt.isSome ∨ s.pwr.hold.isSome ∨ s.pwr.s5.isSome then s
  else if s.rd O.RUNNING_SECTION ≠ 5 then s.refuse 1 0xE 3 false
  else s.sleepEnter

/-- SLEEP is left, where CLK can wake (R450, R453). -/
def State.sleepLeave (s : State) : State := if s.pwr.sleepAt.isSome ∧ s.domain 1 = 3 then s.wakeAll else s

/-- The root PLL has lost lock: every domain but AON is OFF at once, and CLK wakes (R438). -/
def State.rootUnlock (s : State) : State :=
  let s1 := (((s.raiseEv O.POWER_FAULT 1).bump O.ROOT_UNLOCKS).faultN 1).onPwr (fun p => { p with queue := [] })
  let s2 := ((upFrom 1 15).reverse).foldl (fun s n => s.unitOff n true) s1
  (s2.onPwr (fun p => { p with relock := true, boot := false, queue := [] })).queueWakes [1]

/-! ## The S5 sequence (R462, R464) -/

/-- A dying gasp starts on port 0, or is judged not sent as the port is not UP. -/
def State.gasp (s : State) : State :=
  match s.pwr.s5 with
  | none => s
  | some x =>
    if x.due ≤ x.sent ∨ (s.port 0).tx.isSome ∨ (0 < x.sent ∧ s.now < x.lastAt + msTk) then s
    else
      let up := s.isUp 0
      let s1 := s.onPwr (fun p => { p with s5 := some { x with sent := x.sent + 1, good := x.good + (if up then 1 else 0), lastAt := s.now } })
      if up then (s1.bump O.GASPS_SENT).oamSend 0 true else s1.bump O.GASPS_NOT_SENT

/-- The flash offset of a record of the journal's ring of 32. -/
def State.journalSlot (s : State) (k : Nat) : Nat := s.rd O.JOURNAL_BASE + 4096 * (k % 32)

/-- The offset of the record after the one at an offset. -/
def State.journalAfter (s : State) (a : Nat) : Nat := s.journalSlot ((a - s.rd O.JOURNAL_BASE) / 4096 + 1)

/-- The newest valid record of the flash ring: its offset, sequence number and content. -/
def State.journalNewest (s : State) : Option (Nat × Nat × Nat) :=
  (s.pwr.flash.filter (fun e => (List.range 32).any (fun k => e.1 == s.journalSlot k))).foldl (fun (b : Option (Nat × Nat × Nat)) (e : Nat × Nat × Nat) => match b with
    | none => some e
    | some x => if x.2.1 < e.2.1 then some e else b) none

/-- One entry of HISTORY. -/
def StageChange.word (c : StageChange) : Nat := c.time + c.stage * 2 ^ 80 + c.vin * 2 ^ 96

/-- The S5 journal record (Table 13.10). -/
def State.journalRecord (s : State) (x : S5Seq) (seq : Nat) : Nat :=
  let f := fun (v o : Nat) => v * 2 ^ (8 * o)
  let up := (x.at_ - s.resetAt) / 200
  let head := 0x4A524E31 + f (seq % 2 ^ 32) 4 + f (time80 (s.netAt x.at_)) 8 + f up 24 + f x.vin 32 + f (s.rd O.VIN_MIN_MV) 34 +
    f x.prev 36 + f x.good 37 + f (s.rd O.RUNNING_BUILD_ID) 40 + f (s.rd O.RUNNING_CRC) 48 + f (s.rd O.DEGRADED) 52 +
    f (s.rd O.FAULT_RECORD) 56 + f (s.rd O.FAULT_DOMAINS) 72 + f s.faultNActive 74
  let hist := (s.pwr.history.foldl (fun (a : Nat × Nat) c => (a.1 + f c.word a.2, a.2 + 16)) (0, 80)).1
  let body := head + hist + f (2 ^ (8 * 3756) - 1) 336
  body + f (crc32c ((octets body 4092).map (fun b => b.toNat))) 4092

/-- The journal record is in the flash, in the ring's next record; over one not erased it leaves no valid record. -/
def State.journalWritten (s : State) : State :=
  match s.pwr.s5 with
  | none => s
  | some x =>
    if !x.journal then s
    else
      let (slot, seq) := match s.journalNewest with
        | some e => (s.journalAfter e.1, e.2.1 + 1)
        | none => (s.journalSlot 0, 1)
      let rest := s.pwr.flash.filter (fun e => e.1 != slot)
      let new := if rest.length = s.pwr.flash.length then rest ++ [(slot, seq, s.journalRecord x seq)] else rest
      (s.onPwr (fun p => { p with flash := new, s5 := some { x with journal := false } })).raiseEv O.STAGE_EVENTS 2

/-- The S5 sequence ends: ETH, LAY and CLK off, AON alone holds (Table 13.9, R463); gasps not started are not sent. -/
def State.s5End (s : State) : State :=
  match s.pwr.s5 with
  | none => s
  | some x =>
    if s.now < x.at_ + 10 * msTk ∧ (x.journal ∨ x.sent < x.due) then s
    else
      let s1 := ((s.unitOff 11 false).unitOff 8 false).unitOff 1 false
      (s1.bumpBy O.GASPS_NOT_SENT (x.due - x.sent)).onPwr (fun p => { p with
        s5 := none, queue := [], boot := false, hold := some { afterS5 := true, since := none } })

end Sys2Proof.Machine
end

