-- ==== Sys2Proof/Machine/LayOps.lean ====
section
/-!
DEFINITION. The banks of lay memory (03, §5), verification (§6), the slot boundary with swaps, stage sections and DEGRADED (§5, §8),
and what a boundary means to the rest of the block.
-/
namespace Sys2Proof.Machine

/-! ## Verification -/

/-- The channel of the last HOP of a transceiver at a tick of a section's slotframe, which repeats. -/
def hoppedTo (ws : List Nat) (sec x tick : Nat) : Option Nat :=
  let hops := (changesOf ws sec (4 * x)).filter (fun e => eAction e.2.w != 0)
  (((hops.filter (fun e => decide (e.1 ≤ tick))).getLast?).orElse (fun _ => hops.getLast?)).map (fun e => bits e.2.w 0 10)

/-- The TX cells of a section of one slotframe: tick, cell handle, and the channel hopped to. -/
def txCellTicks (ws : List Nat) (sec : Nat) : List (Nat × Nat × Option Nat) :=
  (List.range 3).flatMap (fun x => ((changesOf ws sec (4 * x + 1)).filter (fun e =>
    eKind e.2.w == 1 && eAction e.2.w == 1)).map (fun e => (e.1, bits e.2.w 0 16, hoppedTo ws sec x e.1)))

/-- The retries of a sensor's link outlast its higher timeout in a section (R123, R271): its DOWNLINK cells, the CSL cells on its channel for a
CSL sensor, and every SHARED_DOWN cell, whose timeout is the shortest LIFETIME, for a TSCH sensor. -/
def State.linkLate (s : State) (ws : List Nat) (cells : List (Nat × Nat × Option Nat)) (i e : Nat) : Bool :=
  let ty := fun (h : Nat) => ceType (s.cell h)
  let shared := fun (h : Nat) => ty h == 4 && !seCsl e
  let mine := fun (c : Nat × Nat × Option Nat) => (ty c.2.1 == 2 && ceSensor (s.cell c.2.1) == i) ||
    (ty c.2.1 == 6 && seCsl e && c.2.2 == some (seField e 40 2))
  let ts := sortNub ((cells.filter (fun c => mine c || shared c.2.1)).map (fun c => c.1))
  let life := if cells.any (fun c => shared c.2.1) then (List.range 4).foldl (fun m c => min m (s.lifetime c)) (s.lifetime 0)
    else s.lifetime (seClass e)
  decide (life < (s.rd O.MAX_RETRIES + 1) * longestGap (imgSlotTk ws * imgFrameLen ws) (ts.headD 0) ts)

/-- The signature of an image verifies with a public key (R99): r and s big-endian in the signature block, over the octets of the CRC with the
CRC at its stored value; the key is X then Y, big-endian. -/
def sigVerifies (key : Nat) (ws : List Nat) : Bool :=
  let block := ((List.range 8).flatMap (fun k => wordOctets (imgWord ws (imgSigOffset ws + k)))).map (BitVec.ofNat 8)
  let k := octets key 64
  let digest := sha256 ((coveredOctets ws (imgCrc ws)).map (BitVec.ofNat 8))
  ecdsaVerify (beField k 0 32) (beField k 32 32) (beField digest 0 32) (beField block 0 32) (beField block 32 32)

/-- What the loader asks of the block for an image. -/
def State.loadEnv (s : State) (ws : List Nat) (written : Nat) : LoadEnv :=
  let late := (sectionsOf ws).any (fun n =>
    let cells := txCellTicks ws n
    s.mac.sensors.any (fun e => seValid e.2 && s.linkLate ws cells e.1 e.2))
  { contract := s.rd O.CONTRACT_VERSION, compat := s.rd O.COMPAT_LEVEL, written := written, requireSig := s.flag O.REQUIRE_SIG,
    sigOk := s.rd O.SIG_PUBKEY != 0 && sigVerifies (s.rd O.SIG_PUBKEY) ws,
    cell := fun h => (ceType (s.cell h), ceTemplate (s.cell h)), template := s.template, masked := s.regMasked,
    subBand := fun x c => s.subBand x (s.chanFreq x c), duty := s.dutyOf, fitted := s.rankTrfc, refreshRate := s.rd O.REFRESH_RATE,
    available := s.available, calValid := fun x path c => s.calValid x c path, retryLate := late,
    runSensors := hitchSensorsOf s.runWords, runPly := s.runHitches.any (fun i => i.ply),
    plySlots := ((List.range 16).filter (fun k => bits (s.rd O.PLY_LINKS) (128 * k) 8 != 0)).map (fun k =>
      bits (s.rd O.PLY_KEY_SLOTS) (32 * k) 20) }

/-- The standby image's words as verification reads them: as many as IMAGE_WORDS says, zero beyond those written. -/
def State.standby (s : State) : Bank := s.bank s.lay.standby

/-- The standby bank's state (`3000.02` [15:12]). -/
def State.layState (s : State) : Nat := s.stOf O.LAY_STATUS

/-- The standby bank's state set. -/
def State.setLayState (s : State) (v : Nat) : State := s.setSt O.LAY_STATUS 12 4 v

/-- A rejection (R120). -/
def State.layReject (s : State) (r : Reject) : State :=
  ((((((s.setLayState 4).wr O.REJECT_REASON r.code).wr O.REJECT_WORD r.word).wr O.REJECT_ITEM (r.item % 2 ^ 16)).wr
    O.REJECT_DETAIL r.detail).bump O.REJECTS).raiseEv O.LAY_STATUS 1

/-- Domains that an image needs and that no stage in force sheds are woken before the checks (R447). -/
def State.verifyDomains (s : State) (ws : List Nat) : List Nat :=
  sortNub (((sectionsOf ws).flatMap (fun n => ((strandsOf ws n).filter (fun st => !st.body.isEmpty)).filterMap (fun st =>
    domainOf st.id))).filter (fun n => !unitShed s.stage n))

/-- A standby image is written (R114, R119): into the bank that is standby now; after a STOP it is discarded at the boundary (R115). -/
def State.opStandbyImage (s : State) (len val : Nat) : Except Abort State :=
  if 1048576 < len then .error .tooLong
  else if len % 8 ≠ 0 then .error .lengthMismatch
  else
    let s1 := s.setBank s.lay.standby { words := toWords len val, written := len / 8 }
    if s.lay.stopPending then .ok s1
    else .ok (((s1.onLay (fun l => { l with verifyAt := none })).setLayState 1).pinsNow)

/-- VERIFY. -/
def State.layVerify (s : State) : State :=
  let ws := s.standby.words
  let need := s.verifyDomains ws
  let s1 := (s.setLayState 2).onLay (fun l => { l with verifyAt := some s.now })
  ((s1.onPwr (fun p => { p with verifyWaits := need })).queueWakes (need.filter (fun n => !s.domainUp n))).pinsNow

/-- ARM: in a retired device refused (Table 15.4); the class needs are checked again. -/
def State.layArm (s : State) : Except Abort State :=
  let at_ := s.rd O.SWAP_ASN
  if s.lifecycle = 4 then .error .lifecycle
  else if s.layState ≠ 3 ∨ s.lay.stopPending ∨ (at_ ≠ 0 ∧ at_ ≤ s.lay.asn) then .error .valueRange
  else
    let ws := s.standby.words
    match checkShort (s.loadEnv ws s.standby.written) ws with
    | some r => .ok (s.layReject r).pinsNow
    | none =>
      let s1 := (s.setLayState 5).onLay (fun l => { l with armedAt := s.now })
      .ok (if s.bootLay then s1.testCancel 1 (fun t => t.request) else s1)

/-- A write of LAY_COMMAND (Table 3.7): a command that the standby bank's state does not list changes nothing. -/
def State.opLayCommand (s : State) (val : Nat) : Except Abort State :=
  let st := s.layState
  let stop := s.lay.stopPending
  match val with
  | 1 => if 1 ≤ st ∧ st ≤ 4 ∧ !stop then .ok s.layVerify else .error .valueRange
  | 2 => s.layArm
  | 3 => if st = 5 then .ok (s.setLayState 3) else .error .valueRange
  | 4 =>
    if stop then .error .valueRange
    else .ok (((s.setBank s.lay.standby { words := [], written := 0 }).onLay (fun l => { l with verifyAt := none })).setLayState 0).pinsNow
  | 5 =>
    if s.bootLay then .error .valueRange
    else .ok ((((s.setBank s.lay.standby { words := [], written := 0 }).onLay (fun l => { l with
      verifyAt := none, stopPending := true })).setLayState 0).pinsNow)
  | _ => .error .valueRange

/-- The domains that verification waits for are ON, or will not come (R447). -/
def State.verifyReady (s : State) : Bool := s.pwr.verifyWaits.all (fun n => s.domainUp n || s.domain n == 6 || unitShed s.stage n)

/-- Verification ends (R116, R120, R123, R141, R142). -/
def State.verifyEnd (s : State) : State :=
  let b := s.standby
  let env := s.loadEnv b.words b.written
  let s1 := (s.onLay (fun l => { l with verifyAt := none })).onPwr (fun p => { p with verifyWaits := [] })
  match loadCheck env b.words with
  | some r => s1.layReject r
  | none => (((s1.setLayState 3).wr O.WARNINGS (warningsOf env b.words)).pinsMissing b.words).pinsNow

/-- HITCH_CLEAR. -/
def State.opHitchClear (s : State) (val : Nat) : Except Abort State :=
  if val = 0xFFFF then .ok (s.onLay (fun l => { l with hitches := [] }))
  else if val ≤ 1023 then .ok (s.onLay (fun l => { l with hitches := del l.hitches val }))
  else .error .valueRange

/-! ## Stage sections and DEGRADED (§8) -/

/-- The section that the stage calls for, and whether it is a DEGRADED one (R128, R129). -/
def State.wantSection (s : State) (ws : List Nat) : Nat × Bool :=
  let d := min 4 s.stage
  if s.sectionFits ws d then (d, false)
  else match (upFrom (max 1 d) (5 - max 1 d)).find? (s.sectionFits ws) with
    | some n => (n, true)
    | none => (4, true)

/-- Every domain that a section uses is ON, with the parts that a stage switches (R128). -/
def State.sectionPowered (s : State) (n : Nat) : Bool :=
  (strandsOf s.runWords n).all (fun st => st.body.isEmpty ||
    ((domainOf st.id).any s.domainUp && (shedAt st.id == 5 || s.idPowered st.id)))

/-- The conditions STAGE and DEGRADED of Table 1.9 as the section that runs leaves them. -/
def State.sectionConds (s : State) : State :=
  let deg := s.flag O.DEGRADED
  let n := if deg then s.stage else s.runSec
  let short := if deg then (classesOf s.runWords).filter (fun c =>
    decide (s.availableIn s.runWords s.stage c < needOf s.runWords s.stage c)) else []
  let s1 := s.onLay (fun l => { l with conds := l.conds.map (fun c =>
    if ((c.cause == 2 && decide (n < c.scope)) || (c.cause == 7 && !short.contains c.scope)) && c.stop.isNone then
      { c with stop := some s.now } else c) })
  let s2 := if 1 ≤ n then s1.condBegin 2 n else s1
  short.foldl (fun s c => s.condBegin 7 c) s2

/-- The section that runs from now, DEGRADED or not; its events and journal entry. -/
def State.setSection (s : State) (n : Nat) (deg swap : Bool) : State :=
  let was := s.flag O.DEGRADED
  let s1 := s.wr O.RUNNING_SECTION n
  let s2 := if !swap ∧ n ≠ s.runSec then (s1.bump O.STAGE_SWAPS).raiseEv O.LAY_STATUS 2 |>.event 2 else s1
  let s3 :=
    if deg = was then s2
    else
      let s4 := (s2.wr O.DEGRADED (if deg then 1 else 0)).raiseEv O.LAY_STATUS 3
      let s5 := if deg then (s4.bump O.DEGRADED_ENTRIES).event 3 else s4
      let cls := if deg then (s5.shortClass s5.runWords (min 4 s5.stage)).getD 0 else 0
      s5.journal s5.lay.asn 0x11 0 cls noId noId noId 0 0 n
  s3.sectionConds

/-- The section at a boundary without a swap: a shallower one only once what it uses is ON (R128). -/
def State.sectionStep (s : State) : State :=
  let (n, deg) := s.wantSection s.runWords
  if n < s.runSec ∧ !s.sectionPowered n then s.sectionConds
  else s.setSection n deg false

/-! ## Swaps (R117, R118, R132, R159) -/

/-- Forbids lifted on the highest-numbered forbidden members of a class until its needs fit in every section. -/
def State.liftForbids (cls : Nat) : Nat → State → State
  | 0, s => s
  | f + 1, s =>
    let ws := s.runWords
    let ms := membersOf ws cls
    let short := (sectionsOf ws).any (fun n =>
      decide ((ms.filter (fun m => s.available n m && !s.forbidden m)).length < needOf ws n cls))
    match if short then (ms.filter s.forbidden).getLast? else none with
    | none => s
    | some m => State.liftForbids cls f
        (((s.wr O.FORBID (clearBit (s.rd O.FORBID) (memberBit m))).journal s.lay.asn 0x12 0 cls noId noId m 0 0 0).bump O.FORBIDS_LIFTED)

/-- The hitches of the lay before a swap that the new image holds with the same binding (R132). -/
def State.keptHitches (s : State) (ws : List Nat) : List HitchInfo :=
  let held := if s.bootLay then s.lay.stopped.map (fun x => x.1) else s.runHitches
  held.filter (fun i => (allHitches ws).any (fun j => j.num == i.num && i.same j))

/-- The condition NO_HITCH at a swap to an image: met again by hitches it holds, met no more by those it lacks (Table 1.9). -/
def State.hitchConds (s : State) (held kept new : List HitchInfo) : State :=
  let s1 := new.foldl (fun s j =>
    if kept.any (fun i => i.num == j.num) ∨ s.lay.conds.any (fun c => c.cause == 1 && c.scope == j.num && c.stop.isNone) then
      s.condEnd 1 j.num
    else s.onLay (fun l => { l with conds := l.conds ++ [{ cause := 1, scope := j.num, start := 0, stop := some s.now }] })) s
  (held.filter (fun i => !new.any (fun j => j.num == i.num))).foldl (fun s i => s.condBegin 1 i.num) s1

/-- Frames in flight of hitches that a swap does not keep belong to no hitch from now: their records are zeroed with their counts (R34, R132). -/
def State.hitchForget (s : State) (kept : List HitchInfo) : State :=
  let f := fun (h : Option Nat) => h.filter (fun n => kept.any (fun i => i.num == n))
  let frame := fun (x : EthFrame) => { x with hitch := f x.hitch }
  let dg := fun (d : Datagram) => { d with hitch := f d.hitch }
  ((s.onEth (fun e => { e with
    parse := e.parse.map frame
    ports := e.ports.map (fun p => (p.1, { p.2 with queues := p.2.queues.map (fun q => (q.1, q.2.map frame)) })) })).onMac (fun m => { m with
    down := m.down.map dg
    ply := m.ply.map (fun q => (q.1, { q.2 with queue := q.2.queue.map dg, burst := q.2.burst.map dg }))
    plyUp := m.plyUp.map (fun x => { x with hitch := f x.hitch }) })).onLay (fun l => { l with
    hitches := l.hitches.filter (fun e => kept.any (fun i => i.num == e.1))
    ends := l.ends.filter (fun e => kept.any (fun i => i.num == e.key.num))
    stopped := [] })

/-- The armed bank swaps in. -/
def State.swapNow (s : State) : State :=
  let boot := s.bootLay
  let nb := s.lay.standby
  let was := s.slotTk
  let kept := s.keptHitches (s.bank nb).words
  let held := s.runHitches
  let s1 := s.testCancel 1 (fun _ => true)
  let s2 := (s1.wr O.RUNNING_BANK nb).onLay (fun l => { l with standby := 1 - nb })
  let s3 := if boot then (s2.setBank (1 - nb) { words := [], written := 0 }).setLayState 0 else s2.setLayState 3
  let ws := s3.runWords
  let s4 := ((((s3.bump O.SWAPS).raiseEv O.LAY_STATUS 0).event 0).wr O.RUNNING_BUILD_ID (imgBuildId ws)).wr O.RUNNING_CRC (imgCrc ws)
  let s5 := (s4.hitchForget kept).hitchConds held kept (allHitches ws)
  let s6 := (s5.condInstant 5).onPlc (fun p => { p with ref := [] })
  let (n, deg) := s6.wantSection ws
  let s7 := (s6.setSection n deg true).renameC0
  let s8 := (classesOf ws).foldl (fun s c => State.liftForbids c 1024 s) s7
  if was = s8.slotTk then s8 else s8.anchorMove

/-- An armed bank swaps at this boundary (R117). -/
def State.swapDue (s : State) : Bool :=
  s.layState == 5 &&
  (if s.rd O.SWAP_ASN = 0 then decide (s.lay.armedAt + 20000 ≤ s.lay.slotAt) else decide (s.rd O.SWAP_ASN ≤ s.lay.asn))

/-! ## States carried across a boundary (R102, R117, R135) -/

/-- The state other than idle that a strand carries into the current slot position; none where an entry at its first tick ends it. -/
def State.carriedIn (s : State) (st : Strand) : Option LEntry :=
  if ((st.inSlot s.slotPos).head?).any (fun e => eTick e.w == 0) then none
  else (st.carried s.frameLen s.slotPos s.frameLen).filter (fun e => eAction e.w != 0)

/-- A carried state taken up by the member that serves its ID. -/
def State.takeUp (s : State) (st : Strand) (e : LEntry) : State :=
  match (s.memberOf e.id).filter (fun m => !s.retired m && !s.entShed m e) with
  | none => s
  | some m =>
    let closes := match (st.inSlot s.slotPos).head? with
      | some x => s.lay.slotAt + eTick x.w
      | none => s.nextChange st 0
    (s.onLay (fun l => { l with res := put l.res e.id (resState e s.now) })).entDo m e closes []

/-- A member whose ID another one serves from this boundary returns to idle; a frame the rake gave to the lane of a bight stays on it to its
end (R138). -/
def State.unmapRes (s : State) (m : Nat) (r : ResState) : State :=
  match s.lane (m - 0x100) with
  | some x => if poolOf m = 1 ∧ r.kind = 8 ∧ x.rx.isSome then s.setRun (m - 0x100) { x with stays := true } else s.idleRes m r .window
  | none => s.idleRes m r .window

/-- The resources whose state or member is not that of the section that runs now: the old state left, the new one taken up. `old` is
the mapping of the slot before; `full` at a change of the lay or of its section. -/
def State.carryOver (s : State) (old : List (Nat × Nat)) (full : Bool) (why : RxLoss) : State :=
  let was := fun (id : Nat) => if poolOf id = 0 then some id else look old id
  let held := (s.lay.res.filter (fun e => e.2.action != 0)).map (fun e => e.1)
  let ids := if full then sortNub (held ++ (strandsOf s.runWords s.runSec).map (fun st => st.id)) else sortNub held
  let want := fun (s : State) (id : Nat) => ((strandOf s.runWords s.runSec id).bind (fun st => (s.carriedIn st).map (fun e => (st, e))))
  let moved := ids.filter (fun id =>
    was id != s.memberOf id ||
    (full && (match s.resOf id, want s id with
      | some r, some (_, e) => !r.holds e
      | none, none => false
      | _, _ => true)))
  let s1 := moved.foldl (fun s id => match s.resOf id with
    | none => s
    | some r =>
      let s1 := s.onLay (fun l => { l with res := del l.res id })
      match was id with
      | some m => if why = .window then s1.unmapRes m r else s1.idleRes m r why
      | none => s1) s
  moved.foldl (fun s id => match want s id with
    | some (st, e) => s.takeUp st e
    | none => s) s1

/-! ## The slot boundary -/

/-- The ASN of the slot that begins: the next one, that of the grid where a realignment ended the slot before (R359, R360), or the parent's
that a relay child adopts (R286, R361). -/
def State.asnStep (s : State) : State :=
  let top := 2 ^ 40
  let next := if s.lay.slotEnd.isSome then s.gridAsn s.nextSlotAt else (s.lay.asn + 1) % top
  let (n, s1) : Nat × State := match s.mac.adopt with
    | none => (next, s)
    | some (v, a) =>
      let n := (v + (next + top - a)) % top
      (n, if n = next then s
        else (s.wr O.ANCHOR_ASN ((s.rd O.ANCHOR_ASN + (n + top - next)) % top)).bump O.ASN_STEPS)
  let at_ := s.nextSlotAt
  (s1.onMac (fun m => { m with
    adopt := none, ebMissed := [], acks := []
    ackGone := m.ackGone.filter (fun g => s1.inBack g.1 g.2) })).onLay (fun l => { l with
    asn := n, slotAt := at_, slotEnd := none, presented := [], skipStage := 0 })

/-- The lay of the slot that begins: the boot lay at a STOP, an armed bank, or the section that the stage calls for; the mapping and the
states carried in. -/
def State.layStep (s : State) : State :=
  if s.lay.stopPending then
    let s1 := s.bootLayNow
    if s1.lifecycle = 4 then s1.zeroize else s1
  else
    let swap := s.swapDue
    if s.bootLay && !swap then s.thermalBoundary
    else
      let old := s.plc.map
      let sec := s.runSec
      let s1 := if swap then s.swapNow else s.sectionStep
      let s2 := s1.thermalBoundary
      let full : Bool := swap || s2.runSec != sec
      let s3 := (s2.splice swap).carryOver old full (if swap then .swap else .window)
      let s4 := s3.testPrepare
      if swap then s4.pinsNow else s4

/-- SLOT_BOUNDARY: the slot that runs ends, the next begins (R95, R117, R124, R128, R135, R286, R362, R471). -/
def State.slotBoundary (s : State) : State :=
  let s1 := (s.slotJudge.relayBoundary).asnStep
  let every := s1.rd O.SNAP_EVERY_SLOTS
  let s2 := if every ≠ 0 ∧ s1.lay.asn % every = 0 then s1.snapshot 2 else s1
  let s3 := s2.layStep
  let s4 := [0, 1, 2].foldl (fun s x => s.chanPlanApply x) s3
  let s5 := settle s4.placeStep.dlRenew
  ((s5.wr O.SLOT_POS s5.slotPos).slotRef).event 3

/-! ## The rows of the table -/

/-- SLOT_BOUNDARY: while domain LAY is ON and no S5 sequence has stopped the lay, once the slot is over. -/
def execSlotBoundary (t : Tick) (s : State) : Host.Outcome State Fault Refusal :=
  let s1 := s.tickTo t
  .next (if s1.domainUp 8 ∧ s1.pwr.s5.isNone ∧ s1.nextSlotAt ≤ s1.now then s1.slotBoundary else s1)

/-- VERIFY_DONE. -/
def execVerifyDone (t : Tick) (s : State) : Host.Outcome State Fault Refusal :=
  let s1 := s.tickTo t
  .next (if s1.lay.verifyAt.isSome ∧ s1.verifyReady then s1.verifyEnd else s1)

end Sys2Proof.Machine
end

