-- ==== Sys2Proof/Machine/PlcCmd.lean ====
section
/-!
DEFINITION. Placement's commands (04): RETIRED_CLEAR, WHY_QUERY, the checks and the boundary of group 0x3102 (R157, R158), and the
triggers that come on their own: temperature, flow load, demotion, migrations, pans powered down.
-/
namespace Sys2Proof.Machine

/-! ## RETIRED_CLEAR (R146) -/

/-- A retired member or pan put on probation; a pan so cleared is SUSPECT until a test passes (DEDUCED, notes/assumptions/19.md). -/
def State.retiredClear (s : State) (n : Nat) : State :=
  if n < 816 then
    if bitAt (s.rd O.RETIRED) n then
      (s.wr O.RETIRED (clearBit (s.rd O.RETIRED) n)).onPlc (fun p => { p with probation := p.probation ++ [bitMember n] })
    else s
  else if s.pan (n - 0x400) = 5 then s.setPan (n - 0x400) 4 else s

/-- A write of RETIRED_CLEAR. -/
def State.opRetiredClear (s : State) (val : Nat) : Except Abort State :=
  if val < 816 ∨ (0x400 ≤ val ∧ val ≤ 0x40F) then .ok (s.retiredClear val)
  else if val = 0xFFFF then .ok ((List.range 816 ++ upFrom 0x400 16).foldl State.retiredClear s)
  else .error .valueRange

/-! ## The journal asked (R155, R156) -/

/-- A journal entry as Table 4.2 lays it out. -/
def JEntry.word (e : JEntry) : Nat :=
  e.seq % 2 ^ 32 + e.asn % 2 ^ 40 * 2 ^ 32 + e.cause % 2 ^ 8 * 2 ^ 72 + e.action % 2 ^ 8 * 2 ^ 80 + e.cls % 2 ^ 12 * 2 ^ 88 +
  e.logical % 2 ^ 12 * 2 ^ 100 + e.old % 2 ^ 12 * 2 ^ 112 + e.new % 2 ^ 12 * 2 ^ 124 + e.obj % 2 ^ 24 * 2 ^ 136 +
  e.objKind % 2 ^ 4 * 2 ^ 160 + e.detail % 2 ^ 8 * 2 ^ 164 + e.uptimeUs % 2 ^ 64 * 2 ^ 192

/-- The numbers of a kind of WHY_QUERY end here; `none` where the kind is none. -/
def whyRange (kind obj : Nat) : Bool :=
  match kind with
  | 1 => poolOf obj != 0
  | 2 => decide (obj < 262144)
  | 3 => decide (obj < 65536)
  | 4 => decide (obj < 16)
  | 5 => decide (obj < 256)
  | 6 => poolOf obj != 0
  | _ => false

/-- A journal entry names an object of WHY_QUERY. -/
def JEntry.names (e : JEntry) (kind obj : Nat) : Bool :=
  match kind with
  | 1 => e.logical == obj || e.old == obj || e.new == obj
  | 6 => e.logical == obj || e.old == obj || e.new == obj
  | 2 => e.objKind == 1 && e.obj == obj
  | 3 => e.objKind == 2 && e.obj == obj
  | 4 => (e.objKind == 4 && e.obj == obj) || e.old == panLoc obj || e.new == panLoc obj
  | _ => e.objKind == 3 && e.obj == obj

/-- Where an object is now, 0xFFFF nowhere. A flow is at its home hart (DEDUCED, notes/assumptions/19.md), a queue where its buffers lie. -/
def State.whereIs (s : State) (kind obj : Nat) : Nat :=
  match kind with
  | 1 => (if s.bootLay then none else s.memberOf obj).getD 0xFFFF
  | 6 => (s.logicalOf obj).getD 0xFFFF
  | 2 => (s.locOf 1 obj).getD 0xFFFF
  | 3 => 0x420 + (s.flow obj).home
  | 4 => panLoc obj
  | _ => (s.locOf 3 obj).getD 0xFFFF

/-- A number within the range of its kind names a present object: a sensor is present while it has an entry. -/
def State.objPresent (s : State) (kind obj : Nat) : Bool := kind != 2 || (s.locOf 1 obj).isSome

/-- A write of WHY_QUERY (R156). -/
def State.opWhyQuery (s : State) (r : Req) (val : Nat) : Except Abort State :=
  let kind := bits val 28 4
  let obj := bits val 0 24
  if !whyRange kind obj then .error .valueRange
  else
    let found := match s.plc.journal.reverse.find? (fun e => e.names kind obj && s.objPresent kind obj) with
      | some e => e.word
      | none => 0
    .ok ((s.wrReq r O.WHY_RESULT found).wrReq r O.WHERE (s.whereIs kind obj))

/-! ## Group 0x3102 (R157, R158) -/

/-- FORBID_SHORT: some image held needs more than the members that would be left. -/
def State.forbidShort (s : State) (forbid : Nat) : Bool :=
  s.heldImages.any (fun ws => (sectionsOf ws).any (fun n => (classesOf ws).any (fun c =>
    decide (((membersOf ws c).filter (fun m => s.available n m && !bitAt forbid (memberBit m))).length < needOf ws n c))))

/-- Octets that must stay HOT (R140): the entries of hitch sensors, the frames of class-C0 queues, and the journal. -/
def State.hotNeed (s : State) : Nat :=
  64 * (sortNub (s.heldImages.flatMap hitchSensorsOf)).length + 32 * 4096 +
  s.eth.ports.foldl (fun n p => n + ((p.2.queues.flatMap (fun q => q.2)).filter (fun f => f.cls == 0)).foldl
    (fun k f => k + f.data.length) 0) 0

/-- PAN_CAPACITY: the pans left to placement cannot hold that. -/
def State.panShort (s : State) (reserve : Nat) : Bool :=
  let left := ((List.range 16).filter (fun p => !bitAt reserve p && s.pan p != 5 && s.pan p != 4)).length
  decide (0x400000 * (if s.panTests then left - 1 else left) < s.hotNeed)

/-- The reason code of Table 4.4 for the values a commit of group 0x3102 would make active; 0 where none applies. -/
def State.forbidCheck (s : State) (forbid reserve high low : Nat) : Nat :=
  if s.forbidShort forbid then 0x40
  else if s.panShort reserve then 0x41
  else if toInt 16 high ≤ toInt 16 low then 0x42
  else 0

/-- Pans newly reserved by a mask. -/
def State.newPans (s : State) (reserve : Nat) : List Nat :=
  (List.range 16).filter (fun p => bitAt reserve p && !s.flag O.PAN_RESERVE p)

/-- A pending commit's pans and members are empty of data and work (R158). -/
def State.forbidClear (s : State) (reserve : Nat) : Bool :=
  (s.newPans reserve).all (fun p => (s.objsAt (panLoc p)).isEmpty) &&
  s.plc.leaving.all (fun m =>
    if m < 0x400 then (match s.lane (m - 0x100) with
      | some x => x.rx.isNone
      | none => true)
    else if m < 0x420 then s.engine (m - 0x400) != 2
    else (s.held (m - 0x420)).isEmpty && s.readyCount (m - 0x420) == 0)

/-- A commit of group 0x3102 is pending: what it forbids or reserves is emptied; with nothing to empty the lead counts from now. -/
def State.forbidPend (s : State) (forbid reserve : Nat) : State :=
  let ms := ((List.range 816).filter (fun b => bitAt forbid b && !bitAt (s.rd O.FORBID) b)).map bitMember
  let s1 := s.onPlc (fun p => { p with leaving := ms, emptiedAt := none })
  let s2 := s1.flowsOut ((ms.filter (fun m => decide (0x420 ≤ m))).map (fun m => m - 0x420)) 0x0E 0
  let s3 := (s2.newPans reserve).foldl (fun s p => if s.pan p = 1 then s.evacuate p 3 0x0F 0 else s) s2
  if s3.forbidClear reserve then s3.onPlc (fun p => { p with emptiedAt := some s3.now }) else s3

/-- The group has applied: reserved pans are firmware's, others are placement's again. -/
def State.forbidApplied (s : State) (was : Nat) : State :=
  (List.range 16).foldl (fun s p =>
    let now := s.flag O.PAN_RESERVE p
    let st := s.pan p
    if now && !bitAt was p then
      let s1 := s.onPlc (fun q => { q with evac := del q.evac p })
      let s2 := if st = 1 ∨ st = 3 ∨ st = 0 then s1.setPan p 2 else s1
      if s2.oct O.PAN_POWER p = 0 ∧ s2.domainUp 15 ∧ st ≠ 5 then s2.panInit p else s2
    else if !now && bitAt was p && st = 2 then
      let s1 := (s.setPan p 1).onPlc (fun q => { q with panEmptyAt := put q.panEmptyAt p s.now })
      if s1.oct O.PAN_POWER p = 3 then s1.wrOct O.PAN_POWER p 2 else s1
    else s) (s.onPlc (fun p => { p with leaving := [], emptiedAt := none }))

/-- The group was refused at its boundary: pans emptied for it are in service again. -/
def State.forbidRefused (s : State) (reserve : Nat) : State :=
  (s.newPans reserve).foldl (fun s p =>
    if s.pan p = 3 then (s.setPan p 1).onPlc (fun q => { q with evac := del q.evac p }) else s)
    (s.onPlc (fun p => { p with leaving := [], emptiedAt := none }))

/-- FORBID_EMPTIED: what the pending group waits for is empty. -/
def execForbidEmptied (t : Tick) (s : State) : Host.Outcome State Fault Refusal :=
  let s1 := s.tickTo t
  let reserve := (look s1.shadow O.PAN_RESERVE).getD (s1.rd O.PAN_RESERVE)
  let pending : Bool := match look s1.groups 0x3102 with
    | some g => g.pendingAt.isSome
    | none => false
  .next (if pending && s1.plc.emptiedAt.isNone && s1.forbidClear reserve then
      s1.onPlc (fun p => { p with emptiedAt := some s1.now })
    else s1)

/-! ## Triggers of Table 4.1 -/

/-- THERMAL_TRIGGER: a region's sensor reads a temperature; above THERMAL_HIGH_C or below THERMAL_LOW_C a decision is made (R143, R144). -/
def execThermalTrigger (t : Tick) (region : Fin 5) (temp : Int) (s : State) : Host.Outcome State Fault Refusal :=
  let s1 := s.tickTo t
  let r := region.val
  let s2 := s1.onPlc (fun p => { p with regionTemp := put p.regionTemp r ((temp + 64) % 256).toNat })
  let others := s2.plc.decisions.filter (fun d => !(d.cause == 9 && d.subject == r))
  let decide_ := fun (on : Bool) => s2.onPlc (fun p => { p with
    decisions := others ++ [{ cause := 9, subject := r, on := on, madeAt := s2.now }] })
  let waits := fun (on : Bool) => s2.plc.decisions.any (fun d => d.cause == 9 && d.subject == r && d.on == on)
  let hot := s2.plc.hotRegions.contains r
  .next (if !s2.triggerOn 0 then s2
    else if s2.rdI O.THERMAL_HIGH_C 16 < temp then
      (if waits true then s2 else if hot then s2.onPlc (fun p => { p with decisions := others }) else decide_ true)
    else if temp < s2.rdI O.THERMAL_LOW_C 16 then
      (if waits false then s2 else if hot then decide_ false else s2.onPlc (fun p => { p with decisions := others }))
    else s2)

/-- Harts that share the load, with their BUSY_PPM of the last 100 ms. -/
def State.loads (s : State) : List (Nat × Nat) :=
  ((List.range 16).filter (fun h => s.hartUp h && !s.memberBarred (0x420 + h))).map (fun h => (bits (s.hart h).load 0 32, h))

/-- The most and the least loaded hart, the lowest-numbered of equals. -/
def mostLeast (l : List (Nat × Nat)) : Option ((Nat × Nat) × (Nat × Nat)) :=
  match l with
  | [] => none
  | x :: r => some (r.foldl (fun b y => if b.1 < y.1 then y else b) x, r.foldl (fun b y => if y.1 < b.1 then y else b) x)

/-- One flow home moves from the most to the least loaded hart; which of its flows is open (R143, order 9). -/
def State.loadMove (s : State) : State :=
  match mostLeast s.loads with
  | none => s
  | some (hi, lo) =>
    if hi.1 - lo.1 ≤ 10000 * s.rd O.LOAD_SPREAD_PCT then s
    else
      let cands := (s.cores.flows.filter (fun e =>
        e.2.home == hi.2 && !flowPin e.2.entry && bitAt (flowMask e.2.entry) lo.2)).map (fun e => e.1)
      if cands.isEmpty then s
      else
        let (v, s1) := s.free
        s1.homeMove (cands.getD (v % cands.length) 0) lo.2 0x0B 0

/-- FLOW_LOAD_TICK: every 100 ms. -/
def execFlowLoadTick (t : Tick) (s : State) : Host.Outcome State Fault Refusal :=
  let s1 := s.tickTo t
  .next (if s1.plc.loadAt + 100 * msTk ≤ s1.now then
      let s2 := s1.onPlc (fun p => { p with loadAt := s1.now })
      if s2.triggerOn 3 then s2.loadMove else s2
    else s1)

/-- The tick of a sensor's last frame, or of the placing of its entry where it has sent none. -/
def State.lastFrame (s : State) (i : Nat) : Nat :=
  max (((lookD s.mac.heard i []).getLast?).getD 0) (lookD s.plc.placed (objKey 1 i) 0)

/-- TIER_DEMOTE: a sensor without a frame for DEMOTE_IDLE_S goes one tier down, out of HOT only from a pan that is nearly full (R151; the
pan's condition cannot be asked of an entry in WARM: DEDUCED, notes/assumptions/19.md). -/
def execTierDemote (t : Tick) (sensor : Fin 262144) (s : State) : Host.Outcome State Fault Refusal :=
  let s1 := s.tickTo t
  let i := sensor.val
  .next (match s1.locOf 1 i with
    | none => s1
    | some loc =>
      let tier := tierOfLoc loc
      if s1.triggerOn 4 ∧ s1.forcedTier i = 0 ∧ !s1.hitchSensors.contains i ∧ tier < 3 ∧
          (tier = 2 ∨ s1.panFree (loc - 0x440) < 0x100000) ∧ !s1.hotFits ∧ s1.lastFrame i + s1.rd O.DEMOTE_IDLE_S * secTk ≤ s1.now ∧
          s1.dwellPast (objKey 1 i) ∧ s1.placeOpen loc ∧ s1.placeOpen (0x457 + tier) then
        s1.migrateTo (objKey 1 i) (tier + 1) 0x0D 0
      else s1)

/-! ## Migrations (R152) and pans (R154) -/

/-- MIGRATION_COPY_DONE. -/
def execMigrationCopyDone (t : Tick) (kind obj : Nat) (s : State) : Host.Outcome State Fault Refusal :=
  .next ((s.tickTo t).migrationCopied kind obj)

/-- A hitch's sensor is at rest at this slot boundary: no cell of its hitch is open, no frame of the hitch on its way (R152). -/
def State.hitchRest (s : State) (i : Nat) : Bool :=
  let hs := (s.runHitches.filter (fun x => x.sensor == i)).map (fun x => x.num)
  let mine := fun (h : Option Nat) => h.any hs.contains
  s.now == s.lay.slotAt && !s.rx.lanes.any (fun e => mine e.2.hitch) && !s.rx.back.any (fun e => mine e.2.hitch) &&
  !s.mac.down.any (fun d => mine d.hitch) && !s.eth.parse.any (fun f => mine f.hitch) &&
  !s.eth.ports.any (fun p => p.2.queues.any (fun q => q.2.any (fun f => mine f.hitch)) ||
    (match p.2.tx with
     | some x => mine x.frame.hitch
     | none => false))

/-- No frame or job of an object is in progress: of a sensor, an item of a flow, a frame of a queue. -/
def State.objRest (s : State) (m : Migration) : Bool :=
  match m.kind with
  | 1 => !s.sensorBusy m.obj && (!s.hitchSensors.contains m.obj || s.hitchRest m.obj)
  | 2 => !s.flowServed m.obj
  | _ => match (s.port (m.obj / 64)).tx with
    | some x => x.frame.queue != m.obj % 64
    | none => true

/-- MIGRATION_SWITCH of a copied object at rest. -/
def execMigrationSwitch (t : Tick) (kind obj : Nat) (s : State) : Host.Outcome State Fault Refusal :=
  let s1 := s.tickTo t
  .next (match s1.plc.migrations.find? (fun m => m.kind == kind && m.obj == obj) with
    | some m => if m.copied && s1.objRest m then s1.migrationSwitched m else s1
    | none => s1)

/-- PAN_IDLE_POWER_DOWN: a pan empty and unreserved for 60 s goes OFF, but for the one that pan tests need (R148, R154); the cause its
journal entry names is open. -/
def execPanIdlePowerDown (t : Tick) (pan : Fin 16) (s : State) : Host.Outcome State Fault Refusal :=
  let s1 := s.tickTo t
  let p := pan.val
  let empty := fun (q : Nat) => s1.pan q == 1 && (s1.objsAt (panLoc q)).isEmpty
  let kept := if s1.panTests then ((List.range 16).filter empty).getLast? else none
  .next (if empty p && !s1.flag O.PAN_RESERVE p && s1.oct O.PAN_POWER p == 2 && kept != some p &&
      decide (lookD s1.plc.panEmptyAt p 0 + 60 * secTk ≤ s1.now) then
    let (v, s2) := s1.free
    ((s2.panOff p).setPan p 0).journal s2.lay.asn (v % 256) 5 0 noId (panLoc p) noId p 4 0
  else s1)

end Sys2Proof.Machine
end

