-- ==== Sys2Proof/Machine/ResetOps.lean ====
section
/-!
DEFINITION. Resets (R438, R463, R508, R513): what survives RESET_N, what a power-on keeps, the hold's end and the wake that follows it.
-/
namespace Sys2Proof.Machine

/-- Objects that survive RESET_N: the calibration tables (R165), SVC_DENIALS (R80) and the restarts after S5 (Table 13.14). -/
def keptObjects : List Nat :=
  [O.CAL_TABLE 0, O.CAL_TABLE 1, O.CAL_TABLE 2, O.SVC_DENIALS, O.SUP_RESTARTS]

/-- Every domain but AON is OFF at once and DRAM is lost (R438, R513). -/
def State.allOff (s : State) : State :=
  ((upFrom 1 15).reverse).foldl (fun s n => s.unitOff n true) (s.onPwr (fun p => { p with queue := [], boot := false, relock := false }))

/-- The state as the release of RESET_N leaves it, with what the manual names as surviving and the cause in RESET_CAUSE. -/
def State.resetDevice (s : State) (cause : Nat) : State :=
  let s0 := s.otpCut
  let radio : Radio := { Radio.reset with
    trxs := s0.radio.trxs.map (fun e => (e.1, { Trx.reset with corr := e.2.corr }))
    dutySec := s0.radio.dutySec, dutyAt := s0.radio.dutyAt, duty := s0.radio.duty }
  let svc := s0.jot.svc
  let jot : Jot := { Jot.reset with
    busOff := s0.jot.busOff, heartbeatAt := s0.now
    svc := { Jot.reset.svc with denials := svc.denials, lockUntil := svc.lockUntil, lockLen := svc.lockLen } }
  let tim : Tim := { Tim.reset with base := s0.tim.base, coarse := s0.tim.coarse }
  let pwr : Power := { Power.reset with flash := s0.pwr.flash, xtalFail := s0.pwr.xtalFail, stageAt := s0.now }
  let s1 : State := { State.reset with
    pending := s0.pending, now := s0.now, resetAt := s0.now, out := s0.out, freeCtr := s0.freeCtr
    objs := s0.objs.filter (fun e => keptObjects.contains e.1)
    jot := jot, radio := radio, tim := tim, pwr := pwr, otp := s0.otp
    pins := { s0.pins with low := none } }
  let s2 := if s0.pwr.xtalFail then (s1.wr O.XTAL_OK 0).raiseEv O.POWER_FAULT 2 else s1
  ((s2.otpBoot).raiseEv O.RESET_CAUSE cause).edgeNow

/-- A reset as RESET_N would make, from a running device. -/
def State.fullReset (s : State) (cause : Nat) : State := (s.allOff.coarseStart).resetDevice cause

/-- RESET_N has been low for a time in ns (R513): at least 1 µs resets and holds everything off until the release; shorter pulses are
ignored, or between 100 ns and 1 µs either ignored or a whole reset, which the manual leaves open. -/
def State.resetLow (s : State) (ns : Nat) : State :=
  if s.pins.low.isSome ∨ ns < 100 then s
  else if 1000 ≤ ns then
    let s1 := ((s.otpCut.svcEnd.allOff).coarseStart).onPwr (fun p => { p with
      s5 := none, sleepAt := none, hold := some { afterS5 := false, since := none } })
    { s1 with pins := { s1.pins with low := some s1.now } }
  else
    let (v, s1) := s.free
    if v % 2 = 0 then s1 else s1.fullReset 1

/-- RESET_N is released. -/
def State.resetRelease (s : State) : State := if s.pins.low.isSome then s.resetDevice 1 else s

/-- VDD_AON is applied: everything but OTP and the flash is as new, the straps have their levels, the oscillator starts (R508, R512). -/
def State.powerOn (s : State) (xtal qspi testEn : Bool) : State :=
  let s0 := s.otpCut
  let s1 : State := { State.reset with
    pending := s0.pending, now := s0.now, resetAt := s0.now, objs := [], out := s0.out, freeCtr := s0.freeCtr
    otp := s0.otp
    pwr := { Power.reset with flash := s0.pwr.flash, stageAt := s0.now }
    jot := { Jot.reset with heartbeatAt := s0.now }
    pins := { powered := true, xtal := xtal, qspi := qspi, testEn := testEn, low := none, mgmtUp := false, starting := some s0.now } }
  (s1.otpBoot.raiseEv O.RESET_CAUSE 0).edgeNow

/-- VDD_AON is removed: everything but OTP and the flash is lost; nothing answers until it is applied again. -/
def State.powerLost (s : State) : State :=
  let s0 := s.otpCut
  { State.reset with
    pending := s0.pending, now := s0.now, resetAt := s0.now, objs := [], out := s0.out, freeCtr := s0.freeCtr
    otp := s0.otp
    pwr := { Power.reset with flash := s0.pwr.flash }
    pins := { s0.pins with powered := false, low := none, mgmtUp := false, starting := none } }

/-- The oscillator has not reported a stable amplitude after two retries: AON alone goes on, on the RC oscillator (R437). -/
def State.xtalFailed (s : State) : State :=
  match s.pins.starting with
  | none => s
  | some t =>
    if s.now < t + 3040000 then s
    else
      let s1 := { s with pins := { s.pins with starting := none } }
      ((s1.raiseEv O.POWER_FAULT 2).wr O.XTAL_OK 0).onPwr (fun p => { p with xtalFail := true })

/-- RESTART_MV has been met for RESTART_S, or 10 s at power-on and after RESET_N (R463). -/
def State.holdOver (s : State) : Bool :=
  match s.pwr.hold with
  | none => false
  | some h => match h.since with
    | none => false
    | some t => decide (t + (if h.afterS5 then s.rd O.RESTART_S else 10) * secTk ≤ s.now) && s.pins.low.isNone && !s.pwr.xtalFail

/-- The hold ends: after S5 with a reset; the stage is the deepest of the input, and what it does not shed wakes (R463). With TEST_EN high
no image boots (R508). -/
def State.holdEnd (s : State) : State :=
  match s.pwr.hold with
  | none => s
  | some h =>
    if !s.holdOver then s
    else
      let v := s.rd O.VIN_MV
      let s1 := if h.afterS5 then
          let n := s.rd O.SUP_RESTARTS
          let t := s.coarseStart.resetDevice 3
          t.wr O.SUP_RESTARTS ((n + 1) % 2 ^ 32)
        else s
      let stage := max (s1.deepest v) (s1.rd O.STAGE_FORCE)
      let s2 := (s1.wr O.VIN_MV v).onPwr (fun p => { p with hold := none })
      let s3 := { (if s2.stage = stage then s2 else s2.stageReport stage v) with
        pins := { s2.pins with starting := none } }
      let s4 := s3.wakeAll
      if s4.pins.testEn then s4.onPwr (fun p => { p with boot := false }) else s4

/-- CLK is up again after a loss of lock: the device resets (R438). -/
def State.relockDone (s : State) : State :=
  if s.pwr.relock ∧ s.domain 1 = 0 then s.fullReset 4 else s

end Sys2Proof.Machine
end

