-- ==== Sys2Proof/Machine/Views.lean ====
section
/-!
DEFINITION. What an object reads as: the value it holds, or for the objects that show a block's own tables, rings and figures the
octets the owning chapter lays out. A reading is a length in octets and a little-endian number.
-/
namespace Sys2Proof.Machine

/-- Elements of `w` octets one after another, the first lowest. -/
def packed (w : Nat) (l : List Nat) : Nat := l.foldr (fun x v => x % 2 ^ (8 * w) + v * 2 ^ (8 * w)) 0

/-- A reading of elements of `w` octets. -/
def listed (w : Nat) (l : List Nat) : Nat × Nat := (w * l.length, packed w l)

/-- An access-fault entry as FAULT_LOG shows it (Table 2.13). -/
def FaultEntry.word (e : FaultEntry) : Nat :=
  e.code % 2 ^ 32 + e.address % 2 ^ 40 * 2 ^ 32 + e.transport % 16 * 2 ^ 72 + e.access % 16 * 2 ^ 76 + e.source % 256 * 2 ^ 80 +
    e.uptimeUs * 2 ^ 88

/-- A memory error entry (Table 12.1). -/
def MemErr.word (e : MemErr) : Nat :=
  e.addr % 2 ^ 40 + e.memory * 2 ^ 40 + e.kind * 2 ^ 44 + e.rank * 2 ^ 47 + e.symbol * 2 ^ 48 + e.source * 2 ^ 56 + e.uptimeUs * 2 ^ 64

/-- A hitch's record (Table 3.11). -/
def HitchRec.word (r : HitchRec) (i : HitchInfo) : Nat :=
  r.frames % 2 ^ 64 + packed 4 r.susp * 2 ^ 64 + r.paused % 2 ^ 64 * 2 ^ 352 + r.lost % 2 ^ 32 * 2 ^ 416 + r.maxTk % 2 ^ 32 * 2 ^ 448 +
    r.excess % 2 ^ 32 * 2 ^ 480 + i.num * 2 ^ 512 + (if i.down then 1 else 0) * 2 ^ 528 + r.dropped % 2 ^ 32 * 2 ^ 544

/-- The SLOW edge at which the slow copies were last refreshed (R60). -/
def State.edge (s : State) : Nat := s.now / slowTk * slowTk

/-- STAGE_TIME_S as of the last SLOW edge: S1 to S4 and stage 0. -/
def State.stageTimes (s : State) : List Nat :=
  (List.range 5).map (fun i =>
    let cur : Bool := if s.stage = 0 then i == 4 else i + 1 == s.stage && i != 4
    (s.pwr.stageTk.getD i 0 + (if cur then s.edge - s.pwr.stageAt else 0)) / secTk)

/-- NEED_TABLE: per class and section of the running image. -/
def State.needTable (s : State) : List Nat :=
  let ws := s.runWords
  (classesOf ws).flatMap (fun c => (sectionsOf ws).map (fun n =>
    c + n * 2 ^ 16 + s.availableIn ws n c * 2 ^ 32 + needOf ws n c * 2 ^ 48))

/-- MAP_TABLE: member of each ID of the pools in the current slot; empty under the boot lay, which maps none. -/
def State.mapTable (s : State) : List Nat :=
  if s.bootLay then []
  else (upFrom 0x100 816).map (fun id => id + (look s.plc.map id).getD 0xFFFF * 2 ^ 16)

/-- The ply links in use, in the order of PLY_LINKS: LINK_ID and SEGMENTS. -/
def State.usedLinks (s : State) : List (Nat × Nat) :=
  ((List.range 16).map (fun k => let e := bits (s.rd O.PLY_LINKS) (128 * k) 128; (octet e 0, lkSegs e))).filter (fun x => x.1 != 0)

/-- A loading table as it reads: the robust one where none is held. -/
def State.tableOf (x : Nat × Nat) (t : Option Nat) : Nat := t.getD (robustTable x.1 x.2)

/-- RULE_TABLE: VALID and RULE_DATA of every rule. -/
def State.ruleTable (s : State) : Nat :=
  s.eth.rules.foldl (fun v e => v + ((if e.2.valid then 1 else 0) + e.2.data * 256) * 2 ^ (776 * e.1)) 0

/-- Milliseconds to the watchdog's expiry. -/
def State.wdtRemain (s : State) : Nat := if s.rd O.WDT_PERIOD_MS = 0 then 0 else (s.cores.wdtAt + s.wdtTk - s.now) / msTk

/-- TEST_PROGRAMS: Table 14.4 in machine form. -/
def testProgramsWord : Nat × Nat :=
  listed 12 (testProgs.map (fun p =>
    p.test + p.coverage * 2 ^ 16 + p.duration * 2 ^ 32 + p.overhead * 2 ^ 64 + p.back / 10 * 2 ^ 80))

/-- The reading of an object that shows what a block holds; none for an object that holds its value itself. -/
def State.viewAon (s : State) (k : Nat) : Option (Nat × Nat) :=
  if k = O.UPTIME_MS then some (8, (s.edge - s.resetAt) / msTk)
  else if k = O.SVC_LOCK_S then some (2, match s.jot.svc.lockUntil with
    | some u => ceilDiv (u - s.edge) secTk
    | none => 0)
  else if k = O.FAULT_LOG then some (listed 16 (s.jot.faults.map FaultEntry.word))
  else if k = O.STAGE_TIME_S then some (20, packed 4 s.stageTimes)
  else if k = O.REGION_PROFILE then some (1556, profileRead ((s.otpNewest 2).getD builtinProfile))
  else if k = O.JOURNAL_LAST then some (match s.journalNewest with
    | some e => (4096, e.2.2)
    | none => (0, 0))
  else none

/-- Views of the lay, placement, the radios and the receive path. -/
def State.viewLay (s : State) (k : Nat) : Option (Nat × Nat) :=
  if k = O.STANDBY_IMAGE then some (8 * s.standby.words.length, ofWords s.standby.words)
  else if k = O.RUNNING_IMAGE then some (8 * s.runWords.length, ofWords s.runWords)
  else if k = O.NEED_TABLE then some (listed 8 s.needTable)
  else if k = O.HITCH_RECORDS then
    some (listed 72 (s.runHitches.map (fun i => (lookD s.lay.hitches i.num HitchRec.zero).word i)))
  else if k = O.MAP_TABLE then some (listed 4 s.mapTable)
  else if k = O.JOURNAL then some (listed 32 (s.plc.journal.map JEntry.word))
  else none

/-- Views of the radios. -/
def State.viewRadio (s : State) (k : Nat) : Option (Nat × Nat) :=
  match [0, 1, 2].find? (fun x => k == O.CAL_AGE_S x) with
  | some x => some (4, match (s.trx x).rxIqAt with
    | some t => (s.now - t) / secTk
    | none => 0)
  | none =>
    if k = O.PROFILE then some (1556, s.regRead)
    else if k = O.PROFILE_ID then some (4, s.regProfile % 2 ^ 32)
    else if k = O.DUTY_USED then some (192, s.dutyUsed)
    else if k = O.TX_LIMIT_A_QDBM then some (2, ofInt 16 (s.txLimit 0))
    else if k = O.TX_LIMIT_B_QDBM then some (2, ofInt 16 (s.txLimit 1))
    else if k = O.TX_LIMIT_C_QDBM then some (2, ofInt 16 (s.txLimit 2))
    else if k = O.QUALITY_RING then some (listed 32 s.rx.quality)
    else if k = O.LINK_STATUS then some (512, packed 32 ((List.range 16).map s.linkStatus))
    else if k = O.TX_LOADING then some (listed 1672 (s.usedLinks.map (fun x => State.tableOf x (s.plyLink x.1).tx)))
    else if k = O.RX_LOADING then
      some (listed 1672 (s.usedLinks.flatMap (fun x =>
        [State.tableOf x (s.plyLink x.1).confirmed, State.tableOf x (s.plyLink x.1).newest])))
    else if k = O.LAST_SOUND_SNR then some (listed 3328 (s.usedLinks.map (fun x => s.soundSnr x.1 x.2)))
    else none

/-- Views of the air MAC, the cipher bank and the key store. -/
def State.viewMac (s : State) (k : Nat) : Option (Nat × Nat) :=
  if k = O.COMPLETION_RING then some (listed 16 s.mac.ring)
  else if k = O.SENSOR_TABLE then
    some (2 ^ 24, s.mac.sensors.foldl (fun v e => v + s.sensorView e.1 * 2 ^ (512 * e.1)) 0)
  else if k = O.JOBS_WAITING then some (16, s.jobsWaiting)
  else if k = O.SUSPENDED then some (1, (s.cph.jobs.filter (fun j => j.state == 3)).length)
  else if k = O.POISON_FREE then some (1, 64 - s.cph.poisoned.length)
  else if k = O.STORE_BASE then some (8, s.storeBase)
  else if k = O.CACHE_USED then some (2, s.cph.cache.length)
  else if k = O.CACHE_PINNED then some (2, s.cachePinned)
  else none

/-- Views of the router and of network time. -/
def State.viewEth (s : State) (k : Nat) : Option (Nat × Nat) :=
  if k = O.RULE_TABLE then some (794624, s.ruleTable)
  else match (List.range 4).find? (fun p => k == O.QUEUE_DEPTH p || k == O.SHAPER_TOKENS p) with
  | some p =>
    if k = O.QUEUE_DEPTH p then
      some (512, packed 4 ((List.range 64).flatMap (fun q => [s.qOctets p q, (s.qFrames p q).length])))
    else some (256, packed 4 ((List.range 64).map (fun q => satInt 32 (s.tokens p q / (tokenUnit : Int)))))
  | none =>
    if k = O.TIME_NOW then some (10, time80 s.netNow)
    else if k = O.LAY_NS32 then some (4, ns32 s.netNow)
    else if k = O.HOLDOVER_ERR_NS then some (4, s.holdErr)
    else none

/-- Views of the cores, the memories, the counters and self-test. -/
def State.viewCore (s : State) (k : Nat) : Option (Nat × Nat) :=
  if k = O.POOL_FREE then some (4, s.poolFree)
  else if k = O.HART_LOAD then some (256, s.hartLoad)
  else if k = O.CLASS_DEPTH then some (16, s.classDepth)
  else if k = O.READY_DEPTH then some (64, s.readyDepth)
  else if k = O.WDT_REMAIN_MS then some (4, s.wdtRemain)
  else if k = O.ERROR_LOG then some (listed 16 (s.mem.errors.map MemErr.word))
  else if k = O.EXPORT_RING then some (listed 544 s.ctr.ring)
  else if k = O.TEST_LOG then some (listed 32 s.ctr.log)
  else if k = O.LAST_TESTED then some (8960, s.ctr.last.foldl (fun v e => v + e.2 % 2 ^ 64 * 2 ^ (64 * e.1)) 0)
  else if k = O.TEST_PROGRAMS then some testProgramsWord
  else match [0, 1].find? (fun c => k == O.FITTED_BYTES c || k == O.TRAIN_TABLE c || k == O.EYE_WIDTH c) with
    | some c =>
      if k = O.FITTED_BYTES c then some (8, if s.chServes c ∨ s.chShed c then s.fittedCap c else 0)
      else if k = O.EYE_WIDTH c then some (576, s.eyeWidths c)
      else some (match (s.chan c).results with
        | [] => (0, 0)
        | l => (1536, Config.trainTable (l.map (fun e => (e.rate, e.rank, e.step, e.values)))))
    | none =>
      if k / 256 = 0xA002 ∧ 1 ≤ k % 256 ∧ k % 256 ≤ 64 then some (8, lookD s.ctr.counts (k % 256 - 1) 0)
      else none

/-- The reading of an object that shows what a block holds: by the chapter that owns its range (Table 0.4). -/
def State.view (s : State) (k : Nat) : Option (Nat × Nat) :=
  let g := k / 2 ^ 20
  if g < 3 then s.viewAon k
  else if g = 3 then s.viewLay k
  else if g < 6 then s.viewRadio k
  else if g = 6 then s.viewMac k
  else if g = 7 then s.viewEth k
  else s.viewCore k

end Sys2Proof.Machine
end

