-- ==== Sys2Proof/Machine/GroupChecks.lean ====
section
/-!
DEFINITION. The shadow groups (02, §3): the boundary of each, the consistency checks its owning chapter states, and what changes in the
block when it applies. A check judges the state as it would be with the group's shadow values active.
-/
namespace Sys2Proof.Machine

/-- Boundary of each shadow group: 0 IMMEDIATE, 1 SLOT, 2 FRAME, 3 IDLE; none for a record that is no group. -/
def groupBoundary (i : Nat) : Option Nat :=
  if [0x2201, 0x9100, 0x9200].contains i then some 0
  else if [0x3102, 0x5000, 0x5100, 0x5200, 0x6000, 0x6001, 0x6002, 0x6003, 0x6005, 0x6200, 0x7001, 0x7200, 0x7201, 0x7202, 0x7203,
    0x7801, 0x7802, 0x7810, 0x7811, 0x7812, 0x7813, 0xA001].contains i then some 1
  else if [0x7000, 0x7003, 0x7004].contains i then some 2
  else if [0x1101, 0x1102, 0x4001, 0x4101, 0x4201, 0x4002, 0x4102, 0x4202, 0x4006, 0x4106, 0x4206, 0x7100, 0x7101, 0x7102,
    0x7103].contains i then some 3
  else none

/-- The shadow value of an object: the active one where none was written (R50). -/
def State.shVal (s : State) (k : Nat) : Nat := (look s.shadow k).getD (s.rd k)

/-- The state with a group's shadow values active. -/
def State.withShadow (s : State) (i : Nat) : State :=
  { s with
    objs := (s.shadow.filter (fun e => e.1 / 256 == i)).foldl (fun o e => put o e.1 e.2) s.objs
    lens := (s.shadowLens.filter (fun e => e.1 / 256 == i)).foldl (fun o e => put o e.1 e.2) s.lens }

/-- The shadow of a group reloaded from the active values. -/
def State.dropShadow (s : State) (i : Nat) : State :=
  { s with
    shadow := s.shadow.filter (fun e => e.1 / 256 != i)
    shadowLens := s.shadowLens.filter (fun e => e.1 / 256 != i) }

/-- The first reason of a list whose condition holds, 0 where none does (R55). -/
def firstReason : List (Nat × Bool) → Nat
  | [] => 0
  | (c, b) :: r => if b then c else firstReason r

/-! ## Transports and supply -/

/-- BIT_TIME_RANGE (R64). -/
def State.bitTimeBad (c : State) : Bool :=
  let n := 1 + c.rd O.NOM_TSEG1 + c.rd O.NOM_TSEG2
  let d := 1 + c.rd O.DATA_TSEG1 + c.rd O.DATA_TSEG2
  decide (n < 8 ∨ 385 < n ∨ d < 5 ∨ 49 < d) || decide (c.rd O.NOM_BRP * n < c.rd O.DATA_BRP * d) ||
    decide (c.rd O.NOM_TSEG2 < c.rd O.NOM_SJW ∨ c.rd O.DATA_TSEG2 < c.rd O.DATA_SJW)

/-- An IPv4 mask is contiguous: its ones lead. -/
def maskGood (m : Nat) : Bool := (List.range 33).any (fun n => m == 2 ^ 32 - 2 ^ n)

/-- THRESHOLD_ORDER (R461). -/
def State.thresholdsOut (c : State) : Bool :=
  let h := c.rd O.HYST_MV
  let above := fun (a b : Nat) => decide (c.rd b + h < c.rd a)
  !(above O.S1_MV O.S2_MV && above O.S2_MV O.S3_MV && above O.S3_MV O.S4_MV && above O.S4_MV O.S5_MV && above O.RESTART_MV O.S5_MV)

/-- THRESHOLD_RANGE (R461). -/
def State.thresholdsFar (c : State) : Bool :=
  [O.S1_MV, O.S2_MV, O.S3_MV, O.S4_MV, O.S5_MV, O.RESTART_MV].any (fun k => decide (c.rd k < 8000 ∨ 14000 < c.rd k))

/-! ## Radios -/

/-- The DC gain of FIR set `n`, in units of 2⁻¹⁴ (R188). -/
def State.firGain (c : State) (x n : Nat) : Int :=
  let co := fun (k : Nat) => toInt 16 (bits (c.rd (O.FIR_COEF x)) (8 * (48 * n + 2 * k)) 16)
  co 23 + 2 * (List.range 23).foldl (fun a k => a + co k) 0

/-- Reason codes of group 0x4001 (Table 5.7). -/
def State.txGroup (c : State) (x : Nat) : Nat :=
  firstReason [(0x40, decide (c.txLimit x < c.rdI (O.TX_POWER_QDBM x) 16)),
    (0x41, decide (c.rd (O.TRSW_LAG_TK x) < c.rd (O.PA_LAG_TK x))),
    (0x42, (List.range 8).any (fun n => decide (c.firGain x n < 8192 ∨ 32768 < c.firGain x n))),
    (0x43, (List.range 64).any (fun k => decide (7 < c.oct (O.FIR_MAP x) k)))]

/-! ## Streams, profiles and ply links -/

/-- Half the nominal passband of a width in Hz (Table 6.1). -/
def halfBand (w : Nat) : Int := [100000, 200000, 400000, 600000, 2000000, 4000000, 20000000].getD w 0

/-- OFFSET_HZ of a stream entry. -/
def strOffset (e : Nat) : Int := toInt 32 (bits e 0 32)

/-- STREAM_SPAN. -/
def streamSpan (n e : Nat) : Bool :=
  let h := halfBand (strWidth e)
  let half : Int := (bandSpan (streamBand n) / 2 : Nat)
  decide (half < strOffset e + h ∨ strOffset e - h < -half)

/-- STREAM_DC_GUARD: the passband and the guard overlap. -/
def streamGuard (n e : Nat) : Bool :=
  let h := halfBand (strWidth e)
  let lo : Int := -(bandIf (streamBand n) : Nat)
  let g : Int := (bandGuard (streamBand n) : Nat)
  decide (strOffset e - h < lo + g ∧ lo - g < strOffset e + h)

/-- WIDTH_BAND: WIDTH 7, or a ply width on another band. -/
def streamWidth (n e : Nat) : Bool := strWidth e == 7 || (decide (4 ≤ strWidth e) && strWidth e != 4 + streamBand n)

/-- The entries of the enabled streams. -/
def State.enabledStreams (c : State) : List (Nat × Nat) :=
  ((List.range 512).map (fun n => (n, c.streamEntry n))).filter (fun x => strEnable x.2)

/-- PROFILE_WIDTH of an enabled stream. -/
def State.streamProfileWidth (c : State) (e : Nat) : Bool := widthMisfit (c.profile (strProfile e)) (strWidth e)

/-- PROFILE_UNUSED of an enabled stream. -/
def State.streamProfileUnused (c : State) (e : Nat) : Bool := prMode (c.profile (strProfile e)) == 0xF

/-- Reason codes of group 0x5000 (Table 6.3). -/
def State.streamGroup (c : State) : Nat :=
  let es := c.enabledStreams
  firstReason [(0x40, es.any (fun x => streamSpan x.1 x.2)), (0x41, es.any (fun x => streamGuard x.1 x.2)),
    (0x42, es.any (fun x => streamWidth x.1 x.2)), (0x43, es.any (fun x => c.streamProfileWidth x.2)),
    (0x44, es.any (fun x => c.streamProfileUnused x.2))]

/-- A field of a profile in use is invalid or out of range (PROFILE_FIELD). -/
def profileBad (p : Nat) : Bool :=
  let m := prMode p
  let rate := prRate p
  let mcsMin := bits p 13 3
  let mcsMax := bits p 16 3
  let common : Bool := decide (prMax p < 4) || prThresh p == 0 || bits p 64 8 == 0
  let fsk : Bool := decide (prPreamble p < 4 ∨ 1000 < prPreamble p) || decide (prSymbols p < 8) || bits p 10 2 == 3
  if m = 0xF then false
  else if m = 0 then common || fsk || decide (4 < rate) || decide (1 < bits p 8 2)
  else if m = 1 then common || fsk || !([1, 3, 4].contains rate) || bits p 8 2 != 0
  else if m = 2 then
    let low := [0, 0, 1, 2].getD (rate - 1) 0
    let high := if rate = 1 then 3 else 6
    common || rate == 0 || decide (4 < rate) || decide (mcsMax < mcsMin) || decide (mcsMin < low) || decide (high < mcsMax)
  else if m = 3 then common
  else true

/-- DETECT_TOO_LONG. -/
def detectLong (p : Nat) : Bool := decide (prMode p ≤ 1) && decide (4 * prPreamble p < prSymbols p * prBps p)

/-- Reason codes of group 0x5100 (Table 6.6). -/
def State.profileGroup (c : State) : Nat :=
  let ps := (List.range 64).map c.profile
  let es := c.enabledStreams
  firstReason [(0x40, ps.any profileBad), (0x41, ps.any detectLong), (0x43, es.any (fun x => c.streamProfileWidth x.2)),
    (0x44, es.any (fun x => c.streamProfileUnused x.2))]

/-- Entry `k` of PLY_LINKS. -/
def State.linkEntry (c : State) (k : Nat) : Nat := bits (c.rd O.PLY_LINKS) (128 * k) 128

/-- A used link entry has a field out of range (LINK_FIELD). -/
def linkBad (e : Nat) : Bool :=
  octet e 0 != 0 && (lkSegs e == 0 || decide (lkSound e < 4 ∨ 32 < lkSound e) || decide (lkLimit e < 1 ∨ 16 < lkLimit e))

/-- Reason codes of group 0x5200. -/
def State.linkGroup (c : State) : Nat :=
  let ids := ((List.range 16).map (fun k => octet (c.linkEntry k) 0)).filter (fun n => n != 0)
  firstReason [(0x40, ids.any (fun n => decide (1 < (ids.filter (fun m => m == n)).length))),
    (0x41, (List.range 16).any (fun k => linkBad (c.linkEntry k)))]

/-! ## The air MAC -/

/-- A template used by a cell of an image held would have an offset at or above its SLOT_TK (R252, R289). -/
def State.templatesLate (c : State) : Bool :=
  c.heldImages.any (fun ws => (sectionsOf ws).any (fun n => !(templateFails (c.loadEnv ws 0) ws n).isEmpty))

/-- HOP_CHANNEL: a HOP_SEQUENCE entry names a channel unused in every plan. -/
def State.hopUnused (c : State) : Bool :=
  (List.range (c.len O.HOP_SEQUENCE / 2)).any (fun k =>
    let ch := bits (c.rd O.HOP_SEQUENCE) (16 * k) 16
    decide (1024 ≤ ch) || [0, 1, 2].all (fun x => c.chanFreq x ch == 0))

/-- Reason codes of group 0x6002. -/
def State.templateGroup (c : State) : Nat :=
  firstReason [(0x40, (List.range 4).any (fun n => decide ((c.template n).2 ≤ (c.template n).1))), (0x41, c.templatesLate)]

/-- Reason codes of group 0x6003. -/
def State.cellGroup (c : State) : Nat :=
  let es := (List.range 65536).map c.cell
  firstReason [(0x40, es.any (fun e => decide (10 < ceType e))),
    (0x41, es.any (fun e => decide (8 ≤ ceType e ∧ ceType e ≤ 10) && (c.plyEntry (ceLink e)).isNone)), (0x42, c.templatesLate)]

/-- PARENT_LINK. -/
def State.parentLinkBad (c : State) : Bool :=
  (List.range 4).any (fun k => (c.parent k).2.1 != 0 && (c.plyEntry (c.parent k).2.1).isNone)

/-! ## The router, the ports and PTP -/

/-- PARSER_VALUE (Table 9.5). -/
def State.parserBad (c : State) : Bool :=
  let a := c.rd O.STAG_TPID
  let b := c.rd O.STAG_ALT_TPID
  let fixed := [0x8100, 0x0800, 0x86DD, 0x88F7, 0x8808]
  let used := fun (kind v : Nat) =>
    if kind = 1 then [0x8100, a, 0x0800, 0x86DD, 0x88F7].contains v || (b != 0 && v == b)
    else if kind = 2 then [c.rd O.VXLAN_PORT, 319, 320].contains v
    else [0, 17, 43, 44, 47, 60].contains v
  let nodes := ((List.range 8).map (fun k => ((c.opaqueNode k).2.1, (c.opaqueNode k).1))).filter (fun x => x.1 != 0)
  fixed.contains a || fixed.contains b || a == b || [319, 320].contains (c.rd O.VXLAN_PORT) ||
    nodes.any (fun x => used x.1 x.2 || decide (1 < (nodes.filter (fun y => y == x)).length))

/-- FILTER_C0: a filter in use steers to a C0 queue. -/
def State.filterC0 (c : State) (e : Nat) : Bool :=
  bits e 0 4 != 0 && bits e 68 2 == 1 && bits e 73 2 == 0 && qClass (c.qEntry (bits e 75 8 / 64) (bits e 75 8 % 64)) == 0

/-- Reason codes of group 0x7003. -/
def State.filterGroup (c : State) : Nat :=
  let es := (List.range 256).map (fun n => bits (c.rd O.FILTERS) (128 * n) 128)
  firstReason [(0x40, es.any c.filterC0), (0x41, es.any filterBad)]

/-- The uplink hitches of the images held that leave by a port, not by a ply link. -/
def State.portHitches (c : State) (p : Nat) : List HitchInfo :=
  c.heldImages.flatMap (fun ws => (allHitches ws).filter (fun i => i.port == p && !i.down && !plyEgress ws i))

/-- NEXT_HOP_REF of a valid entry. -/
def State.hopRefBad (c : State) (e : Nat) : Bool :=
  nhValid e && ((octet e 12 != 0xFF && (decide (64 ≤ octet e 12) || !tplGood (c.tpl (octet e 12)))) ||
    (octet e 13 != 0xFF && !nhValid (c.nhEntry (octet e 13))))

/-- Reason codes of group 0x7004 (Table 9.12). -/
def State.nextHopGroup (c : State) : Nat :=
  firstReason [(0x40, (List.range 256).any (fun n => c.hopRefBad (c.nhEntry n))),
    (0x41, (List.range 64).any (fun n => octet (c.tpl n) 0 != 0 && !tplGood (c.tpl n))),
    (0x42, (List.range 4).any (fun p => c.hitchHopBad p && !(c.portHitches p).isEmpty))]

/-- The rate that a hitch assumes, in Mb/s. -/
def hitchMbps (i : HitchInfo) : Nat := [25000, 10000, 2500, 1000].getD i.rate 0

/-- HITCH_RATE: the MAC rate of MODE is below the one a hitch on the port assumes. -/
def State.hitchRateLow (c : State) (p : Nat) : Bool :=
  c.heldImages.any (fun ws => (allHitches ws).any (fun i => i.port == p && !plyEgress ws i && decide (c.rate p < hitchMbps i)))

/-- Reason codes of groups 0x7100 to 0x7103: GRADE_LIMIT, RESOURCE_SHED and Table 9.2. -/
def State.portGroup (c : State) (p : Nat) : Nat :=
  let m := c.rd (O.MODE p)
  let f := c.rd (O.FEC p)
  firstReason [(0x02, c.rd O.GRADE == 2 && decide (2 ≤ p) && m == 1), (0x03, unitShed c.stage (partKey 11 p) && m != 0),
    (0x40, (f != 0 && m != 1) || f == 3), (0x41, c.hitchRateLow p)]

/-- Reason codes of groups 0x7200 to 0x7203 (Table 9.14). -/
def State.queueGroup (c : State) (p : Nat) : Nat :=
  let c0 := fun (p q : Nat) => qClass (c.qEntry p q) == 0
  let total := (List.range 4).foldl (fun n p => (List.range 64).foldl (fun n q => if c0 p q then n + qSize (c.qEntry p q) else n) n) 0
  firstReason [(0x40, (List.range 64).any (fun q => c0 p q && qCir (c.qEntry p q) != 0)),
    (0x41, (c.portHitches p).any (fun i => !c0 p i.queue || qSize (c.qEntry p i.queue) == 0)),
    (0x42, decide (16384 < total))]

/-- Reason codes of group 0x7801 (R376); `old` holds the values in force. -/
def State.timeGroup (c old : State) : Nat :=
  let o := (List.range 3).map (c.oct O.SOURCE_ORDER)
  let moved : Bool := c.rd O.ANCHOR_ASN != old.rd O.ANCHOR_ASN || c.rd O.ANCHOR_TIME != old.rd O.ANCHOR_TIME
  firstReason [
    (0x40, !(decide (c.rd O.LOCK_NS < c.rd O.UNLOCK_NS) && decide (c.rd O.UNLOCK_NS ≤ c.rd O.STEP_NS))),
    (0x41, moved && !c.bootLay),
    (0x42, o.any (fun k => decide (k < 1 ∨ 3 < k) || decide (1 < (o.filter (fun j => j == k)).length)))]

/-- Reason codes of group 0x7802. -/
def State.roleGroup (c : State) : Nat :=
  let n := ((List.range 4).filter (fun p => c.flag (O.ENABLE p))).length
  firstReason [(0x40, (c.rd O.CLOCK_ROLE == 1 && decide (1 < n)) || (c.rd O.CLOCK_ROLE == 2 && n == 0))]

/-- Reason codes of groups 0x7810 to 0x7813. -/
def State.ptpGroup (c : State) (p : Nat) : Nat :=
  let t := c.rd (O.TRANSPORT p)
  let q := c.qEntry p (c.rd (O.PTP_QUEUE p))
  firstReason [(0x40, c.flag (O.ONE_STEP p) && t == 2), (0x41, qClass q == 0 || qSize q == 0),
    (0x42, (t == 1 && c.rd (O.PTP_IPV4 p) == 0) || (t == 2 && c.rd (O.PTP_IPV6 p) == 0))]

/-! ## Every group -/

/-- The reason a commit of a group is refused with, 0 where none: `c` is the state with the shadow active, `s` the state as it is. -/
def State.groupReason (s c : State) (i : Nat) : Nat :=
  match i with
  | 0x1101 => firstReason [(0x40, c.bitTimeBad)]
  | 0x1102 => firstReason [(0x41, !maskGood (c.rd O.IPV4_MASK))]
  | 0x2201 => firstReason [(0x40, c.thresholdsOut), (0x41, c.thresholdsFar)]
  | 0x3102 => s.forbidCheck (c.rd O.FORBID) (c.rd O.PAN_RESERVE) (c.rd O.THERMAL_HIGH_C) (c.rd O.THERMAL_LOW_C)
  | 0x5000 => c.streamGroup
  | 0x5100 => c.profileGroup
  | 0x5200 => c.linkGroup
  | 0x6000 => firstReason [(0x40, decide (c.rd O.G_MAX_TK < c.rd O.G_MIN_TK)), (0x41, decide (c.rd O.MAX_BE < c.rd O.MIN_BE))]
  | 0x6001 => firstReason [(0x40, c.hopUnused)]
  | 0x6002 => c.templateGroup
  | 0x6003 => c.cellGroup
  | 0x6200 => firstReason [(0x40, c.parentLinkBad)]
  | 0x7000 => firstReason [(0x40, c.parserBad)]
  | 0x7001 => firstReason [(0x40, [1, 2, 3].any (fun k => c.classMap k 1 == c.classMap 0 1))]
  | 0x7003 => c.filterGroup
  | 0x7004 => c.nextHopGroup
  | 0x7801 => c.timeGroup s
  | 0x7802 => c.roleGroup
  | 0x9100 => (s.chanGroupCheck 0 c.rd (!s.storeSlots.isEmpty)).getD 0
  | 0x9200 => (s.chanGroupCheck 1 c.rd false).getD 0
  | 0xA001 => (s.selectCheck c.rd).getD 0
  | _ =>
    if i / 16 = 0x710 then c.portGroup (i % 16)
    else if i / 16 = 0x720 then c.queueGroup (i % 16)
    else if i / 16 = 0x781 then c.ptpGroup (i % 16)
    else if i % 256 = 1 then c.txGroup (i / 256 - 0x40)
    else if i % 256 = 6 then
      let x := i / 256 - 0x40
      firstReason [(0x40, !(decide (c.rd (O.RL_INHIBIT x) < c.rd (O.RL_BACKOFF x)) && decide (c.rd (O.RL_BACKOFF x) < c.rd (O.RL_WARN x))))]
    else 0

/-- The reason code of a group as its shadow stands (R55). -/
def State.groupCheck (s : State) (i : Nat) : Nat := s.groupReason (s.withShadow i) i

/-! ## What applying a group does -/

/-- Receptions of SPARE lanes on streams whose entry changed end (R204); the streams' validity follows ENABLE. -/
def State.streamsApplied (s old : State) : State :=
  let changed := (List.range 512).filter (fun n => s.streamEntry n != old.streamEntry n)
  let spares := s.rx.lanes.filter (fun e => e.2.role == .spare && (match e.2.rx with
    | some r => changed.contains r.stream
    | none => false))
  let s1 := spares.foldl (fun s e => s.abandonRx e.1 .stream) s
  let s2 := s1.wr O.STREAM_VALID ((changed.filter (fun n => !strEnable (s1.streamEntry n))).foldl clearBit (s1.rd O.STREAM_VALID))
  [0, 1, 2].foldl (fun s x =>
    if s.rxLive x then s.streamsOn (streamsOf x) else s) s2

/-- A link whose ID no entry carries any more loses its tables. -/
def State.linksApplied (s : State) : State :=
  s.onRx (fun r => { r with links := r.links.filter (fun l => (s.plyEntry l.1).isSome) })

/-- A port's record applied: a change of MODE, FEC or AN_ENABLE restarts the link (R319). -/
def State.portApplied (s old : State) (p : Nat) : State :=
  if [O.MODE p, O.FEC p, O.AN_ENABLE p].any (fun k => s.rd k != old.rd k) then (s.restartLink p).ptpAgain else s.sluiceAgain p

/-- CLASS_MAP applied: the sluices look again at what a pause holds, and where the C0 PCP is now one that is paused PAUSE_C0 is set (R350). -/
def State.classMapApplied (s old : State) : State :=
  (List.range 4).foldl (fun s p =>
    (if s.classMap 0 1 != old.classMap 0 1 && s.pausedAt p (s.classMap 0 1) s.now then s.raiseEv (O.PORT_EVENTS p) 2
     else s).sluiceAgain p) s

/-- The queue table applied: the shapers start full (R349). -/
def State.queuesApplied (s : State) (p : Nat) : State := (s.onPort p (fun x => { x with tokens := [] })).sluiceAgain p

/-- A frame that came in at a tick before now may still be in process. -/
def State.frameHeld (s : State) (t : Nat) : Bool :=
  s.eth.parse.any (fun f => decide (f.at_ < t)) || s.mac.up.any (fun u => decide (u.endAt < t)) ||
    s.mac.plyUp.any (fun u => decide (u.endAt < t)) || !s.rx.back.isEmpty

/-- A group of boundary FRAME applied: frames in process keep to the values that it has replaced (R326). -/
def State.frameApplied (s old : State) (i : Nat) : State :=
  let was := (old.shadow.filter (fun e => e.1 / 256 == i)).map (fun e => (e.1, old.rd e.1))
  s.onEth (fun e => { e with past := (e.past ++ [(s.now, was)]).filter (fun x => s.frameHeld x.1) })

/-- What follows in the block when a group has applied, `old` the state before. -/
def State.groupApplied (s old : State) (i : Nat) : State :=
  match i with
  | 0x3102 => s.forbidApplied (old.rd O.PAN_RESERVE)
  | 0x5000 => s.streamsApplied old
  | 0x5200 => s.linksApplied
  | 0x6200 => s.relayBoundary
  | 0x7000 => s.frameApplied old i
  | 0x7001 => s.classMapApplied old
  | 0x7004 => s.frameApplied old i
  | 0x7801 =>
    if s.rd O.ANCHOR_ASN != old.rd O.ANCHOR_ASN || s.rd O.ANCHOR_TIME != old.rd O.ANCHOR_TIME then s.holdAgain.gridRealign else s.holdAgain
  | 0x7802 => s.ptpAgain
  | 0x9100 => if s.domainUp 12 then s.chWake 0 else s
  | 0x9200 => if s.domainUp 12 then s.chWake 1 else s
  | 0xA001 => s.selectApplied old
  | _ =>
    if i / 16 = 0x710 then s.portApplied old (i % 16)
    else if i / 16 = 0x720 then s.queuesApplied (i % 16)
    else if i / 16 = 0x781 then s.ptpAgain
    else if i % 256 = 1 ∧ i / 4096 = 4 then s.wr (O.TX_TRIM_QDB (i / 256 - 0x40)) 0
    else s

end Sys2Proof.Machine
end

