-- ==== Sys2Proof/Machine/Boot.lean ====
section
/-!
DEFINITION. Boot (R386, R387, R464, R494): what the boot ROM makes of the flash slots and of a recovery image, and the start of hart 0.
-/
namespace Sys2Proof.Machine

/-- The boot key hash is programmed (R494). -/
def State.bootKeySet (s : State) : Bool := !(s.otpValid 0).isEmpty

/-- The SHA-256 of the public key that an image carries, taken over its 64 octets (DEDUCED, notes/assumptions/33.md: the lay's key has that form, R99). -/
def imageKeyHash (b : BootImage) : Nat := ofOctets (sha256 (octets b.key 64))

/-- The ECDSA P-256 signature over header and body verifies with the key carried (R386). -/
def imageSigned (b : BootImage) : Bool :=
  let k := octets b.key 64
  let g := octets b.sig 64
  ecdsaVerify (beField k 0 32) (beField k 32 32) (beField (sha256 (b.head ++ octets b.body b.bodyLen)) 0 32) (beField g 0 32) (beField g 32 32)

/-- The result code of an image (R386): 0 OK, 1 MAGIC, 2 KEY, 3 SIGNATURE, 4 RANGE, 5 FLASH_ERROR. Without a boot key hash every image
is KEY (R494); the order of the other checks is DEDUCED, notes/assumptions/33.md. -/
def State.bootResult (s : State) (b : BootImage) : Nat :=
  if !s.bootKeySet then 2
  else if !b.readable then 5
  else if !b.formed then 1
  else if 0x1000000 < b.length then 4
  else if imageKeyHash b ≠ s.rd O.BOOT_KEY_HASH then 2
  else if !imageSigned b then 3
  else if b.loadAddr < 0x100000000 ∨ 0x104000000 < b.loadAddr + b.bodyLen then 4
  else 0

/-- The pans that a body of `n` octets at an address takes. -/
def bodyPans (a n : Nat) : List Nat :=
  (List.range 16).filter (fun p => decide (a < 0x100000000 + (p + 1) * 0x400000 ∧ 0x100000000 + p * 0x400000 < a + n))

/-- An accepted image starts: its pans are reserved without a commit, its body is copied to LOAD_ADDR, and hart 0 enters it in
machine mode (R386). -/
def State.bootImage (s : State) (b : BootImage) : State :=
  let was := s.rd O.PAN_RESERVE
  let s1 := (((s.wr O.PAN_RESERVE ((bodyPans b.loadAddr b.bodyLen).foldl setBit was)).dropShadow 0x3102)).forbidApplied was
  (s1.memWrite b.loadAddr (octets b.body b.bodyLen)).onHart 0 (fun h => { h with pc := b.entry, priv := 3 })

/-- The sector that follows the newest valid record is erased before an image is loaded (R464). -/
def State.journalErase (s : State) : State :=
  match s.journalNewest with
  | some e => s.onPwr (fun p => { p with flash := p.flash.filter (fun x => x.1 != s.journalAfter e.1) })
  | none => s

/-- The boot ROM starts: slot A, then slot B; BOOT_STATUS takes the slot used and the code of each slot tried. -/
def State.bootRom (s : State) (a b : BootImage) : State :=
  let s1 := s.journalErase.onPwr (fun p => { p with boot := false })
  let ra := s1.bootResult a
  if ra = 0 then (s1.bootImage a).wr O.BOOT_STATUS 0
  else
    let rb := s1.bootResult b
    let s2 := s1.wr O.BOOT_STATUS ((if rb = 0 then 1 else 3) + ra * 16 + rb * 256)
    if rb = 0 then s2.bootImage b else s2

/-- Hart 0 starts in the boot ROM once it runs and nothing is still waking (R386, R453, R459). -/
def State.bootReady (s : State) : Bool :=
  s.pwr.boot && s.pwr.queue.isEmpty && s.pwr.wakes.isEmpty && s.hartRuns 0 && (List.range 16).all (fun p => s.oct O.PAN_POWER p != 1)

/-- BOOT_ROM_START. -/
def execBootRomStart (t : Tick) (a b : BootImage) (s : State) : Host.Outcome State Fault Refusal :=
  let s1 := s.tickTo t
  .next (if s1.bootReady then s1.bootRom a b else s1)

/-- Hart 0 waits in the boot ROM because no slot was accepted (R387). -/
def State.bootWaits (s : State) : Bool :=
  !s.pwr.boot && s.hartRuns 0 && s.rd O.BOOT_STATUS % 4 == 3 && !s.pins.testEn

/-- A write of RECOVERY_IMAGE: checked and started as a slot is, with SLOT 2, while hart 0 waits; no effect otherwise (R387). It lies in
no slot, whose size it need not keep to (DEDUCED, notes/assumptions/33.md). -/
def State.opRecovery (s : State) (b : BootImage) : State :=
  if s.bootWaits && s.bootResult { b with readable := true, length := 0 } == 0 then
    (s.bootImage b).wr O.BOOT_STATUS (setBits (s.rd O.BOOT_STATUS) 0 2 2)
  else s

end Sys2Proof.Machine
end

