-- ==== Sys2Proof/Machine/Dict.lean ====
section
/-!
DEFINITION. The dictionary engine (02, §1 to §4): finding an object, what a read gives, the refusals of reads and writes in their order,
slow copies, SEQSTAT write-back, the shadow groups and their commits, service sessions, and what a write of each object does.
-/
namespace Sys2Proof.Machine

/-! ## Objects and records (R40, R41) -/

/-- The rows of a record, repeats included. -/
def recordRows (i : Nat) : List ObjDesc :=
  if i = 0xA001 then (upFrom 1 64).map (fun n => ob 0xA001 n "SELECT" (.u 16) .rws 0 [] 0)
  else if i = 0xA002 then (upFrom 1 64).map (fun n => ob 0xA002 n "COUNT" (.u 64) .ro 0 [] 2)
  else (dictPage (baseIndex i / 256)).filter (fun d => d.index == baseIndex i)

/-- The highest data sub-index of a record, which sub-index 00 reads. -/
def topSub (i : Nat) : Nat := (recordRows i).foldl (fun m d => max m d.sub) 0

/-- The control sub-indices of a shadow group (Table 2.3). -/
def controlRow (i sub : Nat) : Option ObjDesc :=
  if (groupBoundary i).isNone then none
  else if sub = 0xFD then some (ob i sub "SHADOW_OWNER" (.u 16) .ro 0 [] 0)
  else if sub = 0xFE then some (ob i sub "COMMIT" (.u 32) .wo 0 [] 0)
  else if sub = 0xFF then some (ob i sub "COMMIT_STATUS" .seqstat .rw 0 [] 0)
  else none

/-- The object with an index and sub-index, or why there is none. -/
def findObj (i sub : Nat) : Except Abort ObjDesc :=
  if (recordRows i).isEmpty then .error .noObject
  else if sub = 0 then .ok (ob i 0 "HIGHEST_SUB_INDEX" (.u 8) .const (topSub i) [] 0)
  else match (recordRows i).find? (fun d => d.sub == sub) with
    | some d => .ok d
    | none => match controlRow i sub with
      | some d => .ok d
      | none => .error .noSubindex

/-- The domains of the block behind a record, none where its state lies in domain AON or in no domain of its own (R49). Table 13.2 has no
row for the task scheduler (0x80xx): it is taken as lying with the cores. Nor has it one for placement (0x31xx), the key store's
counters (0x6900, 0x6940) and self-test (0xA1xx): they are taken as lying in no domain that switches off (DESIGN CHOICES,
notes/assumptions/13.md). -/
def objDomains (i : Nat) : List Nat :=
  match i / 256 with
  | 0x30 => [8]
  | 0x40 => [2]
  | 0x41 => [3]
  | 0x42 => [4]
  | 0x50 => [5]
  | 0x51 => if i = 0x5100 then [5] else [6, 7]
  | 0x52 => [6, 7]
  | 0x60 => [8]
  | 0x61 => [8]
  | 0x62 => [8]
  | 0x68 => [9]
  | 0x69 => if i = 0x6901 then [9] else []
  | 0x70 => [10]
  | 0x71 => [11]
  | 0x72 => [10]
  | 0x78 => [8]
  | 0x80 => [13, 14]
  | 0x81 => [13, 14]
  | 0x90 => if i = 0x9003 then [15, 12] else [15]
  | 0x91 => [12]
  | 0x92 => [12]
  | 0x93 => [12]
  | 0xA0 => [8]
  | _ => []

/-- The block behind a record is off: no domain of it is ON or IDLE. -/
def State.blockOff (s : State) (i : Nat) : Bool := !(objDomains i).isEmpty && (objDomains i).all (fun n => !s.domainUp n)

/-! ## Lengths and values (R42 to R44) -/

/-- The fixed length of a type, none for a variable one. -/
def ObjType.fixed : ObjType → Option Nat
  | .bool => some 1
  | .u w => some (w / 8)
  | .i w => some (w / 8)
  | .oct n => some n
  | .time80 => some 10
  | .seqstat => some 4
  | .vis _ => none
  | .dom _ => none

/-- The greatest length of a type. -/
def ObjType.most : ObjType → Nat
  | .vis m => m
  | .dom m => m
  | t => t.fixed.getD 0

/-- Octets of a number up to the last nonzero one. -/
def octetCount (v : Nat) : Nat := if v = 0 then 0 else Nat.log2 v / 8 + 1

/-- Variable objects that are empty until written. -/
def emptyObj (k : Nat) : Bool :=
  [O.TIER_FORCE, O.TUNER_PRESETS 0, O.TUNER_PRESETS 1, O.TUNER_PRESETS 2, O.HOP_SEQUENCE, O.EB_TRAILER_IES, O.IMPORT_RESULTS,
    O.TRAIN_RUNS].contains k

/-- The length of an object that holds its value itself. -/
def State.objLen (s : State) (k : Nat) (d : ObjDesc) : Nat :=
  match d.ty.fixed with
  | some n => n
  | none =>
    if d.access = .const then octetCount (dflt k)
    else (look s.lens k).getD (if emptyObj k then 0 else d.ty.most)

/-- A mask of `w` octets repeated `n` times. -/
def repMask (m w n : Nat) : Nat := m * ((2 ^ (8 * w * n) - 1) / (2 ^ (8 * w) - 1))

/-- The fields of a next-hop entry (Table 9.10): its reserved bits are zeros. -/
def nextHopMask : Nat := 2 ^ 61 - 1 + 0xFFF * 2 ^ 64 + 0xFFF * 2 ^ 80 + 0xFFFF * 2 ^ 96 + (2 ^ 48 - 1) * 2 ^ 128

/-- The fields of a sensor entry (Table 7.8). -/
def sensorMask : Nat :=
  2 ^ 512 - 1 - 3 * 2 ^ 94 - 2 ^ 119 - 0xFFFF * 2 ^ 368 - 0xFFFF * 2 ^ 464

/-- What an object keeps of a written value: reserved bits are ignored and read 0 (R7, R44); bits 0 and 1 of FAULT_N_ROUTE read 1 (R454). -/
def kept (k v : Nat) : Nat :=
  let b := recKey (baseIndex (k / 256)) (k % 256)
  if b = O.FAULT_N_ROUTE then (v &&& 0xFF) ||| 3
  else if b = O.TRIGGER_MASK then v &&& 0x3F
  else if b = O.WAKE_MASK then v &&& 0xF
  else if k / 256 = 0xA001 then v &&& 0x31FF
  else if b = 0x78010B then 0
  else if b = O.STREAM_TABLE then v &&& repMask (2 ^ 42 - 1) 8 512
  else if b = O.PROFILES then v &&& repMask (2 ^ 73 - 1) 16 64
  else if b = O.PLY_LINKS then v &&& repMask 0xFFFFFFFFFF37FF 16 16
  else if b = O.CELL_TABLE then v &&& repMask (2 ^ 49 - 1) 8 65536
  else if b = O.FILTERS then v &&& repMask (2 ^ 99 - 1) 16 256
  else if b = O.NEXT_HOPS then v &&& repMask nextHopMask 32 256
  else if b = O.TUNNEL_TEMPLATES then v &&& repMask (2 ^ 512 - 1 - 0xFF000000) 64 64
  else if b = O.QUEUES 0 then v &&& repMask (2 ^ 128 - 2 ^ 64 + 0xFF03FFFFFF) 16 64
  else if b = O.PARENTS then v &&& repMask (2 ^ 80 - 1) 16 4
  else if b = O.CONTEXTS then v &&& repMask (2 ^ 192 - 2 ^ 64 + 0xFFFF) 24 16
  else if b = O.OPAQUE_NODES then v &&& repMask (2 ^ 40 - 1) 8 8
  else if b = O.SENSOR_ENTRY then v &&& sensorMask
  else if b = O.RULE_DATA then v % 2 ^ (640 + 75)
  else if b = O.FLOW_ENTRY then v &&& 0xFFFFFFFFF7
  else if b = O.TIER_FORCE then v &&& repMask (2 ^ 20 - 1) 4 4096
  else if b = O.TUNER_PRESETS 0 then v &&& repMask 0x013F3F3F 4 256
  else if b = O.TIMING_PS 0 then v % 2 ^ 224
  else v

/-- A value as the ranges of a table row see it: signed types by their signed reading. -/
def rangeVal (d : ObjDesc) (v : Nat) : Int :=
  match d.ty with
  | .i w => toInt w v
  | _ => (v : Int)

/-- The stated ranges that a table row's list does not hold: whole tables and addresses. -/
def specialBad (k v : Nat) : Bool :=
  if k = O.JOURNAL_BASE then v % 4096 != 0 || decide (v < 0x2000000)
  else if k = O.TIMERS then
    (List.range 16).any (fun n =>
      let us := bits v (64 * n) 32
      let ms := bits v (64 * n + 32) 32
      us == 1 || decide (1000000 < us) || decide (3600000 < ms))
  else if k = O.WIN_VECTOR then v != 0 && !(decide (0x100000000 ≤ v) && decide (v < 0x104000000))
  else false

/-- A written value is outside its object's range (R42, R44). -/
def valueBad (k : Nat) (d : ObjDesc) (len v : Nat) : Bool :=
  (!d.range.isEmpty && !d.range.any (fun r => decide (r.1 ≤ rangeVal d v ∧ rangeVal d v ≤ r.2))) || specialBad k v ||
  (match d.ty with
  | .bool => decide (1 < v)
  | .vis _ => (List.range len).any (fun n => decide (octet v n < 0x20 ∨ 0x7E < octet v n))
  | .time80 => decide (999999999 < v % 2 ^ 32)
  | _ => false)

/-! ## Reads (Table 2.2, R49, R57, R60) -/

/-- The requester holds the open service session (Table 2.2, SVC). -/
def State.holdsSvc (s : State) (r : Req) : Bool := s.jot.svc.holder == some (reqWho r)

/-- An object of the CSR window only: SVC_CHALLENGE, SVC_PROOF and SVC_CLOSE. -/
def csrOnly (i sub : Nat) : Bool := i == 0x1103 && decide (6 ≤ sub ∧ sub ≤ 8)

/-- SHADOW_OWNER of a group (Table 2.3). -/
def State.ownerCode (s : State) (i : Nat) : Nat :=
  match look s.groups i with
  | some g => match g.owner with
    | some o => o.tr.code * 256 + o.src
    | none => 0
  | none => 0

/-- Why a read is refused, or the object read. -/
def State.readCheck (s : State) (r : Req) (i sub : Nat) : Except Abort ObjDesc :=
  match findObj i sub with
  | .error a => .error a
  | .ok d =>
    if csrOnly i sub && r.tr != .csr then .error .noSubindex
    else if d.access = .wo then .error .readWo
    else if d.svc && !s.holdsSvc r then .error .svcRequired
    else if d.access = .ro && s.blockOff i then .error .domainOff
    else .ok d

/-- What a read of an object gives: its length and its octets. -/
def State.readObj (s : State) (r : Req) (i sub : Nat) (d : ObjDesc) (shadow : Bool) : Nat × Nat :=
  let k := recKey i sub
  if sub = 0 then (1, topSub i)
  else if sub = 0xFD then (2, s.ownerCode i)
  else if k = O.SVC_CHALLENGE then (16, match s.jot.svc.challenges.find? (fun e => e.1 == reqWho r) with
    | some e => e.2.1
    | none => 0)
  else if shadow && d.access = .rws then
    (match d.ty.fixed with
    | some n => n
    | none => (look s.shadowLens k).getD (s.objLen k d), s.shVal k)
  else match s.view k with
    | some x => x
    | none =>
      let n := s.objLen k d
      (n, (if d.perReq then s.rdReq r k else if d.slow then (look s.objsEdge k).getD (dflt k) else s.rd k) % 2 ^ (8 * n))

/-! ## Shadow groups (R50 to R56) -/

/-- Why a write to a group's shadow or COMMIT is refused (R53, R56). -/
def State.shadowCheck (s : State) (r : Req) (i : Nat) : Option Abort :=
  match look s.groups i with
  | none => none
  | some g =>
    if g.owner.isSome && g.owner != some (reqWho r) then some .shadowOwned
    else if g.pendingAt.isSome then some .shadowBusy
    else none

/-- The requester writes a group's shadow or COMMIT: it is the owner, and its 10 s begin anew (R53, R54). -/
def State.ownGroup (s : State) (r : Req) (i : Nat) : State :=
  { s with groups := put s.groups i { owner := some (reqWho r), activeAt := s.now, pendingAt := none } }

/-- COMMIT_STATUS takes a state and a reason, which are state fields: SEQ advances when they change (R55, R58). -/
def State.commitState (s : State) (i st reason : Nat) : State :=
  s.setSt (recKey i 0xFF) 0 16 ((reason + (groupBoundary i).getD 0 * 256 + st * 4096) % 2 ^ 16)

/-- A group is discarded: the shadow reloads from the active values, the ownership ends. -/
def State.groupDiscard (s : State) (i reason : Nat) : State :=
  let s1 := s.dropShadow i
  ({ s1 with groups := del s1.groups i }).commitState i 4 reason

/-- A group applies: all its active values change together, the ownership ends (R50, R53). -/
def State.groupApply (s : State) (i : Nat) : State :=
  let s1 := (s.withShadow i).dropShadow i
  (({ s1 with groups := del s1.groups i }).groupApplied s i).commitState i 2 0

/-- A group waits for its boundary. -/
def State.groupPend (s : State) (i : Nat) : State :=
  let s1 := { s with groups := modify s.groups i { owner := none, activeAt := s.now, pendingAt := none } (fun g =>
    { g with pendingAt := some s.now }) }
  let s2 := if i = 0x3102 then s1.forbidPend (s1.shVal O.FORBID) (s1.shVal O.PAN_RESERVE) else s1
  s2.commitState i 1 0

/-- A pending group is refused: its shadow and its owner stay (R55, R56). -/
def State.groupRefuse (s : State) (i reason : Nat) : State :=
  let s1 := { s with groups := modify s.groups i { owner := none, activeAt := s.now, pendingAt := none } (fun g =>
    { g with pendingAt := none }) }
  let s2 := if i = 0x3102 then s1.forbidRefused (s1.shVal O.PAN_RESERVE) else s1
  s2.commitState i 3 reason

/-- A group applies at the commit: boundary IMMEDIATE or FRAME, or a block that is off (R51). -/
def State.appliesNow (s : State) (i : Nat) : Bool :=
  match groupBoundary i with
  | some 0 => true
  | some 2 => true
  | _ => s.blockOff i

/-- A write of COMMIT (R53 to R56): 1 APPLY, 2 DISCARD. -/
def State.commitWrite (s : State) (r : Req) (i v : Nat) : Wrote :=
  let s1 := s.ownGroup r i
  if v = 2 then .done (s1.groupDiscard i 0)
  else if v ≠ 1 then .no s .valueRange
  else
    let why := s1.groupCheck i
    if why ≠ 0 then .no (s1.commitState i 3 why) .commitRefused
    else if s1.appliesNow i then .done ((s1.commitState i 1 0).groupApply i)
    else .done (s1.groupPend i)

/-- No JOT response is pending on the management port (Table 2.16): no write over it waits for a SLOW edge or for OTP. -/
def State.mgmtIdle (s : State) : Bool :=
  !s.jot.slow.any (fun w => w.req.tr == .udp) &&
  (match s.otp.job with
  | some j => match j.who with
    | some (r, _) => r.tr != .udp
    | none => true
  | none => true)

/-- The boundary of a pending group has come since the commit (R51, R64, R91, R158, R319). -/
def State.boundaryCome (s : State) (i at_ : Nat) : Bool :=
  if i = 0x3102 then (match s.plc.emptiedAt with
    | some e => decide (e + 10000 ≤ s.lay.slotAt)
    | none => false) && decide (at_ < s.lay.slotAt) && s.forbidClear (s.shVal O.PAN_RESERVE)
  else match groupBoundary i with
  | some 1 => decide (at_ < s.lay.slotAt)
  | some 3 =>
    if i / 16 = 0x710 then (s.port (i % 16)).tx.isNone
    else if i / 4096 = 4 then
      let t := s.trx (i / 256 - 0x40)
      if i % 256 = 2 then !t.rxOpen else !t.txOpen
    else if i = 0x1102 then s.mgmtIdle
    else true
  | _ => true

/-- The boundary of a group comes: the checks are made again, and it applies or is refused (R55). -/
def State.groupBoundaryAt (s : State) (i : Nat) : State :=
  match look s.groups i with
  | some g => match g.pendingAt with
    | some p =>
      if !s.boundaryCome i p then s
      else
        let why := s.groupCheck i
        if why ≠ 0 then s.groupRefuse i why else s.groupApply i
    | none => s
  | none => s

/-- A group pending for 1 s without its boundary is refused (R56). -/
def State.groupNoBoundary (s : State) (i : Nat) : State :=
  match look s.groups i with
  | some g => match g.pendingAt with
    | some p => if s.now < p + secTk then s else s.groupRefuse i 4
    | none => s
  | none => s

/-- Ten seconds without a write by the owner discard the shadow (R54). -/
def State.groupTimeout (s : State) (i : Nat) : State :=
  match look s.groups i with
  | some g => if g.pendingAt.isSome ∨ g.owner.isNone ∨ s.now < g.activeAt + 10 * secTk then s else s.groupDiscard i 7
  | none => s

/-! ## SEQSTAT write-back (R58, R59) -/

/-- The STATUS bits of an object that hold states: a write-back leaves them. -/
def stateBits (k : Nat) : Nat :=
  if [O.LAY_STATUS, O.IMPORT_STATUS, O.REWRAP_STATUS, O.TRAIN_STATUS].contains k then 0xF000
  else if [O.TRX_EVENTS 0, O.TRX_EVENTS 1, O.TRX_EVENTS 2].contains k then 0x80
  else if [O.CAL_STATUS 0, O.CAL_STATUS 1, O.CAL_STATUS 2, O.OTP_STATUS].contains k then 0x8000
  else 0

/-- The bits that a write-back clears: those written 1 but the state bits; any bit of the STATE of COMMIT_STATUS stands for the whole of it,
and none while it is PENDING. -/
def State.clearedBits (s : State) (k v : Nat) : Nat :=
  if k % 256 = 0xFF then
    if bits (s.rd k) 12 4 = 1 then 0
    else if bits v 12 4 = 0 then v % 2 ^ 12 else v % 2 ^ 12 ||| 0xF000
  else v % 2 ^ 16 &&& (0xFFFF - stateBits k)

/-- A write of a SEQSTAT object. -/
def State.seqWrite (s : State) (k v : Nat) : Wrote :=
  let old := s.rd k
  if bits v 16 16 ≠ bits old 16 16 then .no s .seqStale
  else
    let c := s.clearedBits k v
    let s1 := s.wr k (bits old 16 16 * 2 ^ 16 + (old % 2 ^ 16 &&& (0xFFFF - c)))
    .done (if k = O.COUNTER_EVENTS ∧ bitAt c 0 then s1.wr O.OVF_MAP 0 else s1)

/-! ## The service session (R78 to R81) -/

/-- SVC_OPEN: a new challenge for the requester. -/
def State.svcOpen (s : State) (r : Req) : Except Abort (Nat × State) :=
  let locked : Bool := match s.jot.svc.lockUntil with
    | some u => decide (s.now < u)
    | none => false
  if s.jot.svc.holder.isSome then .error .svcBusy
  else if locked then .error .svcLocked
  else
    let (x, s1) := s.draw
    let c := x % 2 ^ 128
    .ok (c, s1.onJot (fun j => { j with svc := { j.svc with
      challenges := j.svc.challenges.filter (fun e => e.1 != reqWho r) ++ [(reqWho r, c, s.now)] } }))

/-- A proof denied: counted; the third in a row locks for 60 s, each later one twice as long, up to 3,600 s (R80). -/
def State.svcDeny (s : State) : State :=
  let n := s.jot.svc.denials + 1
  let len := if n < 3 then 0 else if n = 3 then 60 else min 3600 (2 * s.jot.svc.lockLen)
  (s.bump O.SVC_DENIALS).onJot (fun j => { j with svc := { j.svc with
    denials := n, lockLen := len, lockUntil := if n < 3 then none else some (s.now + len * secTk) } })

/-- The proof of a challenge (R78): the first 16 octets of the HMAC-SHA-256, keyed with the service key, of the challenge, SERIAL_NUMBER,
the transport code and the source. -/
def svcProof (challenge serial tr src : Nat) : Nat :=
  ofOctets ((hmacSha256 (octets Config.serviceKey 32) (octets challenge 16 ++ octets serial 8 ++ octets tr 1 ++ octets src 1)).take 16)

/-- SVC_PROVE: a correct proof within 10 s of the challenge opens the session. Any proof that is checked uses the challenge up, so that a
correct one after it within the 10 s is denied, and a proof where no challenge is held is a denial like a wrong one (DESIGN CHOICES,
notes/assumptions/41.md). -/
def State.svcProve (s : State) (r : Req) (proof : Nat) : Wrote :=
  let locked : Bool := match s.jot.svc.lockUntil with
    | some u => decide (s.now < u)
    | none => false
  if s.jot.svc.holder.isSome then .no s .svcBusy
  else if locked then .no s .svcLocked
  else
    let held := s.jot.svc.challenges.find? (fun e => e.1 == reqWho r)
    let good : Bool := match held with
      | some e => decide (s.now ≤ e.2.2 + 10 * secTk) && proof == svcProof e.2.1 (s.rd O.SERIAL_NUMBER) r.tr.code r.src
      | none => false
    let s1 := s.onJot (fun j => { j with svc := { j.svc with
      challenges := j.svc.challenges.filter (fun e => e.1 != reqWho r) } })
    if good then
      .done ((s1.onJot (fun j => { j with svc := { j.svc with
        holder := some (reqWho r), lastReq := s.now, denials := 0, lockUntil := none, lockLen := 0 } })).wr O.SVC_HOLDER
          (r.tr.code * 256 + r.src))
    else .no s1.svcDeny .svcDenied

/-- SVC_CLOSE: by the holder only (R81). -/
def State.svcClose (s : State) (r : Req) : Except Abort State :=
  if s.holdsSvc r then .ok s.svcEnd else .error .svcRequired

/-! ## Commands: writes of WO objects -/

/-- A written boot image as its header shows it. -/
def writtenImage (len v : Nat) : BootImage :=
  let b := Config.bootImage len v
  { readable := true, formed := b.1, length := b.2.1, key := b.2.2.1, sig := b.2.2.2.1, head := b.2.2.2.2.1, loadAddr := b.2.2.2.2.2.1,
    entry := b.2.2.2.2.2.2.1, bodyLen := b.2.2.2.2.2.2.2.1, body := b.2.2.2.2.2.2.2.2 }

/-- A flow command with the frames of the cancelled hitch items, which are dropped (R391, R402). -/
def State.flowCommand (s : State) (r : Req) (v : Nat) : Except Abort State :=
  match s.opFlowCommand r v with
  | .ok (fr, s1) => .ok (if v = 3 then (fr.foldl State.dropHitchFrame s1).poisonSweep else s1)
  | .error a => .error a

/-- Commands of the transports, the power controller and the supply monitor. -/
def State.commandAon (s : State) (r : Req) (k v : Nat) : Wrote :=
  if k = O.SVC_PROOF then s.svcProve r v
  else if k = O.SVC_CLOSE then (if v = 1 then .of s (s.svcClose r) else .done s)
  else if k = O.DOMAIN_REQ then .of s (s.opDomainReq (bits v 0 4) (bits v 8 2))
  else if k = O.SLEEP_REQ then .done (s.opSleep v)
  else if k = O.FAULT_CLEAR then .done (s.opFaultClear v)
  else .done s

/-- Commands of the lay, placement and the receive path. -/
def State.commandLay (s : State) (r : Req) (k v : Nat) : Wrote :=
  if k = O.LAY_COMMAND then .of s (s.opLayCommand v)
  else if k = O.HITCH_CLEAR then .of s (s.opHitchClear v)
  else if k = O.RETIRED_CLEAR then .of s (s.opRetiredClear v)
  else if k = O.WHY_QUERY then .of s (s.opWhyQuery r v)
  else if k = O.SOUND_COMMAND then .of s (s.opSoundCommand v)
  else if k = O.FALLBACK_COMMAND then .of s (s.opFallbackCommand v)
  else .done s

/-- Commands of transceiver `x`. -/
def State.commandRadio (s : State) (x k v : Nat) : Wrote :=
  if k = O.MANUAL_HOP x then .of s (s.opManualHop x v)
  else if k = O.TX_INHIBIT_CLEAR x then .done (s.opInhibitClear x v)
  else if k = O.CAL_COMMAND x then .done (s.opCalCommand x v)
  else if k = O.CAL_INVALIDATE x then .of s (s.opCalInvalidate x v)
  else .done s

/-- Commands of the air MAC and the key store. -/
def State.commandMac (s : State) (r : Req) (k len v : Nat) : Wrote :=
  if k = O.SENSOR_COMMAND then .of s (s.opSensorCommand r v)
  else if k = O.KEY_IMPORT then .done (s.importStart len v)
  else if k = O.KEY_DELETE then .done (s.opKeyDelete v)
  else if k = O.SLOT_QUERY then .done (s.opSlotQuery r v)
  else .done s

/-- Commands of the router and of network time. -/
def State.commandEth (s : State) (r : Req) (k v : Nat) : Wrote :=
  if k = O.RULE_COMMAND then .of s (s.opRuleCommand r v)
  else if k = O.PPS_NEXT_S then .done { s with tim := { s.tim with ppsNext := some v } }
  else match (List.range 4).find? (fun p => k == O.TS_POP p) with
    | some p => .of s (s.opTsPop p v)
    | none => .done s

/-- Commands of the cores, the memories, the counters and self-test. -/
def State.commandCore (s : State) (r : Req) (k len v : Nat) : Wrote :=
  if k = O.FLOW_COMMAND then .of s (s.flowCommand r v)
  else if k = O.HART_START then .done (s.opHartStart v)
  else if k = O.WDT_KICK then .of s (s.opWdtKick v)
  else if k = O.RECOVERY_IMAGE then .done (s.opRecovery (writtenImage len v))
  else if k = O.CH_COMMAND 0 then .of s (s.opChCommand r 0 v)
  else if k = O.CH_COMMAND 1 then .of s (s.opChCommand r 1 v)
  else if k = O.TRAIN_COMMAND then .of s (s.opTrainCommand r v)
  else if k = O.SNAP_COMMAND then .of s (s.opSnap v)
  else if k = O.TEST_REQUEST then .done (s.opTestRequest r v)
  else .done s

/-- A write of a WO object. -/
def State.command (s : State) (r : Req) (k len v : Nat) : Wrote :=
  let i := k / 256
  if i < 0x3000 then s.commandAon r k v
  else if i < 0x4000 ∨ i / 4096 = 5 then s.commandLay r k v
  else if i < 0x4300 then s.commandRadio (i / 256 - 0x40) k v
  else if i < 0x5000 then s.commandRadio (i % 256) k v
  else if i < 0x7000 then s.commandMac r k len v
  else if i < 0x8000 then s.commandEth r k v
  else s.commandCore r k len v

/-! ## Writes that are stored -/

/-- The objects behind OTP areas: their writes are answered when the record is programmed (R486). -/
def otpObj (k : Nat) : Bool := [O.NODE_ID, O.LIFECYCLE, O.REGION_PROFILE, O.ROOT_ROTATE, O.BOOT_KEY_HASH].contains k

/-- A write of an object behind an OTP area. -/
def State.otpWrite (s : State) (r : Req) (seg : Bool) (k len v : Nat) : Wrote :=
  if k = O.NODE_ID then s.opNodeId r seg v
  else if k = O.REGION_PROFILE then s.opRegion r seg len v
  else if k = O.ROOT_ROTATE then s.opRootRotate r seg v
  else if k = O.LIFECYCLE then s.opLifecycle r seg v
  else s.opBootKey r seg v

/-- An object takes its value (R43): with its length where that is variable. -/
def State.storeObj (s : State) (r : Req) (k : Nat) (d : ObjDesc) (len v : Nat) : State :=
  let w := kept k v
  if d.perReq then s.wrReq r k w
  else match d.ty with
    | .dom _ => s.wrLen k len w
    | .vis _ => s.wrLen k len w
    | _ => s.wr k w

/-- What follows in the block when a configuration object has been written, `old` the state before. -/
def State.rwHook (s old : State) (k v : Nat) : State :=
  if k = O.EXPORT_PERIOD_MS then s.onCtr (fun c => { c with exportAt := s.now })
  else if k = O.WDT_PERIOD_MS then s.onCores (fun c => { c with wdtAt := s.now, wdtWarned := false })
  else if k = O.PPS_ENABLE then
    (if v = 1 ∧ old.rd k = 0 then { s with tim := { s.tim with ppsCount := false } } else s)
  else if k = O.HEARTBEAT_MS then s.onJot (fun j => { j with heartbeatAt := s.now })
  else if k = O.TIER_FORCE then s.onPlc (fun p => { p with decisions := p.decisions ++
    [{ cause := 0x0C, subject := 0, on := true, madeAt := s.now }] })
  else if k = O.HOST_TAIL then s.opHostTail v
  else s

/-- The entries that written octets of TRAIN_TABLE hold (R433). -/
def trainEntries (len v : Nat) : List TrainEntry :=
  (Config.trainEntries len v).map (fun e => { rate := e.1, rank := e.2.1, step := e.2.2.1, values := e.2.2.2 })

/-- A write of an RW object, with the owning chapter's checks on storing. -/
def State.rwWrite (s : State) (r : Req) (k : Nat) (d : ObjDesc) (len v : Nat) : Wrote :=
  if k = O.STANDBY_IMAGE then .of s (s.opStandbyImage len v)
  else if k = O.PAN_RETAIN_REQ then .of s (s.opPanRetain v)
  else if k = O.TRAIN_TABLE 0 then .of s (s.opTrainTable 0 (trainEntries len v))
  else if k = O.TRAIN_TABLE 1 then .of s (s.opTrainTable 1 (trainEntries len v))
  else match [0, 1, 2].find? (fun x => k == O.CHAN_PLAN x) with
    | some x => .of s (s.opChanPlan x v)
    | none => .done ((s.storeObj r k d len v).rwHook s k v)

/-- A write of an RWS sub-index changes the shadow only (R50). -/
def State.shadowWrite (s : State) (r : Req) (i sub : Nat) (d : ObjDesc) (len v : Nat) : Wrote :=
  match s.shadowCheck r i with
  | some a => .no s a
  | none =>
    let k := recKey i sub
    let w := kept k v
    let s1 := s.ownGroup r i
    let s2 := { s1 with shadow := if w = s1.rd k then del s1.shadow k else put s1.shadow k w }
    .done (match d.ty with
      | .dom _ => { s2 with shadowLens := put s2.shadowLens k len }
      | _ => s2)

/-! ## Writes -/

/-- A key object's restriction by lifecycle state (R312, R493). -/
def State.lifecycleBars (s : State) (k : Nat) : Bool :=
  let l := s.lifecycle
  (k == O.STAGE_FORCE && decide (3 ≤ l)) || (k == O.KEY_IMPORT && (l == 1 || l == 4)) || (k == O.KEY_DELETE && l == 4)

/-- The refusal of a length (R43, R312). -/
def lengthCheck (k : Nat) (d : ObjDesc) (len : Nat) : Option Abort :=
  match d.ty.fixed with
  | some n => if len = n then none else some .lengthMismatch
  | none =>
    if d.ty.most < len then some .tooLong
    else if k = O.KEY_IMPORT ∧ len ≠ 0 ∧ (len < 112 ∨ (len - 64) % 48 ≠ 0) then some .lengthMismatch
    else none

/-- The refusals that do not depend on the value, in their order (R69); or the object written. -/
def State.writeCheck (s : State) (r : Req) (i sub len : Nat) : Except Abort ObjDesc :=
  match findObj i sub with
  | .error a => .error a
  | .ok d =>
    let k := recKey i sub
    if csrOnly i sub && r.tr != .csr then .error .noSubindex
    else if d.access = .ro ∨ d.access = .const then .error .writeRo
    else if d.svc && !s.holdsSvc r then .error .svcRequired
    else if s.lifecycleBars k then .error .lifecycle
    else if d.access = .wo && sub != 0xFE && s.blockOff i then .error .domainOff
    else match lengthCheck k d len with
      | some a => .error a
      | none =>
        if d.access = .rws ∨ sub = 0xFE then
          (match s.shadowCheck r i with
          | some a => .error a
          | none => .ok d)
        else if k = O.KEY_IMPORT ∧ s.stOf O.IMPORT_STATUS = 1 then .error .shadowBusy
        else .ok d

/-- A write takes effect. -/
def State.writeNow (s : State) (r : Req) (seg : Bool) (i sub : Nat) (d : ObjDesc) (len v : Nat) : Wrote :=
  let k := recKey i sub
  if sub = 0xFE then s.commitWrite r i v
  else if d.ty = .seqstat then s.seqWrite k v
  else if d.access = .rws then s.shadowWrite r i sub d len v
  else if otpObj k then s.otpWrite r seg k len v
  else if d.access = .wo then s.command r k len v
  else s.rwWrite r k d len v

/-- The next SLOW edge (R60). -/
def State.nextEdge (s : State) : Nat := (s.now / slowTk + 1) * slowTk

/-- A write that no refusal stops so far: its value is judged; a write of a slow copy waits for the SLOW edge, any other acts at once. -/
def State.writeGo (s : State) (r : Req) (seg : Bool) (i sub : Nat) (d : ObjDesc) (len v : Nat) : Wrote :=
  let k := recKey i sub
  if valueBad k d len v then .no s .valueRange
  else if d.slow then
    .later (s.onJot (fun j => { j with slow := j.slow ++
      [{ req := r, seg := seg, index := i, sub := sub, len := len, val := v, due := s.nextEdge }] }))
  else s.writeNow r seg i sub d len v

/-- The outcome of a write is answered. A COMMIT that the checks refuse completes normally on the CSR window (R55). -/
def Wrote.ends (w : Wrote) (r : Req) (seg : Bool) (i sub : Nat) : State :=
  match w with
  | .done t => t.endWrite r seg i sub none
  | .later t => t
  | .no t a => t.endWrite r seg i sub (if a = .commitRefused ∧ r.tr = .csr then none else some a)

/-- A write of an object by a requester: checked, applied or staged, and answered. -/
def State.writeObj (s : State) (r : Req) (seg : Bool) (i sub len v : Nat) : State :=
  match s.writeCheck r i sub len with
  | .error a => s.endWrite r seg i sub (some a)
  | .ok d => (s.writeGo r seg i sub d len v).ends r seg i sub

/-- The slow copy of an object shows the value written (R60). -/
def State.edgeCopy (s : State) (k : Nat) : State := { s with objsEdge := put s.objsEdge k (s.rd k) }

/-- The SLOW edge has come: the waiting writes take effect in their order and are answered (R60). -/
def State.slowApply (s : State) : State :=
  let due := s.jot.slow.filter (fun w => decide (w.due ≤ s.now))
  due.foldl (fun s w =>
    match findObj w.index w.sub with
    | .ok d =>
      let o := s.writeNow w.req w.seg w.index w.sub d w.len w.val
      let o2 := match o with
        | .done t => Wrote.done (t.edgeCopy (recKey w.index w.sub))
        | x => x
      o2.ends w.req w.seg w.index w.sub
    | .error _ => s) (s.onJot (fun j => { j with slow := j.slow.filter (fun w => !decide (w.due ≤ s.now)) }))

end Sys2Proof.Machine
end

