-- ==== Sys2Proof/Machine/JotCmd.lean ====
section
/-!
DEFINITION. JOT over CAN FD and UDP (02, §5 to §7): arrival of a request, expedited and segmented transfers, service sessions,
heartbeats, the CAN bus and the management port.
-/
namespace Sys2Proof.Machine

/-! ## Arrival -/

/-- The FUNCTION codes of Table 2.5 that clients send: ABORT, REQ, SEG and BLKACK. -/
def clientFunction (fn : Nat) : Bool := fn == 1 || fn == 3 || fn == 4 || fn == 5

/-- A node ID a client may have (R65). -/
def nodeValid (n : Nat) : Bool := decide (1 ≤ n ∧ n ≤ 239)

/-- An IPv4 address of Carand's. -/
def State.ownIpv4 (s : State) (a : Nat) : Bool := a != 0 && a == s.rd O.IPV4_ADDR

/-- The link-local IPv6 address that MGMT_MAC gives, octet 0 lowest. -/
def mgmtLinkLocal (mac : Nat) : Nat :=
  let m := fun (i : Nat) => octet mac i
  ofOctets ([0xFE, 0x80, 0, 0, 0, 0, 0, 0, m 0 ^^^ 2, m 1, m 2, 0xFF, 0xFE, m 3, m 4, m 5].map (BitVec.ofNat 8))

/-- An IPv6 address of Carand's. -/
def State.ownIpv6 (s : State) (a : Nat) : Bool :=
  (a != 0 && a == s.rd O.IPV6_ADDR) || a == mgmtLinkLocal (s.rd O.MGMT_MAC)

/-- A datagram to an address and a port is one to Carand's JOT port (R75, R76). -/
def State.ownPort (s : State) (addr port : Nat) : Bool := (s.ownIpv4 addr || s.ownIpv6 addr) && port == s.rd O.UDP_PORT

/-- A requester's frame is addressed to Carand: its node ID (R65), and on UDP its port and an address of its own. -/
def State.addressed (s : State) (r : Req) : Bool :=
  match r.tr with
  | .csr => true
  | .can => r.dest == s.rd O.NODE_ID
  | .udp => r.dest == s.rd O.NODE_ID && s.ownPort r.addr r.port

/-- A requester can reach the dictionary: its transport carries its frames, its SOURCE is valid and it addresses Carand, or it is a hart
that runs. -/
def State.reaches (s : State) (r : Req) : Bool :=
  match r.tr with
  | .csr => s.hartRuns r.src
  | _ => s.carries r.tr && nodeValid r.src && s.addressed r

/-- A frame that does not reach the dictionary: where its transport carries it, it is ignored or dropped, and counted (R65, R76). -/
def State.turnedAway (s : State) (r : Req) : State :=
  if !s.carries r.tr then s
  else match r.tr with
    | .can => s.bump O.CAN_IGNORED
    | .udp => s.bump O.MGMT_DROPPED
    | .csr => s

/-- A PDU of a client is accepted: CAN_RX or UDP_RX counts it; a UDP client is heard of (R74). -/
def State.pduIn (s : State) (r : Req) : State :=
  match r.tr with
  | .can => s.bump O.CAN_RX
  | .udp => (s.bump O.UDP_RX).onJot (fun j => { j with
      clients := j.clients.filter (fun c => c.1 != reqWho r) ++ [(reqWho r, s.now)] })
  | .csr => s

/-- Whose transfer a PDU belongs to (R71, R77): requester and TAG, whatever it was addressed to. -/
def reqTag (r : Req) : Req := { r with dest := 0, port := 0, addr := 0 }

/-- The open transfer of a requester and tag. -/
def State.xferOf (s : State) (r : Req) : Option JotXfer := s.jot.xfers.find? (fun x => reqTag x.req == reqTag r)

/-- A transfer is gone. -/
def State.xferDrop (s : State) (r : Req) : State :=
  s.onJot (fun j => { j with xfers := j.xfers.filter (fun x => reqTag x.req != reqTag r) })

/-- A transfer changed. -/
def State.onXfer (s : State) (r : Req) (f : JotXfer → JotXfer) : State :=
  s.onJot (fun j => { j with xfers := j.xfers.map (fun x => if reqTag x.req = reqTag r then f x else x) })

/-- Carand ends an open transfer with an abort (R68, R71). -/
def State.xferAbort (s : State) (x : JotXfer) (a : Abort) : State :=
  (s.xferDrop x.req).refuseReq x.req (if x.write then 0x04 else 0x03) x.index x.sub a

/-- A request arrives: the session's holder is heard of (R81), and an open transfer of the same SOURCE and TAG ends (R71). -/
def State.reqIn (s : State) (r : Req) : State :=
  let s1 := s.pduIn r
  let s2 := if s1.holdsSvc r then s1.onJot (fun j => { j with svc := { j.svc with lastReq := s.now } }) else s1
  match s2.xferOf r with
  | some x => s2.xferAbort x .tagReused
  | none => s2

/-- A request that reaches the dictionary is served by `f`; another one is turned away. -/
def State.request (s : State) (r : Req) (f : State → State) : State := if s.reaches r then f (s.reqIn r) else s.turnedAway r

/-- A JOT request: as `request`, from a JOT transport. -/
def State.jotRequest (s : State) (r : Req) (f : State → State) : State := if r.tr = .csr then s else s.request r f

/-- COUNT of a request is refused (R67). -/
def badCount (count present : Nat) (need : Option Nat) : Bool :=
  decide (56 < count ∨ present < count) || (match need with
    | some n => count != n
    | none => false)

/-- A write by a requester as one command: expedited, or with more octets than a single PDU or CSR cell takes the end of such a transfer. -/
def State.writeBy (s : State) (r : Req) (k len v : Nat) : State :=
  s.request r (fun s => s.writeObj r (decide ((if r.tr = .csr then 64 else 56) < len)) (k / 256) (k % 256) len (v % 2 ^ (8 * len)))

/-- A write whose content comes decoded: checked as a write of `len` octets, carried out by `f`, and answered. -/
def State.writeOp (s : State) (r : Req) (k len : Nat) (f : State → Wrote) : State :=
  s.request r (fun s =>
    let seg : Bool := decide ((if r.tr = .csr then 64 else 56) < len)
    match s.writeCheck r (k / 256) (k % 256) len with
    | .error a => s.endWrite r seg (k / 256) (k % 256) (some a)
    | .ok _ => (f s).ends r seg (k / 256) (k % 256))

/-! ## Expedited transfers (R67) -/

/-- A READ served: its response, or its refusal. -/
def State.serveRead (s : State) (r : Req) (shadow : Bool) (index sub count present : Nat) : State :=
  if badCount count present (some 0) then s.refuseReq r 0x01 index sub .badCount
  else match s.readCheck r index sub with
    | .error a => s.refuseReq r 0x01 index sub a
    | .ok d =>
      let x := s.readObj r index sub d shadow
      if 56 < x.1 then s.refuseReq r 0x01 index sub .useSegmented
      else (s.event 9).respond r 0x01 index sub x.1 x.2

/-- The node that a READ is for: a broadcast, DEST 0, is accepted for an object at index 0x1000 only (R65). -/
def State.readFor (s : State) (r : Req) (index : Nat) : Req :=
  if r.dest = 0 ∧ index = 0x1000 then { r with dest := s.rd O.NODE_ID } else r

/-- JOT_READ: a broadcast of another object is ignored and counted (R65). -/
def execJotRead (t : Tick) (r : Req) (shadow : Bool) (index sub count present : Nat) (s : State) :
    Host.Outcome State Fault Refusal :=
  let s1 := s.tickTo t
  .next (s1.jotRequest (s1.readFor r index) (fun s => s.serveRead r shadow index sub count present))

/-- JOT_WRITE. -/
def execJotWrite (t : Tick) (r : Req) (index sub count present val : Nat) (s : State) : Host.Outcome State Fault Refusal :=
  .next ((s.tickTo t).jotRequest r (fun s =>
    if badCount count present none then s.refuseReq r 0x02 index sub .badCount
    else s.writeObj r false index sub count (val % 2 ^ (8 * count))))

/-- JOT_UNKNOWN_COMMAND: a command code that Table 2.7 does not name for a REQ is refused. -/
def execJotUnknownCommand (t : Tick) (r : Req) (cmd index sub : Nat) (s : State) : Host.Outcome State Fault Refusal :=
  let s1 := s.tickTo t
  .next (if [0x01, 0x02, 0x03, 0x04, 0x10, 0x11, 0x12].contains cmd then s1
    else s1.jotRequest r (fun s => s.refuseReq r cmd index sub .badCommand))

/-! ## Segmented transfers (R68 to R72) -/

/-- SEG_SIZE of a transport (R66). -/
def segSize (tr : Transport) : Nat := if tr = .udp then 1408 else 56

/-- BLOCK_SIZE of a transport. -/
def blockSize (tr : Transport) : Nat := if tr = .udp then 8 else 16

/-- The segments of a transfer: one, empty, where it carries no octet. -/
def JotXfer.count (x : JotXfer) : Nat := max 1 (ceilDiv x.total x.seg)

/-- The octets of segment `n`. -/
def JotXfer.segLen (x : JotXfer) (n : Nat) : Nat := min x.seg (x.total - n * x.seg)

/-- One past the last segment of the current block. -/
def JotXfer.blockEnd (x : JotXfer) : Nat := min (x.base + x.block) x.count

/-- Open segmented transfers of a transport. -/
def State.openXfers (s : State) (tr : Transport) : Nat := (s.jot.xfers.filter (fun x => x.req.tr == tr)).length

/-- Segment `n` of a read is sent. -/
def State.sendSeg (s : State) (x : JotXfer) (n : Nat) : State :=
  s.sends x.req.tr (s.pdu x.req 4 (if n + 1 = x.count then 0x203 else 0x03) x.index x.sub n (x.segLen n)
    (bits x.data (8 * n * x.seg) (8 * x.segLen n)))

/-- The block of a read that begins at segment `n` is sent. -/
def State.sendBlock (s : State) (x : JotXfer) (n : Nat) : State :=
  let y := { x with base := n }
  (((upFrom n (y.blockEnd - n)).foldl (fun s k => s.sendSeg y k) s).onXfer x.req (fun z =>
    { z with base := n, next := y.blockEnd, progressAt := if z.base < n then s.now else z.progressAt }))

/-- A transfer opens. -/
def State.openXfer (s : State) (x : JotXfer) : State := s.onJot (fun j => { j with xfers := j.xfers ++ [x] })

/-- JOT_READ_SEG served: the total length and the block sizes, then the first block. -/
def State.serveReadSeg (s : State) (r : Req) (shadow : Bool) (index sub count present : Nat) : State :=
  if badCount count present (some 0) then s.refuseReq r 0x03 index sub .badCount
  else if 16 ≤ s.openXfers r.tr then s.refuseReq r 0x03 index sub .tooManyTransfers
  else match s.readCheck r index sub with
    | .error a => s.refuseReq r 0x03 index sub a
    | .ok d =>
      let v := s.readObj r index sub d shadow
      let x : JotXfer := { req := r, write := false, index := index, sub := sub, total := v.1, seg := segSize r.tr,
                           block := blockSize r.tr, base := 0, next := 0, data := v.2, progressAt := s.now }
      (((s.event 9).respond r 0x03 index sub 7 (v.1 + x.seg * 2 ^ 32 + x.block * 2 ^ 48)).openXfer x).sendBlock x 0

/-- JOT_READ_SEG. -/
def execJotReadSeg (t : Tick) (r : Req) (shadow : Bool) (index sub count present : Nat) (s : State) :
    Host.Outcome State Fault Refusal :=
  .next ((s.tickTo t).jotRequest r (fun s => s.serveReadSeg r shadow index sub count present))

/-- JOT_WRITE_SEG served: judged against the object at once (R69). -/
def State.serveWriteSeg (s : State) (r : Req) (index sub count present total : Nat) : State :=
  if badCount count present (some 4) then s.refuseReq r 0x04 index sub .badCount
  else if 16 ≤ s.openXfers r.tr then s.refuseReq r 0x04 index sub .tooManyTransfers
  else match s.writeCheck r index sub total with
    | .error a => s.refuseReq r 0x04 index sub a
    | .ok _ =>
      let x : JotXfer := { req := r, write := true, index := index, sub := sub, total := total, seg := segSize r.tr,
                           block := blockSize r.tr, base := 0, next := 0, data := 0, progressAt := s.now }
      ((s.event 9).respond r 0x04 index sub 3 (x.seg + x.block * 2 ^ 16)).openXfer x

/-- JOT_WRITE_SEG. -/
def execJotWriteSeg (t : Tick) (r : Req) (index sub count present total : Nat) (s : State) : Host.Outcome State Fault Refusal :=
  .next ((s.tickTo t).jotRequest r (fun s => s.serveWriteSeg r index sub count present (total % 2 ^ 32)))

/-- A BLKACK with the next segment expected, which the next block starts at. -/
def State.ackBlock (s : State) (x : JotXfer) : State :=
  (s.onXfer x.req (fun y => { y with base := x.next })).sends x.req.tr (s.pdu x.req 5 0x04 x.index x.sub x.next 0 0)

/-- A segment of an open write: outside the block, of a wrong length or with a wrong LAST it ends the transfer; not the one expected it is
answered by BLKACK; else it is taken, a block or the transfer may be complete, and the last one stores the object (R69). -/
def State.takeSeg (s : State) (x : JotXfer) (num : Nat) (last : Bool) (len val : Nat) : State :=
  if num < x.base ∨ x.blockEnd ≤ num then s.xferAbort x .badSegment
  else if len ≠ x.segLen num then s.xferAbort x .badCount
  else if last ≠ (num + 1 == x.count) then s.xferAbort x .badCommand
  else if num ≠ x.next then s.ackBlock x
  else
    let y := { x with next := num + 1, data := x.data + val % 2 ^ (8 * len) * 2 ^ (8 * num * x.seg), progressAt := s.now }
    let s1 := s.onXfer x.req (fun _ => y)
    if last then ((s1.ackBlock y).xferDrop x.req).writeObj x.req true x.index x.sub x.total y.data
    else if y.next = x.base + x.block then s1.ackBlock y
    else s1

/-- A SEG or BLKACK that belongs to no transfer, or to one of the other direction, which ends (R89, BAD_COMMAND). -/
def State.strayPdu (s : State) (r : Req) (cmd index sub : Nat) : State :=
  match s.xferOf r with
  | some x => s.xferAbort x .badCommand
  | none => s.refuseReq r cmd index sub .badCommand

/-- A PDU of a client that is not a request. -/
def State.clientPdu (s : State) (r : Req) (f : State → State) : State :=
  if r.tr = .csr then s else if s.reaches r then f (s.pduIn r) else s.turnedAway r

/-- JOT_SEG. -/
def execJotSeg (t : Tick) (r : Req) (cmd index sub num : Nat) (last : Bool) (len val : Nat) (s : State) :
    Host.Outcome State Fault Refusal :=
  .next ((s.tickTo t).clientPdu r (fun s => match s.xferOf r with
    | some x => if x.write then s.takeSeg x num last len val else s.strayPdu r cmd index sub
    | none => s.strayPdu r cmd index sub))

/-- The client's BLKACK of an open read: outside the block it ends the transfer; past the final segment the read is complete; else the
next block is sent from the segment it names. -/
def State.takeAck (s : State) (x : JotXfer) (num : Nat) : State :=
  if num < x.base ∨ x.next < num then s.xferAbort x .badSegment
  else if num = x.count then s.xferDrop x.req
  else s.sendBlock x num

/-- JOT_BLKACK. -/
def execJotBlkack (t : Tick) (r : Req) (cmd index sub num : Nat) (s : State) : Host.Outcome State Fault Refusal :=
  .next ((s.tickTo t).clientPdu r (fun s => match s.xferOf r with
    | some x => if x.write then s.strayPdu r cmd index sub else s.takeAck x num
    | none => s.strayPdu r cmd index sub))

/-- JOT_ABORT_RX: the transfer ends without a response (R72). -/
def execJotAbortRx (t : Tick) (r : Req) (s : State) : Host.Outcome State Fault Refusal :=
  .next ((s.tickTo t).clientPdu r (fun s => (s.bump O.ABORTS_RECEIVED).xferDrop r))

/-- JOT_TRANSFER_TIMEOUT: no progress for 500 ms (R71). -/
def execJotTransferTimeout (t : Tick) (r : Req) (s : State) : Host.Outcome State Fault Refusal :=
  let s1 := s.tickTo t
  .next (match s1.xferOf r with
    | some x => if x.progressAt + 500 * msTk ≤ s1.now then s1.xferAbort x .timeout else s1
    | none => s1)

/-! ## Service sessions (R78 to R81) -/

/-- SVC_OPEN. Where a service command is refused, the log shows the INDEX and SUBINDEX 0 that such a PDU carries (DESIGN CHOICE,
notes/assumptions/15.md). -/
def execSvcOpen (t : Tick) (r : Req) (count present : Nat) (s : State) : Host.Outcome State Fault Refusal :=
  .next ((s.tickTo t).jotRequest r (fun s =>
    if badCount count present (some 0) then s.refuseReq r 0x10 0 0 .badCount
    else match s.svcOpen r with
      | .ok (c, s1) => (s1.event 9).respond r 0x10 0 0 16 c
      | .error a => s.refuseReq r 0x10 0 0 a))

/-- SVC_PROVE. -/
def execSvcProve (t : Tick) (r : Req) (count present proof : Nat) (s : State) : Host.Outcome State Fault Refusal :=
  .next ((s.tickTo t).jotRequest r (fun s =>
    if badCount count present (some 16) then s.refuseReq r 0x11 0 0 .badCount
    else match s.svcProve r (proof % 2 ^ 128) with
      | .done s1 => (s1.event 9).respond r 0x11 0 0 0 0
      | .later s1 => s1
      | .no s1 a => s1.refuseReq r 0x11 0 0 a))

/-- SVC_CLOSE. -/
def execSvcClose (t : Tick) (r : Req) (count present : Nat) (s : State) : Host.Outcome State Fault Refusal :=
  .next ((s.tickTo t).jotRequest r (fun s =>
    if badCount count present (some 0) then s.refuseReq r 0x12 0 0 .badCount
    else match s.svcClose r with
      | .ok s1 => (s1.event 9).respond r 0x12 0 0 0 0
      | .error a => s.refuseReq r 0x12 0 0 a))

/-- SVC_IDLE_TIMEOUT: SVC_IDLE_S without a request from the holder. -/
def execSvcIdleTimeout (t : Tick) (s : State) : Host.Outcome State Fault Refusal :=
  let s1 := s.tickTo t
  .next (if s1.jot.svc.holder.isSome ∧ s1.jot.svc.lastReq + s1.rd O.SVC_IDLE_S * secTk ≤ s1.now then s1.svcEnd else s1)

/-- SVC_LOCKOUT_EXPIRE. -/
def execSvcLockoutExpire (t : Tick) (s : State) : Host.Outcome State Fault Refusal :=
  let s1 := s.tickTo t
  .next (match s1.jot.svc.lockUntil with
    | some u => if u ≤ s1.now then s1.onJot (fun j => { j with svc := { j.svc with lockUntil := none } }) else s1
    | none => s1)

/-! ## Heartbeat (R74) -/

/-- The data of a heartbeat (Table 2.9). -/
def State.heartbeatData (s : State) : Nat :=
  let b := fun (c : Bool) (n : Nat) => if c then 2 ^ n else 0
  s.lifecycle + s.stage * 2 ^ 8 + b s.faultNLow 16 + b (bitAt (s.rd O.DEGRADED) 0) 17 + b s.jot.svc.holder.isSome 18 +
    (s.now - s.resetAt) / secTk % 2 ^ 32 * 2 ^ 32

/-- A heartbeat of a transport: FUNCTION 8, DEST 0, TAG 0. -/
def State.heartbeatTo (s : State) (tr : Transport) (host : Nat) : OutEvent :=
  .jot tr host (jotIdent 8 (s.rd O.NODE_ID) 0 0) (jotPdu tr 0x40 0x1000 0 8 8 s.heartbeatData)

/-- A heartbeat goes out on CAN FD and to every UDP client heard of within 60 s. -/
def State.heartbeat (s : State) : State :=
  let near := s.jot.clients.filter (fun c => decide (s.now ≤ c.2 + 60 * secTk))
  near.foldl (fun s c => s.sends .udp (s.heartbeatTo .udp c.1.host)) (s.sends .can (s.heartbeatTo .can 0))

/-- HEARTBEAT_TIMER: the period runs from the write of HEARTBEAT_MS. -/
def execHeartbeatTimer (t : Tick) (s : State) : Host.Outcome State Fault Refusal :=
  let s1 := s.tickTo t
  let p := s1.rd O.HEARTBEAT_MS * msTk
  .next (if p = 0 ∨ s1.now < s1.jot.heartbeatAt + p then s1
    else (s1.onJot (fun j => { j with heartbeatAt := j.heartbeatAt + p })).heartbeat)

/-! ## The CAN bus (R62, R65) -/

/-- A frame with this identifier is ignored and counted (R65). -/
def State.ignored (s : State) (ident : Nat) (readIdentity : Bool) : Bool :=
  !(identDest ident == s.rd O.NODE_ID || (identDest ident == 0 && identFn ident == 3 && readIdentity)) ||
    !nodeValid (identSrc ident) || !clientFunction (identFn ident)

/-- CAN_FRAME_IGNORED: classic frames and 11-bit identifiers are ignored without a count. -/
def execCanFrameIgnored (t : Tick) (fd ext : Bool) (ident : Nat) (readIdentity : Bool) (s : State) :
    Host.Outcome State Fault Refusal :=
  let s1 := s.tickTo t
  .next (if s1.carries .can ∧ fd ∧ ext ∧ s1.ignored ident readIdentity then s1.bump O.CAN_IGNORED else s1)

/-- A transport fails: its open transfers end without an abort, each logged under TRANSPORT_RESET (R71), and its service session ends (R81). -/
def State.transportDown (s : State) (tr : Transport) : State :=
  let gone := s.jot.xfers.filter (fun x => x.req.tr == tr)
  let s1 := gone.foldl (fun s x => s.logFault Abort.transportReset.code (recKey x.index x.sub) tr.code (if x.write then 1 else 0) x.req.src)
    (s.onJot (fun j => { j with xfers := j.xfers.filter (fun x => x.req.tr != tr) }))
  match s1.jot.svc.holder with
  | some h => if h.tr = tr then s1.svcEnd else s1
  | none => s1

/-- CAN_BUS_OFF. -/
def execCanBusOff (t : Tick) (s : State) : Host.Outcome State Fault Refusal :=
  let s1 := s.tickTo t
  .next (if s1.jot.busOff then s1
    else ((s1.onJot (fun j => { j with busOff := true })).bump O.CAN_BUSOFF).transportDown .can)

/-- CAN_BUS_OFF_RECOVERY. -/
def execCanBusOffRecovery (t : Tick) (s : State) : Host.Outcome State Fault Refusal :=
  .next ((s.tickTo t).onJot (fun j => { j with busOff := false }))

/-! ## The management port (R76) -/

/-- What a request asks for is an address of Carand's. -/
def State.asked (s : State) (ask : MgmtAsk) : Bool :=
  match ask with
  | .arp a => s.ownIpv4 a
  | .echo4 a _ => s.ownIpv4 a
  | .nd a => s.ownIpv6 a
  | .echo6 a _ => s.ownIpv6 a

/-- MGMT_ARP_ND_ECHO: answered for an address of Carand's, dropped and counted for another. -/
def execMgmtArpNdEcho (t : Tick) (ask : MgmtAsk) (s : State) : Host.Outcome State Fault Refusal :=
  let s1 := s.tickTo t
  .next (if !s1.carries .udp then s1
    else if s1.asked ask then s1.emit (.mgmtReply ask) else s1.bump O.MGMT_DROPPED)

/-- A frame of the management port is dropped (R76). -/
def State.mgmtDrops (s : State) (frame : MgmtFrame) : Bool :=
  match frame with
  | .foreign => true
  | .datagram addr port length word readIdentity =>
    !s.ownPort addr port || decide (length < 12) || decide (2 ^ 29 ≤ word) || s.ignored word readIdentity

/-- MGMT_FRAME_DROPPED. -/
def execMgmtFrameDropped (t : Tick) (frame : MgmtFrame) (s : State) : Host.Outcome State Fault Refusal :=
  let s1 := s.tickTo t
  .next (if s1.carries .udp ∧ s1.mgmtDrops frame then s1.bump O.MGMT_DROPPED else s1)

/-- MGMT_PORT_RESET. -/
def execMgmtPortReset (t : Tick) (s : State) : Host.Outcome State Fault Refusal :=
  .next ((s.tickTo t).transportDown .udp)

end Sys2Proof.Machine
end

