-- ==== Sys2Proof/Machine/CsrCmd.lean ====
section
/-!
DEFINITION. The core-side CSR window (02, §8): words, latches and staging, transfer cells, the access rules of Table 2.10; and the bus
errors of core accesses elsewhere (R37).
-/
namespace Sys2Proof.Machine

/-- A hart as a requester, at the active view or the shadow alias. -/
def hartAt (h : Nat) (shadow : Bool) : Req :=
  { tr := .csr, src := h, host := 0, tag := 0, dest := 0, port := 0, addr := if shadow then 1 else 0 }

/-- A hart as a requester. -/
def hartReq (h : Nat) : Req := hartAt h false

/-- The address of a word of an object's cell. -/
def wordAddr (shadow : Bool) (i sub word : Nat) : Nat := cellAddr shadow i sub + 4 * word

/-- The bytes an object takes in the window: its fixed length, or the most of a variable one. -/
def ObjDesc.size (d : ObjDesc) : Nat := d.ty.most

/-- An object longer than 64 octets stands in a transfer cell (R87). -/
def ObjDesc.long (d : ObjDesc) : Bool := decide (64 < d.size)

/-- A hart's latch and staged words. -/
def State.csrHart (s : State) (h : Nat) : CsrHart := lookD s.jot.csr h { latch := none, staged := [] }

/-- A hart's latch and staged words changed. -/
def State.onCsr (s : State) (h : Nat) (f : CsrHart → CsrHart) : State :=
  s.onJot (fun j => { j with csr := modify j.csr h { latch := none, staged := [] } f })

/-- A bus error of a hart's access to a word of the window. -/
def State.csrError (s : State) (h : Nat) (write shadow : Bool) (i sub word : Nat) (a : Abort) : State :=
  s.refuseAt (hartReq h) (if write then 0x02 else 0x01) i sub (wordAddr shadow i sub word) a

/-- A hart's access to the window, served by `f`. -/
def State.csrAccess (s : State) (h : Nat) (f : State → State) : State := s.request (hartReq h) f

/-- The part of an object's cell that a read takes: its word, and the bit it begins at and the bits it has in the word or, of 64 bits, in
two words (Table 2.10). -/
structure CsrPart where
  word : Nat
  lo : Nat
  width : Nat
deriving DecidableEq, Repr

/-- A whole word. -/
def wordPart (word : Nat) : CsrPart := { word := word, lo := 0, width := 32 }

/-- What a read takes of the word or words from `p.word` on reaches its hart. -/
def State.csrGives (s : State) (h : Nat) (p : CsrPart) (v : Nat) : State := s.emit (.csrData h (bits v p.lo p.width))

/-! ## Reads (R83, R85) -/

/-- XFER_STATUS (Table 2.11). -/
def XferRun.status (c : XferRun) : Nat := c.seq * 2 ^ 16 + c.state * 2 ^ 12

/-- A word of a transfer cell. -/
def State.xferWord (s : State) (h i sub word : Nat) (d : ObjDesc) : Option Nat :=
  let c := s.xferCell h (recKey i sub)
  match word with
  | 0 => some (if d.access = .wo then 0 else (s.readObj (hartReq h) i sub d false).1)
  | 1 => some (c.buf % 2 ^ 32)
  | 2 => some (c.buf / 2 ^ 32)
  | 3 => some c.len
  | 4 => none
  | 5 => some (s.xferRun (recKey i sub)).status
  | 6 => some (s.xferRun (recKey i sub)).abort
  | _ => some 0

/-- A word of an object of up to 64 octets is read: word 0 of a longer one latches the rest, another comes from the latch where it holds
the same object. R85 says so of objects of up to 16 octets; that those of 17 to 64 octets are latched alike is a DESIGN CHOICE
(notes/assumptions/15.md). A read of 64 bits takes both words from the object at once (R61) and latches nothing. -/
def State.readWord (s : State) (h : Nat) (shadow : Bool) (i sub : Nat) (p : CsrPart) (d : ObjDesc) : State :=
  let k := recKey i sub
  let atShadow := shadow && d.access == .rws
  let x := s.readObj (hartReq h) i sub d shadow
  if p.width = 64 then s.csrGives h p (x.2 >>> (32 * p.word))
  else if p.word = 0 then
    (if 4 < x.1 then s.onCsr h (fun c => { c with latch := some (k, atShadow, x.2) }) else s).csrGives h p x.2
  else
    let v := match (s.csrHart h).latch with
      | some (k', al, w) => if k' = k ∧ al = atShadow then w else x.2
      | none => x.2
    s.csrGives h p (bits v (32 * p.word) 32)

/-- A read of SVC_CHALLENGE issues a new challenge (Table 2.16). -/
def State.readChallenge (s : State) (h : Nat) (p : CsrPart) : State :=
  match s.svcOpen (hartReq h) with
  | .ok (c, s1) => (s1.onCsr h (fun x => { x with latch := some (O.SVC_CHALLENGE, false, c) })).csrGives h p c
  | .error a => s.csrError h false false 0x1103 6 0 a

/-- A hart reads a part of a cell. -/
def State.csrRead (s : State) (h : Nat) (shadow : Bool) (i sub : Nat) (p : CsrPart) : State :=
  match findObj i sub with
  | .error a => s.csrError h false shadow i sub p.word a
  | .ok d =>
    if d.long then (match s.xferWord h i sub p.word d with
      | some v => s.csrGives h p v
      | none => s.csrError h false shadow i sub p.word .readWo)
    else match s.readCheck (hartReq h) i sub with
      | .error a => s.csrError h false shadow i sub p.word a
      | .ok d =>
        if recKey i sub = O.SVC_CHALLENGE ∧ p.word = 0 then s.readChallenge h p
        else s.readWord h shadow i sub p d

/-- CSR_READ_LATCH. -/
def execCsrReadLatch (t : Tick) (hart : Fin 16) (shadow : Bool) (index sub word : Nat) (s : State) : Host.Outcome State Fault Refusal :=
  .next ((s.tickTo t).csrAccess hart.val (fun s => s.csrRead hart.val shadow index sub (wordPart word)))

/-- CSR_SVC_CHALLENGE. -/
def execCsrSvcChallenge (t : Tick) (hart : Fin 16) (s : State) : Host.Outcome State Fault Refusal :=
  .next ((s.tickTo t).csrAccess hart.val (fun s => s.readChallenge hart.val (wordPart 0)))

/-! ## Transfer cells (R87, R88) -/

/-- CONTROL of a transfer cell: 1 READ, 2 WRITE, another value out of range; any write of it is refused while a transfer of the object by
any hart is BUSY. The transfer takes the hart's buffer and length as they stand now: a later write of them is for the next transfer
(DESIGN CHOICE, notes/assumptions/15.md). -/
def State.xferControl (s : State) (h : Nat) (shadow : Bool) (i sub val : Nat) : State :=
  let k := recKey i sub
  let c := s.xferCell h k
  let m := s.xferRun k
  if m.state = 1 then s.csrError h true shadow i sub 4 .transferBusy
  else if val ≠ 1 ∧ val ≠ 2 then s.csrError h true shadow i sub 4 .valueRange
  else s.setMove { m.toState 1 with hart := h, write := val == 2, shadow := shadow, buf := c.buf, len := c.len }

/-- A write to a word of a transfer cell. The low three bits of BUF_LO are dropped, so that the buffer is 8-octet aligned, and XFER_ABORT
and the reserved words take no write, as LENGTH does (DESIGN CHOICE, notes/assumptions/15.md). -/
def State.xferPut (s : State) (h : Nat) (shadow : Bool) (i sub word val : Nat) : State :=
  let c := s.xferCell h (recKey i sub)
  let v := val % 2 ^ 32
  match word with
  | 1 => s.setXfer { c with buf := c.buf / 2 ^ 32 * 2 ^ 32 + v / 8 * 8 }
  | 2 => s.setXfer { c with buf := c.buf % 2 ^ 32 + v % 256 * 2 ^ 32 }
  | 3 => s.setXfer { c with len := v }
  | 4 => s.xferControl h shadow i sub v
  | 5 => if v / 2 ^ 16 = (s.xferRun (recKey i sub)).seq then s else s.csrError h true shadow i sub word .seqStale
  | _ => s.csrError h true shadow i sub word .writeRo

/-- A buffer lies wholly in the brine pool or in fitted DRAM. -/
def State.bufferGood (s : State) (a n : Nat) : Bool :=
  n == 0 || (decide (0x100000000 ≤ a) && decide (a + n ≤ 0x104000000)) ||
  [0, 1].any (fun c => decide (chanBase c ≤ a) && decide (a + n ≤ chanBase c + s.fittedBytes c))

/-- A READ transfer ends: the object is in the buffer, or the transfer has failed with nothing copied. -/
def State.xferRead (s : State) (c : XferRun) : State :=
  let r := hartReq c.hart
  match s.readCheck r (c.key / 256) (c.key % 256) with
  | .error a => s.xferEnds c.key (some a)
  | .ok d =>
    let x := s.readObj r (c.key / 256) (c.key % 256) d c.shadow
    if c.len < x.1 then s.xferEnds c.key (some .tooLong)
    else if !s.bufferGood c.buf c.len then s.xferEnds c.key (some .badBuffer)
    else (s.blockStore 39 c.buf (octets x.2 x.1)).xferEnds c.key none

/-- A WRITE transfer ends: the object takes the buffer's octets as one write. -/
def State.xferWrite (s : State) (c : XferRun) : State :=
  let r := hartReq c.hart
  match s.writeCheck r (c.key / 256) (c.key % 256) c.len with
  | .error a => s.xferEnds c.key (some a)
  | .ok _ =>
    if !s.bufferGood c.buf c.len then s.xferEnds c.key (some .badBuffer)
    else (s.blockRead 39 c.buf c.len).writeObj r true (c.key / 256) (c.key % 256) c.len (s.memRead c.buf c.len)

/-- XFER_COMPLETE of a BUSY transfer. -/
def execXferComplete (t : Tick) (hart : Fin 16) (index sub : Nat) (s : State) : Host.Outcome State Fault Refusal :=
  let s1 := s.tickTo t
  let c := s1.xferRun (recKey index sub)
  .next (if c.state ≠ 1 ∨ c.hart ≠ hart.val then s1 else if c.write then s1.xferWrite c else s1.xferRead c)

/-! ## Writes (R83, R85) -/

/-- A hart writes a word other than word 0 of a cell: a transfer cell's word, or a staged word of a multi-word object. -/
def State.csrStage (s : State) (h : Nat) (shadow : Bool) (i sub word val : Nat) : State :=
  match findObj i sub with
  | .error a => s.csrError h true shadow i sub word a
  | .ok d =>
    if d.long then s.xferPut h shadow i sub word val
    else match s.writeCheck (hartReq h) i sub d.size with
      | .error a => s.csrError h true shadow i sub word a
      | .ok _ =>
        if d.size ≤ 4 * word then s.csrError h true shadow i sub word .writeRo
        else
          let k := recKey i sub
          s.onCsr h (fun c => { c with
            staged := c.staged.filter (fun e => !(e.1 == k && e.2.1 == word)) ++ [(k, word, val % 2 ^ 32)] })

/-- The words of an object from word 0, `val`, and those staged; a word not staged is open (DESIGN CHOICE, notes/assumptions/15.md). -/
def State.gather (s : State) (h k words val : Nat) : Nat × State :=
  let staged := (s.csrHart h).staged
  (upFrom 1 (words - 1)).foldl (fun (a : Nat × State) w =>
    match staged.find? (fun e => e.1 == k && e.2.1 == w) with
    | some e => (a.1 + e.2.2 * 2 ^ (32 * w), a.2)
    | none =>
      let (f, s1) := a.2.free
      (a.1 + f % 2 ^ 32 * 2 ^ (32 * w), s1)) (val % 2 ^ 32, s)

/-- A hart writes word 0 of a cell: the whole object is written, with the words that the hart has staged (R85). Bits of the word above an
object shorter than a word are dropped before the value is judged, and a refused write too uses the staged words up (DESIGN CHOICES,
notes/assumptions/15.md). -/
def State.csrWord0 (s : State) (h : Nat) (shadow : Bool) (i sub val : Nat) : State :=
  match findObj i sub with
  | .error a => s.csrError h true shadow i sub 0 a
  | .ok d =>
    if d.long then s.csrError h true shadow i sub 0 .writeRo
    else
      let k := recKey i sub
      let (v, s1) := s.gather h k (ceilDiv d.size 4) val
      (s1.onCsr h (fun c => { c with staged := c.staged.filter (fun e => e.1 != k) })).writeObj (hartAt h shadow) false i sub d.size
        (v % 2 ^ (8 * d.size))

/-- CSR_WORD_STAGE. -/
def execCsrWordStage (t : Tick) (hart : Fin 16) (shadow : Bool) (index sub word val : Nat) (s : State) :
    Host.Outcome State Fault Refusal :=
  .next ((s.tickTo t).csrAccess hart.val (fun s =>
    if word = 0 then s.csrWord0 hart.val shadow index sub val else s.csrStage hart.val shadow index sub word val))

/-- CSR_WORD0_COMMIT. -/
def execCsrWord0Commit (t : Tick) (hart : Fin 16) (shadow : Bool) (index sub val : Nat) (s : State) : Host.Outcome State Fault Refusal :=
  .next ((s.tickTo t).csrAccess hart.val (fun s => s.csrWord0 hart.val shadow index sub val))

/-- XFER_CONTROL_READ: word 4 of a cell, which is CONTROL of a long object's, written with 1. -/
def execXferControlRead (t : Tick) (hart : Fin 16) (shadow : Bool) (index sub : Nat) (s : State) : Host.Outcome State Fault Refusal :=
  .next ((s.tickTo t).csrAccess hart.val (fun s => s.csrStage hart.val shadow index sub 4 1))

/-- XFER_CONTROL_WRITE. -/
def execXferControlWrite (t : Tick) (hart : Fin 16) (shadow : Bool) (index sub : Nat) (s : State) : Host.Outcome State Fault Refusal :=
  .next ((s.tickTo t).csrAccess hart.val (fun s => s.csrStage hart.val shadow index sub 4 2))

/-- CSR_SVC_PROOF. -/
def execCsrSvcProof (t : Tick) (hart : Fin 16) (proof : Nat) (s : State) : Host.Outcome State Fault Refusal :=
  .next ((s.tickTo t).csrAccess hart.val (fun s => s.writeObj (hartReq hart.val) false 0x1103 7 16 (proof % 2 ^ 128)))

/-- CSR_SVC_CLOSE. -/
def execCsrSvcClose (t : Tick) (hart : Fin 16) (val : Nat) (s : State) : Host.Outcome State Fault Refusal :=
  .next ((s.tickTo t).csrAccess hart.val (fun s => s.writeObj (hartReq hart.val) false 0x1103 8 1 (val % 256)))

/-! ## Access faults (R82, R84, R37) -/

/-- Index, sub-index and word of an address of the window (R82). -/
def csrPlace (addr : Nat) : Nat × Nat × Nat :=
  let a := addr - 0x400000000
  (a % 2 ^ 30 / 0x4000, a % 0x4000 / 0x40, a % 0x40 / 4)

/-- The bus error that Table 2.10 gives an access of `width` bits to an address of the window; none where it is served. Where several rows
of the table apply, the first of this order is given: a reserved address, UNALIGNED, NARROW_WRITE, no object, BAD_WIDTH, then the
object's own refusals (DESIGN CHOICE, notes/assumptions/15.md). -/
def State.csrFault (s : State) (h addr width : Nat) (write : Bool) : Option Abort :=
  let (i, sub, word) := csrPlace addr
  if 0x480000000 ≤ addr then some .noObject
  else if addr % (width / 8) ≠ 0 then some .unaligned
  else if write ∧ width < 32 then some .narrowWrite
  else match findObj i sub with
    | .error e => some e
    | .ok d =>
      if width = 64 ∧ !d.mark64 then some .badWidth
      else if d.long then
        (if write ∧ (word = 0 ∨ 5 < word) then some .writeRo else if !write ∧ word = 4 then some .readWo else none)
      else if write then (match s.writeCheck (hartReq h) i sub d.size with
        | .error e => some e
        | .ok _ => if d.size ≤ 4 * word then some .writeRo else none)
      else match s.readCheck (hartReq h) i sub with
        | .error e => some e
        | .ok _ => none

/-- An access of the window that Table 2.10 serves: a read of 8 to 64 bits, a write of a word, a write of 64 bits to a whole object. -/
def State.csrServe (s : State) (h addr width val : Nat) (write : Bool) : State :=
  let (i, sub, word) := csrPlace addr
  let shadow : Bool := decide (0x440000000 ≤ addr)
  if !write then s.csrRead h shadow i sub { word := word, lo := 8 * (addr % 4), width := width }
  else if width = 64 then s.writeObj (hartAt h shadow) false i sub 8 (val % 2 ^ 64)
  else if word = 0 then s.csrWord0 h shadow i sub val
  else s.csrStage h shadow i sub word val

/-- CSR_ACCESS_FAULT: an access that Table 2.10 refuses ends in a bus error, logged with its code; another is served. -/
def execCsrAccessFault (t : Tick) (hart : Fin 16) (addr width : Nat) (write : Bool) (val : Nat) (s : State) :
    Host.Outcome State Fault Refusal :=
  .next ((s.tickTo t).csrAccess hart.val (fun s =>
    if addr < 0x400000000 ∨ 0x500000000 ≤ addr then s
    else match s.csrFault hart.val addr width write with
      | some a => s.refuseAt (hartReq hart.val) (if write then 0x02 else 0x01) (csrPlace addr).1 (csrPlace addr).2.1 addr a
      | none => s.csrServe hart.val addr width val write))

end Sys2Proof.Machine
end

