-- ==== Sys2Proof/Machine/TaskCmd.lean ====
section
/-!
DEFINITION. Core commands that reach into other blocks: DONE, FORWARD and FREE at the task port (R395, R402), the reads of memory,
caches and a member's own storage (R378, R304, R409, R145), and the debugger (R380, Table 15.5).
-/
namespace Sys2Proof.Machine

/-! ## The task port (R395, R402) -/

/-- A buffer freed: the exception queue's space is free again (R351), and a poison range nobody holds any more (R317). -/
def State.bufferFree (s : State) (addr : Nat) : State := (s.onEth (fun e => { e with excBufs := del e.excBufs addr })).poisonSweep

/-- The frame of a hitch item that was not forwarded is dropped (R402); one that an earlier service of the item forwarded no longer waits. -/
def State.unforwarded (s : State) (x : Service1) : State :=
  match x.item.frame with
  | some n =>
    let waits : Bool := match s.findFrame n with
      | some (_, _, f) => f.waits
      | none => false
    if x.forwarded || !waits then s else s.dropHitchFrame n
  | none => s

/-- An item held in service by a hart. -/
def State.heldItem (s : State) (h seq : Nat) : Option Service1 := s.cores.serving.find? (fun x => x.hart == h && x.item.seq == seq)

/-- DONE of a running hart: of an item it holds, or a bus error logged as VALUE_RANGE (R395). -/
def State.taskDone (s : State) (h seq : Nat) (keep : Bool) : State :=
  match s.heldItem h seq with
  | none => (s.bump O.DONE_INVALID).coreError .valueRange h 0x30000010 1
  | some x =>
    let s1 := (s.itemDone x keep).unforwarded x
    if keep ∨ x.item.source = 0 then s1.poisonSweep else s1.bufferFree x.item.addr

/-- TASK_DONE. -/
def execTaskDone (t : Tick) (hart : Fin 16) (seq : Nat) (keep : Bool) (s : State) : Host.Outcome State Fault Refusal :=
  let s1 := s.tickTo t
  .next (if s1.hartRuns hart.val then s1.taskDone hart.val (seq % 2 ^ 32) keep else s1)

/-- FORWARD: the frame of a held hitch item goes on to the sluice (R402); discarded while the hart holds a cancelled item (R398). -/
def State.taskForward (s : State) (h seq : Nat) : State :=
  if s.heldCancelled h then s.bump O.DISCARDED_AFTER_CANCEL
  else match s.heldItem h seq with
  | none => s
  | some x =>
    match x.item.frame with
    | none => s
    | some n =>
      let s1 := s.onCores (fun c => { c with
        serving := c.serving.map (fun y => if y.item.seq = seq then { y with forwarded := true } else y) })
      match s1.findFrame n with
      | some (p, q, _) => s1.onFrame p q n (fun f => { f with waits := false })
      | none => s1

/-- TASK_FORWARD. -/
def execTaskForward (t : Tick) (hart : Fin 16) (seq : Nat) (s : State) : Host.Outcome State Fault Refusal :=
  let s1 := s.tickTo t
  .next (if s1.hartRuns hart.val then s1.taskForward hart.val (seq % 2 ^ 32) else s1)

/-- FREE of a kept buffer: it goes back to its pool; another address has no effect (R395). -/
def State.taskFree (s : State) (addr : Nat) : State :=
  if s.cores.kept.any (fun b => b.1 == addr) then
    (s.onCores (fun c => { c with kept := c.kept.filter (fun b => b.1 != addr) })).bufferFree addr
  else s

/-- TASK_FREE. -/
def execTaskFree (t : Tick) (hart : Fin 16) (addr : Nat) (s : State) : Host.Outcome State Fault Refusal :=
  let s1 := s.tickTo t
  .next (if s1.hartRuns hart.val then s1.taskFree (addr % 2 ^ 40) else s1)

/-! ## Reads (R409, R378, R304, R145) -/

/-- A read of a hart meets a bad dirty line of its L2: a bus error until the line is written again (R378). -/
def State.hartRead (s : State) (h source addr flips : Nat) (use : ReadUse) : State :=
  if s.cores.badLines.contains (addr / 64) then s.emit (.busError h addr) else s.readMem source addr flips use

/-- A member whose own storage reports an uncorrectable error is retired at once, with the work it holds (R145; cause RETIRE_ECC); one under test
fails it with OWN_STORAGE_UE (R479). -/
def State.ownLost (s : State) (id : Nat) : State :=
  if poolOf id = 0 ∨ s.retired id then s
  else if s.ctr.tests.any (fun x => x.member == id && !x.judged) then s.testVerdict id 6
  else
    let s1 := s.retireMember id ((s.logicalOf id).getD noId) 0x02 0
    if id < 0x400 then s1.laneOut (id - 0x100) 9 .window
    else if id < 0x420 then s1.engineLost (id - 0x400) 4
    else s1.hartStop (id - 0x420) 6

/-- An uncorrectable error in a core cache, by its line (R378). -/
def State.lineLost (s : State) (h addr : Nat) (l : CacheLine) : State :=
  let s1 := s.bump O.CACHE_UNCORRECTED
  match l with
  | .clean => s1
  | .dirtyL1 => (s1.emit (.hartFault h addr)).ownLost (0x420 + h)
  | .dirtyL2 => (s1.onCores (fun c => { c with
      badLines := if c.badLines.contains (addr / 64) then c.badLines else c.badLines ++ [addr / 64] })).emit (.busError h addr)

/-- An uncorrectable error in an entry of the key cache: dropped and fetched again, the jobs queued on it in KEY_WAIT (R304). -/
def State.keyCacheLost (s : State) (slot : Nat) : State :=
  if !s.cached slot then s
  else
    let ver := (s.keyNote slot).ver
    ((s.cph.jobs.filter (fun j => j.slot == slot && j.ver == ver && j.state == 0)).foldl (fun s j => s.setJob { j with state := 1, key := [] })
      ((s.bump O.CACHE_ECC).onCph (fun c => { c with
        cache := c.cache.filter (fun k => !(k.slot == slot && k.ver == ver)) }))).fetchKey slot

/-- MEMORY_READ; the storage of a cache or a member keeps the same code (R405). -/
def execMemoryRead (t : Tick) (source addr flips : Nat) (use : ReadUse) (s : State) : Host.Outcome State Fault Refusal :=
  let s1 := s.tickTo t
  .next (match use, (eccJudge false false flips).1 with
    | .cache _ _, .good => s1
    | .cache _ _, .corrected _ => s1.bump O.CACHE_CORRECTED
    | .cache h l, _ => s1.lineLost h.val addr l
    | .keyCache _, .good => s1
    | .keyCache _, .corrected _ => s1
    | .keyCache n, _ => s1.keyCacheLost n.val
    | .own _, .good => s1
    | .own _, .corrected _ => s1
    | .own id, _ => s1.ownLost id
    | .hart h, _ => s1.hartRead h.val source addr flips use
    | .block _, _ => s1.readMem source addr flips use
    | .sensor _, _ => s1.readMem source addr flips use)

/-! ## The debugger -/

/-- The JTAG debug module answers (Table 15.5): in MANUFACTURE, in PROVISIONED while a service session is open. -/
def State.jtagOpen (s : State) : Bool := s.lifecycle == 1 || (s.lifecycle == 2 && s.jot.svc.holder.isSome)

/-- A halt of a hart that is PARKED, RUNNING or in WFI takes it to DEBUG; a resume takes it back, to a window interrupt that came meanwhile. -/
def State.jtagDebug (s : State) (h : Nat) (halt : Bool) : State :=
  let st := s.hartState h
  if !s.jtagOpen || !s.idPowered (0x420 + h) then s
  else if halt then
    (if 1 ≤ st ∧ st ≤ 3 then (s.onHart h (fun x => { x with back := st })).setHart h 4 else s)
  else if st = 4 then
    let s1 := (s.setHart h (s.hart h).back).onHart h (fun x => { x with deferred := if x.active then x.deferred else none })
    match (s.hart h).deferred with
    | some w => if (s.hart h).active then s1 else s1.taskWindow h w
    | none => s1
  else s

/-- JTAG_DEBUG_REQUEST. -/
def execJtagDebugRequest (t : Tick) (hart : Fin 16) (halt : Bool) (s : State) : Host.Outcome State Fault Refusal :=
  .next ((s.tickTo t).jtagDebug hart.val halt)

end Sys2Proof.Machine
end

