-- ==== Sys2Proof/Machine/CoreAcc.lean ====
section
/-!
DEFINITION. A hart's accesses to the registers of Table 1.10 outside the dictionary window: the timer block (R383), the interrupt controller
(R384) with the local interrupts (R385), the task port (R394); and the bus errors of the accesses that cannot be served (R37).
-/
namespace Sys2Proof.Machine

/-! ## The hart timer block (R383) -/

/-- TIME_AT_SLOT: the time counter at the last slot boundary. -/
def State.timeAtSlot (s : State) : Nat := s.lay.slotAt - s.resetAt

/-- The register of 32 or 64 bits that an offset of the block lies in. -/
def State.timerReg (s : State) (off : Nat) : Nat :=
  let h := off / 256
  if 0xF008 ≤ off then s.timeAtSlot
  else if 0xF000 ≤ off then s.timeNow
  else if off % 256 < 8 then (s.hart h).cmp
  else if off % 256 < 16 then (s.hart h).sip
  else s.hartFired h

/-- A read of the block. -/
def State.timerRead (s : State) (h off width : Nat) : State := s.emit (.csrData h (bits (s.timerReg off) (8 * (off % 8)) width))

/-- A write of the block: a write of a read-only register has no effect (DESIGN CHOICE, notes/assumptions/30.md). -/
def State.timerWrite (s : State) (off val : Nat) : State :=
  if 0x1000 ≤ off then s
  else if off % 256 < 8 then s.setCmp (off / 256) (val % 2 ^ 64)
  else if off % 256 < 16 then s.onHart (off / 256) (fun x => { x with sip := val % 2 })
  else s

/-! ## Interrupts (R384, R385) -/

/-- The SEQSTAT objects that raise the sources of Table 11.2. -/
def irqObjects : List (Nat × Nat) :=
  [(4, O.FAULT_STATUS), (5, O.LAY_STATUS), (6, O.BOUND_STATUS), (7, O.JOURNAL_STATUS), (8, O.TRX_EVENTS 0), (9, O.TRX_EVENTS 1),
   (10, O.TRX_EVENTS 2), (11, O.LANE_EVENTS), (12, O.COMPLETION_STATUS), (13, O.CIPHER_EVENTS), (14, O.IMPORT_STATUS),
   (15, O.PORT_EVENTS 0), (16, O.PORT_EVENTS 1), (17, O.PORT_EVENTS 2), (18, O.PORT_EVENTS 3), (19, O.TIME_EVENTS),
   (20, O.STAGE_EVENTS), (21, O.POWER_FAULT), (22, O.ERROR_STATUS), (23, O.TEST_EVENTS), (24, O.COUNTER_EVENTS), (25, O.SCHED_EVENTS)]

/-- A source raises its interrupt: while a STATUS bit of its object is 1, for source 26 from the watchdog's half period to its kick. The units
of sources 1 to 3 are not of this model. -/
def State.irqUp (s : State) (n : Nat) : Bool :=
  match look irqObjects n with
  | some k => s.rd k % 2 ^ 16 != 0
  | none => n == 26 && s.cores.wdtIrq

/-- A source is pending at the controller: raised, and not claimed by a context that has not completed it. -/
def State.irqPending (s : State) (n : Nat) : Bool := s.irqUp n && !s.cores.plic.claimed.contains n

/-- The priority of a source. -/
def Plic.prioOf (p : Plic) (n : Nat) : Nat := lookD p.prio n 0

/-- A context enables a source. -/
def Plic.enables (p : Plic) (ctx n : Nat) : Bool := bitAt (lookD p.enable ctx 0) n

/-- The source that a context would claim: of the pending ones that it enables the one of the highest priority above 0, the lowest on a tie. -/
def State.claimable (s : State) (ctx : Nat) : Nat :=
  let p := s.cores.plic
  (upFrom 1 31).foldl (fun b n =>
    if s.irqPending n && p.enables ctx n && decide (p.prioOf b < p.prioOf n) then n else b) 0

/-- A context's external interrupt is pending: a source that it enables is pending with a priority above its threshold. -/
def State.extPending (s : State) (ctx : Nat) : Bool :=
  let p := s.cores.plic
  decide (lookD p.threshold ctx 0 < p.prioOf (s.claimable ctx)) && s.claimable ctx != 0

/-- The controller's registers changed. -/
def State.onPlic (s : State) (f : Plic → Plic) : State := s.onCores (fun c => { c with plic := f c.plic })

/-- A claim: the source reaches the hart, and is not pending again before its completion. -/
def State.plicClaim (s : State) (h ctx : Nat) : State :=
  let n := s.claimable ctx
  (if n = 0 then s else s.onPlic (fun p => { p with claimed := p.claimed ++ [n] })).emit (.csrData h n)

/-- A read of a register of the controller, in the layout of the RISC-V PLIC Specification 1.0.0: priorities from 0 on, pending bits at
0x1000, enable bits of context c at 0x2000 + 0x80 c, threshold and claim of context c at 0x20_0000 + 0x1000 c. Other words read 0. -/
def State.plicRead (s : State) (h off : Nat) : State :=
  let p := s.cores.plic
  let ctx := (off - 0x200000) / 0x1000
  let give := fun (v : Nat) => s.emit (.csrData h v)
  if off < 0x80 then give (p.prioOf (off / 4))
  else if off = 0x1000 then give ((upFrom 1 31).foldl (fun v n => if s.irqPending n then v + 2 ^ n else v) 0)
  else if 0x2000 ≤ off ∧ off < 0x3000 ∧ off % 0x80 = 0 then give (lookD p.enable ((off - 0x2000) / 0x80) 0)
  else if 0x200000 ≤ off ∧ ctx < 32 ∧ off % 0x1000 = 0 then give (lookD p.threshold ctx 0)
  else if 0x200000 ≤ off ∧ ctx < 32 ∧ off % 0x1000 = 4 then s.plicClaim h ctx
  else give 0

/-- A write of a register of the controller. A completion of a source that the context does not enable is ignored; sources 0 and above 31
have no registers. -/
def State.plicWrite (s : State) (off val : Nat) : State :=
  let ctx := (off - 0x200000) / 0x1000
  if off < 0x80 then (if off < 4 then s else s.onPlic (fun p => { p with prio := put p.prio (off / 4) (val % 8) }))
  else if 0x2000 ≤ off ∧ off < 0x3000 ∧ off % 0x80 = 0 then
    s.onPlic (fun p => { p with enable := put p.enable ((off - 0x2000) / 0x80) (val % 2 ^ 32 / 2 * 2) })
  else if 0x200000 ≤ off ∧ ctx < 32 ∧ off % 0x1000 = 0 then s.onPlic (fun p => { p with threshold := put p.threshold ctx (val % 8) })
  else if 0x200000 ≤ off ∧ ctx < 32 ∧ off % 0x1000 = 4 then
    s.onPlic (fun p => { p with claimed := if p.enables ctx val then p.claimed.filter (fun n => n != val) else p.claimed })
  else s

/-- WORK is pending: enabled, and the hart's ready list holds an item that GET would return (R385). -/
def State.workPending (s : State) (h : Nat) : Bool :=
  (s.hart h).workIrqEn && decide ((s.held h).length < 8) && (match s.nextItem h with
    | some (i, _, _) => i.readyOn == some h
    | none => false)

/-- The interrupts pending at a hart, by their codes in mip: 3 software, 7 timer, 9 and 11 external at supervisor and machine level, 16 WORK,
17 TASK_CANCEL (R383 to R385). -/
def State.pendingAt (s : State) (h : Nat) : List Nat :=
  [(3, (s.hart h).sip == 1), (7, s.timerPending h), (9, s.extPending (2 * h + 1)), (11, s.extPending (2 * h)), (16, s.workPending h),
   (17, (s.hart h).cancelPending)].filterMap (fun x => if x.2 then some x.1 else none)

/-! ## The task port (R394) -/

/-- A read of the task port: GET and CANCEL_SEQ act; a write-only register reads 0 (DESIGN CHOICE, notes/assumptions/30.md). -/
def State.portRead (s : State) (h off : Nat) : State :=
  let give := fun (v : Nat) => s.emit (.csrData h v)
  let x := s.hart h
  match off with
  | 0x00 => s.portGet h
  | 0x08 => give x.getArg
  | 0x28 => give x.enqResult
  | 0x40 => give (if x.workIrqEn then 1 else 0)
  | 0x48 => give (s.portStatus h)
  | 0x50 => s.portCancelSeq h
  | _ => give 0

/-- A write of the task port; a read-only register takes none (DESIGN CHOICE, notes/assumptions/30.md). -/
def State.portWrite (s : State) (h off val : Nat) : State :=
  match off with
  | 0x10 => s.taskDone h (bits val 0 32) (bitAt val 32)
  | 0x18 => s.onHart h (fun x => { x with enqArg := bits val 0 32 })
  | 0x20 => s.taskEnq h (bits val 0 40) (bits val 40 16)
  | 0x30 => s.taskForward h (bits val 0 32)
  | 0x38 => s.taskFree (bits val 0 40)
  | 0x40 => s.onHart h (fun x => { x with workIrqEn := bitAt val 0 })
  | _ => s

/-! ## Access faults (R37) -/

/-- Why an access to the hart timer block cannot be served (R383); `off` is its offset. -/
def timerRefusal (off width : Nat) (write : Bool) : Option Abort :=
  let o := off % 256
  let wide : Bool := (decide (off < 0x1000) && (decide (o < 8) || decide (16 ≤ o ∧ o < 24))) || decide (0xF000 ≤ off ∧ off < 0xF010)
  let sip : Bool := decide (off < 0x1000) && decide (8 ≤ o ∧ o < 12)
  if !wide && !sip then some .noRegion
  else if off % (width / 8) ≠ 0 then some .unaligned
  else if sip && width != 32 then some .badWidth
  else if wide && width != 64 && !(width == 32 && !write) then some .badWidth
  else none

/-- Why an access to the task port cannot be served (R394). -/
def portRefusal (off width : Nat) : Option Abort :=
  if 0x58 ≤ off then some .noRegion
  else if off % (width / 8) ≠ 0 then some .unaligned
  else if width ≠ 64 then some .badWidth
  else none

/-- The regions of Table 1.10 that hold the interrupt controller, the registers of units not of this model (UART, GPIO, QSPI controller), and
the CSR window, whose accesses have commands of their own. -/
def otherRegion (a : Nat) : Bool :=
  decide (0x0C000000 ≤ a ∧ a < 0x10000000) || decide (0x10000000 ≤ a ∧ a < 0x10003000) || decide (0x400000000 ≤ a ∧ a < 0x500000000)

/-- Why a core access cannot be served (R37). -/
def State.coreRefusal (s : State) (a width : Nat) (write : Bool) : Option Abort :=
  if a < 0x20000 ∨ (0x20000000 ≤ a ∧ a < 0x30000000) then (if write then some .readOnlyRegion else none)
  else if 0x02000000 ≤ a ∧ a < 0x02010000 then timerRefusal (a - 0x02000000) width write
  else if 0x30000000 ≤ a ∧ a < 0x31000000 then portRefusal (a - 0x30000000) width
  else if otherRegion a then none
  else s.memRefusal a

/-- An access that can be served: by the timer block, by the interrupt controller in words of 32 bits, by the task port. An instruction fetch
and an access elsewhere have no effect on the block here: memory and the dictionary window are read and written by commands of their own. -/
def State.coreServe (s : State) (h a width val : Nat) (write : Bool) : State :=
  if 0x02000000 ≤ a ∧ a < 0x02010000 then
    (if write then s.timerWrite (a - 0x02000000) val else s.timerRead h (a - 0x02000000) width)
  else if 0x0C000000 ≤ a ∧ a < 0x10000000 then
    (if width ≠ 32 ∨ a % 4 ≠ 0 then s else if write then s.plicWrite (a - 0x0C000000) val else s.plicRead h (a - 0x0C000000))
  else if 0x30000000 ≤ a ∧ a < 0x31000000 then
    (if write then s.portWrite h (a - 0x30000000) val else s.portRead h (a - 0x30000000))
  else s

/-- CORE_ACCESS_FAULT: an access that cannot be served ends in a bus error, logged (R37); another is served. -/
def execCoreAccessFault (t : Tick) (hart : Fin 16) (addr width : Nat) (write fetch : Bool) (val : Nat) (s : State) :
    Host.Outcome State Fault Refusal :=
  let s1 := s.tickTo t
  .next (if !s1.hartRuns hart.val then s1
    else match s1.coreRefusal addr width write with
      | some a => s1.coreError a hart.val addr (if fetch then 4 else if write then 1 else 0)
      | none => if fetch then s1 else s1.coreServe hart.val addr width val write)

end Sys2Proof.Machine
end

