-- ==== Sys2Proof/Machine/PowerCmd.lean ====
section
/-!
DEFINITION. The power family's own events (13), with power-on, RESET_N, the watchdog's reset (R389) and the management PHY (R516). Each acts
where its condition holds and its time has come; else only the clock moves on.
-/
namespace Sys2Proof.Machine

/-- VDD_AON is applied and RESET_N is high. -/
def State.alive (s : State) : Bool := s.pins.powered && s.pins.low.isNone

/-- The key of a domain, or of its part. -/
def unitKey (n : Nat) (sub : Option (Fin 16)) : Nat :=
  match sub with
  | some p => partKey n p.val
  | none => n

/-- IDLE_US of a domain (TIMERS). -/
def State.idleUs (s : State) (n : Nat) : Nat := bits (s.rd O.TIMERS) (64 * n) 32

/-- DOZE_MS of a domain (TIMERS). -/
def State.dozeMs (s : State) (n : Nat) : Nat := bits (s.rd O.TIMERS) (64 * n + 32) 32

/-- DOMAIN_IDLE_TIMER: the idle condition has held for IDLE_US, or IDLE was asked for (R444). -/
def execDomainIdleTimer (t : Tick) (domain : Fin 16) (s : State) : Host.Outcome State Fault Refusal :=
  let s1 := s.tickTo t
  let n := domain.val
  .next (if s1.domain n = 0 ∧ n ≠ 0 ∧ n ≠ 1 ∧ n ≠ 8 ∧ (s1.idleUs n ≠ 0 ∨ look s1.pwr.pendingReq n = some 1) ∧ !s1.domainBusy n ∧
      !s1.laySoon n then s1.enterIdle n else s1)

/-- DOMAIN_IDLE_WAKE: work or an access arrives, or an entry comes within 400 tk (Table 13.3). -/
def execDomainIdleWake (t : Tick) (domain : Fin 16) (s : State) : Host.Outcome State Fault Refusal :=
  .next ((s.tickTo t).idleWake domain.val)

/-- DOMAIN_DOZE_TIMER: DOZE_MS have passed in IDLE; a refusal is counted once (R446). -/
def execDomainDozeTimer (t : Tick) (domain : Fin 16) (s : State) : Host.Outcome State Fault Refusal :=
  let s1 := s.tickTo t
  let n := domain.val
  .next (match look s1.pwr.idleAt n with
    | none => s1
    | some a =>
      if s1.domain n ≠ 1 ∨ s1.dozeMs n = 0 ∨ s1.now < a + s1.dozeMs n * msTk then s1
      else match s1.offRefused n with
        | some c => (s1.refuse n c 2 false).onPwr (fun p => { p with idleAt := del p.idleAt n })
        | none => s1.enterOff n 2)

/-- DOMAIN_SWITCH_OPEN of a domain in ENTERING (Table 13.3). -/
def execDomainSwitchOpen (t : Tick) (domain : Fin 16) (s : State) : Host.Outcome State Fault Refusal :=
  .next ((s.tickTo t).switchOpen domain.val)

/-- WAKE_STEP_READY (R448). -/
def execWakeStepReady (t : Tick) (domain : Fin 16) (sub : Option (Fin 16)) (s : State) : Host.Outcome State Fault Refusal :=
  .next (((s.tickTo t).stepReady (unitKey domain.val sub)).relockDone)

/-- WAKE_STEP_TIMEOUT (R449). -/
def execWakeStepTimeout (t : Tick) (domain : Fin 16) (sub : Option (Fin 16)) (s : State) : Host.Outcome State Fault Refusal :=
  .next ((s.tickTo t).stepTimeout (unitKey domain.val sub))

/-- WAKE_RETRY (R449). -/
def execWakeRetry (t : Tick) (domain : Fin 16) (sub : Option (Fin 16)) (s : State) : Host.Outcome State Fault Refusal :=
  .next ((s.tickTo t).stepRetry (unitKey domain.val sub))

/-- PMIC_PG_LOST (R442); PMIC_PG[0] is ignored (R441). -/
def execPmicPgLost (t : Tick) (domain : Fin 16) (s : State) : Host.Outcome State Fault Refusal :=
  .next ((s.tickTo t).pgLost domain.val)

/-- SLEEP_WAKE by a source that WAKE_MASK enables (R453): CAN_JOT, GPIO, or STAGE where the stage has become shallower; TIMER has a row of its
own. -/
def execSleepWake (t : Tick) (source : Fin 4) (s : State) : Host.Outcome State Fault Refusal :=
  let s1 := s.tickTo t
  .next (if source.val ≠ 2 ∧ s1.flag O.WAKE_MASK source.val ∧ (source.val = 3 → s1.pwr.shallower) then s1.sleepLeave else s1)

/-- SLEEP_WAKE_TIMER: WAKE_AFTER_S seconds after entry (R453). -/
def execSleepWakeTimer (t : Tick) (s : State) : Host.Outcome State Fault Refusal :=
  let s1 := s.tickTo t
  .next (match s1.pwr.sleepAt with
    | some a =>
      if s1.flag O.WAKE_MASK 2 ∧ s1.rd O.WAKE_AFTER_S ≠ 0 ∧ a + s1.rd O.WAKE_AFTER_S * secTk ≤ s1.now then s1.sleepLeave else s1
    | none => s1)

/-- ROOT_PLL_UNLOCK while CLK is ON (R438). -/
def execRootPllUnlock (t : Tick) (s : State) : Host.Outcome State Fault Refusal :=
  let s1 := s.tickTo t
  .next (if s1.domainUp 1 then s1.rootUnlock else s1)

/-- XTAL_START_FAIL (R437). -/
def execXtalStartFail (t : Tick) (s : State) : Host.Outcome State Fault Refusal := .next ((s.tickTo t).xtalFailed)

/-- SUPPLY_EVAL at a SLOW edge (R455, R457). -/
def execSupplyEval (t : Tick) (code : Fin 4096) (s : State) : Host.Outcome State Fault Refusal :=
  let s1 := s.tickTo t
  .next (if s1.pins.powered ∧ s1.now % slowTk = 0 then s1.supplyEval code.val else s1)

/-- DYING_GASP (R462). -/
def execDyingGasp (t : Tick) (s : State) : Host.Outcome State Fault Refusal := .next ((s.tickTo t).gasp)

/-- S5_JOURNAL_WRITTEN (R464). -/
def execS5JournalWritten (t : Tick) (s : State) : Host.Outcome State Fault Refusal := .next ((s.tickTo t).journalWritten)

/-- S5_POWER_OFF (Table 13.9). -/
def execS5PowerOff (t : Tick) (s : State) : Host.Outcome State Fault Refusal := .next ((s.tickTo t).s5End)

/-- RESTART_HOLD_END (R463). -/
def execRestartHoldEnd (t : Tick) (s : State) : Host.Outcome State Fault Refusal := .next ((s.tickTo t).holdEnd)

/-- PMBUS_READ with PMBUS_ENABLE at 1 (R456). -/
def execPmbusRead (t : Tick) (vin : Option (Fin 65536)) (s : State) : Host.Outcome State Fault Refusal :=
  let s1 := s.tickTo t
  .next (if s1.alive ∧ s1.flag O.PMBUS_ENABLE then s1.pmbusRead (vin.map (·.val)) else s1)

/-- POWER_ON (R512). -/
def execPowerOn (t : Tick) (xtal qspi testEn : Bool) (s : State) : Host.Outcome State Fault Refusal :=
  .next ((s.tickTo t).powerOn xtal qspi testEn)

/-- RESET_N_ASSERT (R513). -/
def execResetNAssert (t : Tick) (ns : Nat) (s : State) : Host.Outcome State Fault Refusal :=
  let s1 := s.tickTo t
  .next (if s1.pins.powered then s1.resetLow ns else s1)

/-- RESET_N_RELEASE (R513). -/
def execResetNRelease (t : Tick) (s : State) : Host.Outcome State Fault Refusal := .next ((s.tickTo t).resetRelease)

/-- VDD_AON_REMOVED (R486, R80). -/
def execVddAonRemoved (t : Tick) (s : State) : Host.Outcome State Fault Refusal := .next ((s.tickTo t).powerLost)

/-- MGMT_PHY_POLL: the management port sends only while its PHY reports link (R516). -/
def execMgmtPhyPoll (t : Tick) (link : Bool) (s : State) : Host.Outcome State Fault Refusal :=
  let s1 := s.tickTo t
  .next (if s1.domainUp 1 then { s1 with pins := { s1.pins with mgmtUp := link } } else s1)

/-- WDT_EXPIRE: the full period has passed without a kick (R389). -/
def execWdtExpire (t : Tick) (s : State) : Host.Outcome State Fault Refusal :=
  let s1 := s.tickTo t
  .next (if s1.wdtTk ≠ 0 ∧ s1.cores.wdtAt + s1.wdtTk ≤ s1.now then s1.fullReset 2 else s1)

end Sys2Proof.Machine
end

