-- ==== Sys2Proof/Machine/WriteCmd.lean ====
section
/-!
DEFINITION. The commands that are writes of objects: each row names the object, or its command code, that a requester writes; the write is
checked, carried out and answered as 02 has it (`State.writeBy`, `State.writeOp`).
-/
namespace Sys2Proof.Machine

/-! ## Objects, groups and the slow copy (R43 to R60) -/

/-- OBJECT_WRITE: a write of any object (R45). -/
def execObjectWrite (t : Tick) (r : Req) (index sub len val : Nat) (s : State) : Host.Outcome State Fault Refusal :=
  .next ((s.tickTo t).writeBy r (recKey index sub) len val)

/-- SEQSTAT_WRITE_BACK: SEQ and the bits to clear (R58). -/
def execSeqstatWriteBack (t : Tick) (r : Req) (index sub val : Nat) (s : State) : Host.Outcome State Fault Refusal :=
  .next ((s.tickTo t).writeBy r (recKey index sub) 4 val)

/-- SLOW_COPY_APPLY: the SLOW edge that the waiting writes are for (R60). -/
def execSlowCopyApply (t : Tick) (s : State) : Host.Outcome State Fault Refusal :=
  .next ((s.tickTo t).slowApply)

/-- SHADOW_WRITE: a write of an RWS object, to its shadow (R50). -/
def execShadowWrite (t : Tick) (r : Req) (index sub len val : Nat) (s : State) : Host.Outcome State Fault Refusal :=
  .next ((s.tickTo t).writeBy r (recKey index sub) len val)

/-- COMMIT_APPLY: COMMIT of a group written with 1 (R55). -/
def execCommitApply (t : Tick) (r : Req) (index : Nat) (s : State) : Host.Outcome State Fault Refusal :=
  .next ((s.tickTo t).writeBy r (recKey index 0xFE) 4 1)

/-- COMMIT_DISCARD: COMMIT of a group written with 2 (R53). -/
def execCommitDiscard (t : Tick) (r : Req) (index : Nat) (s : State) : Host.Outcome State Fault Refusal :=
  .next ((s.tickTo t).writeBy r (recKey index 0xFE) 4 2)

/-- COMMIT_BOUNDARY: the boundary a PENDING group waits for (R55). -/
def execCommitBoundary (t : Tick) (index : Nat) (s : State) : Host.Outcome State Fault Refusal :=
  .next ((s.tickTo t).groupBoundaryAt index)

/-- SHADOW_TIMEOUT: the owner of a shadow has been silent too long (R54). -/
def execShadowTimeout (t : Tick) (index : Nat) (s : State) : Host.Outcome State Fault Refusal :=
  .next ((s.tickTo t).groupTimeout index)

/-- COMMIT_NO_BOUNDARY: a PENDING group's boundary did not come in time (R56). -/
def execCommitNoBoundary (t : Tick) (index : Nat) (s : State) : Host.Outcome State Fault Refusal :=
  .next ((s.tickTo t).groupNoBoundary index)

/-! ## The lay and placement -/

/-- LAY_VERIFY: LAY_COMMAND 1 (Table 3.7, R114). -/
def execLayVerify (t : Tick) (r : Req) (s : State) : Host.Outcome State Fault Refusal :=
  .next ((s.tickTo t).writeBy r O.LAY_COMMAND 4 1)

/-- LAY_ARM: LAY_COMMAND 2 (Table 3.7, R114). -/
def execLayArm (t : Tick) (r : Req) (s : State) : Host.Outcome State Fault Refusal :=
  .next ((s.tickTo t).writeBy r O.LAY_COMMAND 4 2)

/-- LAY_DISARM: LAY_COMMAND 3 (Table 3.7, R114). -/
def execLayDisarm (t : Tick) (r : Req) (s : State) : Host.Outcome State Fault Refusal :=
  .next ((s.tickTo t).writeBy r O.LAY_COMMAND 4 3)

/-- LAY_CLEAR: LAY_COMMAND 4 (Table 3.7, R114). -/
def execLayClear (t : Tick) (r : Req) (s : State) : Host.Outcome State Fault Refusal :=
  .next ((s.tickTo t).writeBy r O.LAY_COMMAND 4 4)

/-- LAY_STOP: LAY_COMMAND 5 (Table 3.7, R115). -/
def execLayStop (t : Tick) (r : Req) (s : State) : Host.Outcome State Fault Refusal :=
  .next ((s.tickTo t).writeBy r O.LAY_COMMAND 4 5)

/-- HITCH_CLEAR (`3004.02`, R132). -/
def execHitchClear (t : Tick) (r : Req) (val : Nat) (s : State) : Host.Outcome State Fault Refusal :=
  .next ((s.tickTo t).writeBy r O.HITCH_CLEAR 2 val)

/-- RETIRED_CLEAR (R146). -/
def execRetiredClear (t : Tick) (r : Req) (val : Nat) (s : State) : Host.Outcome State Fault Refusal :=
  .next ((s.tickTo t).writeBy r O.RETIRED_CLEAR 2 val)

/-- WHY_QUERY (R156). -/
def execWhyQuery (t : Tick) (r : Req) (val : Nat) (s : State) : Host.Outcome State Fault Refusal :=
  .next ((s.tickTo t).writeBy r O.WHY_QUERY 4 val)

/-! ## Radio front ends -/

/-- CAL_RX_DC: bit 0 of CAL_COMMAND (R183). -/
def execCalRxDc (t : Tick) (r : Req) (trx : Fin 3) (s : State) : Host.Outcome State Fault Refusal :=
  .next ((s.tickTo t).writeBy r (O.CAL_COMMAND trx.val) 4 1)

/-- CAL_RX_IQ: bit 1 of CAL_COMMAND (R183). -/
def execCalRxIq (t : Tick) (r : Req) (trx : Fin 3) (s : State) : Host.Outcome State Fault Refusal :=
  .next ((s.tickTo t).writeBy r (O.CAL_COMMAND trx.val) 4 2)

/-- CAL_TX_LO: bit 2 of CAL_COMMAND (R183). -/
def execCalTxLo (t : Tick) (r : Req) (trx : Fin 3) (s : State) : Host.Outcome State Fault Refusal :=
  .next ((s.tickTo t).writeBy r (O.CAL_COMMAND trx.val) 4 4)

/-- CAL_TX_IQ: bit 3 of CAL_COMMAND (R183). -/
def execCalTxIq (t : Tick) (r : Req) (trx : Fin 3) (s : State) : Host.Outcome State Fault Refusal :=
  .next ((s.tickTo t).writeBy r (O.CAL_COMMAND trx.val) 4 8)

/-- CAL_SYNTH_ALL: bit 4 of CAL_COMMAND (R183). -/
def execCalSynthAll (t : Tick) (r : Req) (trx : Fin 3) (s : State) : Host.Outcome State Fault Refusal :=
  .next ((s.tickTo t).writeBy r (O.CAL_COMMAND trx.val) 4 16)

/-- CAL_SYNTH_STALE: bit 5 of CAL_COMMAND (R183). -/
def execCalSynthStale (t : Tick) (r : Req) (trx : Fin 3) (s : State) : Host.Outcome State Fault Refusal :=
  .next ((s.tickTo t).writeBy r (O.CAL_COMMAND trx.val) 4 32)

/-- MANUAL_HOP (R173). -/
def execManualHop (t : Tick) (r : Req) (trx : Fin 3) (val : Nat) (s : State) : Host.Outcome State Fault Refusal :=
  .next ((s.tickTo t).writeBy r (O.MANUAL_HOP trx.val) 4 val)

/-- CAL_INVALIDATE (`4400.03`, R165). -/
def execCalInvalidate (t : Tick) (r : Req) (trx : Fin 3) (val : Nat) (s : State) : Host.Outcome State Fault Refusal :=
  .next ((s.tickTo t).writeBy r (O.CAL_INVALIDATE trx.val) 2 val)

/-- TX_INHIBIT_CLEAR (R193). -/
def execTxInhibitClear (t : Tick) (r : Req) (trx : Fin 3) (val : Nat) (s : State) : Host.Outcome State Fault Refusal :=
  .next ((s.tickTo t).writeBy r (O.TX_INHIBIT_CLEAR trx.val) 1 val)

/-- SOUND_COMMAND (`5203.01`, R240). -/
def execSoundCommand (t : Tick) (r : Req) (val : Nat) (s : State) : Host.Outcome State Fault Refusal :=
  .next ((s.tickTo t).writeBy r O.SOUND_COMMAND 1 val)

/-- FALLBACK_COMMAND (`5203.02`, R243). -/
def execFallbackCommand (t : Tick) (r : Req) (val : Nat) (s : State) : Host.Outcome State Fault Refusal :=
  .next ((s.tickTo t).writeBy r O.FALLBACK_COMMAND 1 val)

/-! ## Sensors and keys -/

/-- SENSOR_ADD: SENSOR_COMMAND 1 (Table 7.9, R278). -/
def execSensorAdd (t : Tick) (r : Req) (s : State) : Host.Outcome State Fault Refusal :=
  .next ((s.tickTo t).writeBy r O.SENSOR_COMMAND 1 1)

/-- SENSOR_UPDATE: SENSOR_COMMAND 2 (Table 7.9, R278). -/
def execSensorUpdate (t : Tick) (r : Req) (s : State) : Host.Outcome State Fault Refusal :=
  .next ((s.tickTo t).writeBy r O.SENSOR_COMMAND 1 2)

/-- SENSOR_REMOVE: SENSOR_COMMAND 3 (Table 7.9, R278). -/
def execSensorRemove (t : Tick) (r : Req) (s : State) : Host.Outcome State Fault Refusal :=
  .next ((s.tickTo t).writeBy r O.SENSOR_COMMAND 1 3)

/-- SENSOR_FIND_EUI: SENSOR_COMMAND 4 (Table 7.9, R278). -/
def execSensorFindEui (t : Tick) (r : Req) (s : State) : Host.Outcome State Fault Refusal :=
  .next ((s.tickTo t).writeBy r O.SENSOR_COMMAND 1 4)

/-- SENSOR_FIND_SHORT: SENSOR_COMMAND 5 (Table 7.9, R278). -/
def execSensorFindShort (t : Tick) (r : Req) (s : State) : Host.Outcome State Fault Refusal :=
  .next ((s.tickTo t).writeBy r O.SENSOR_COMMAND 1 5)

/-- SENSOR_READ: SENSOR_COMMAND 6 (Table 7.9, R278). -/
def execSensorRead (t : Tick) (r : Req) (s : State) : Host.Outcome State Fault Refusal :=
  .next ((s.tickTo t).writeBy r O.SENSOR_COMMAND 1 6)

/-- KEY_IMPORT of `len` octets (R312, R313). -/
def execKeyImport (t : Tick) (r : Req) (len val : Nat) (s : State) : Host.Outcome State Fault Refusal :=
  .next ((s.tickTo t).writeBy r O.KEY_IMPORT len val)

/-- KEY_DELETE (R314). -/
def execKeyDelete (t : Tick) (r : Req) (val : Nat) (s : State) : Host.Outcome State Fault Refusal :=
  .next ((s.tickTo t).writeBy r O.KEY_DELETE 4 val)

/-- SLOT_QUERY (`6900.06`, R302). -/
def execSlotQuery (t : Tick) (r : Req) (val : Nat) (s : State) : Host.Outcome State Fault Refusal :=
  .next ((s.tickTo t).writeBy r O.SLOT_QUERY 4 val)

/-! ## The router and network time -/

/-- RULE_WRITE: RULE_COMMAND 1 (R339). -/
def execRuleWrite (t : Tick) (r : Req) (s : State) : Host.Outcome State Fault Refusal :=
  .next ((s.tickTo t).writeBy r O.RULE_COMMAND 1 1)

/-- RULE_INVALIDATE: RULE_COMMAND 2 (R339). -/
def execRuleInvalidate (t : Tick) (r : Req) (s : State) : Host.Outcome State Fault Refusal :=
  .next ((s.tickTo t).writeBy r O.RULE_COMMAND 1 2)

/-- RULE_READ: RULE_COMMAND 3 (R339). -/
def execRuleRead (t : Tick) (r : Req) (s : State) : Host.Outcome State Fault Refusal :=
  .next ((s.tickTo t).writeBy r O.RULE_COMMAND 1 3)

/-- RULE_CLEAR_HITS: RULE_COMMAND 4 (R339). -/
def execRuleClearHits (t : Tick) (r : Req) (s : State) : Host.Outcome State Fault Refusal :=
  .next ((s.tickTo t).writeBy r O.RULE_COMMAND 1 4)

/-- HOST_TAIL_WRITE (R352). -/
def execHostTailWrite (t : Tick) (r : Req) (val : Nat) (s : State) : Host.Outcome State Fault Refusal :=
  .next ((s.tickTo t).writeBy r O.HOST_TAIL 4 val)

/-- PPS_NEXT_S_WRITE (R364). -/
def execPpsNextSWrite (t : Tick) (r : Req) (val : Nat) (s : State) : Host.Outcome State Fault Refusal :=
  .next ((s.tickTo t).writeBy r O.PPS_NEXT_S 8 val)

/-- TS_POP (R374). -/
def execTsPop (t : Tick) (r : Req) (port : Fin 4) (val : Nat) (s : State) : Host.Outcome State Fault Refusal :=
  .next ((s.tickTo t).writeBy r (O.TS_POP port.val) 4 val)

/-! ## Cores and flows -/

/-- RECOVERY_IMAGE: an image written with its header and body (R387). -/
def execRecoveryImage (t : Tick) (r : Req) (image : BootImage) (s : State) : Host.Outcome State Fault Refusal :=
  .next ((s.tickTo t).writeOp r O.RECOVERY_IMAGE image.length (fun s => .done (s.opRecovery image)))

/-- HART_START (R388). -/
def execHartStart (t : Tick) (r : Req) (mask : Nat) (s : State) : Host.Outcome State Fault Refusal :=
  .next ((s.tickTo t).writeBy r O.HART_START 2 mask)

/-- WDT_KICK (R389). -/
def execWdtKick (t : Tick) (r : Req) (val : Nat) (s : State) : Host.Outcome State Fault Refusal :=
  .next ((s.tickTo t).writeBy r O.WDT_KICK 4 val)

/-- FLOW_WRITE: FLOW_COMMAND 1 (R391). -/
def execFlowWrite (t : Tick) (r : Req) (s : State) : Host.Outcome State Fault Refusal :=
  .next ((s.tickTo t).writeBy r O.FLOW_COMMAND 1 1)

/-- FLOW_READ: FLOW_COMMAND 2 (R391). -/
def execFlowRead (t : Tick) (r : Req) (s : State) : Host.Outcome State Fault Refusal :=
  .next ((s.tickTo t).writeBy r O.FLOW_COMMAND 1 2)

/-- FLOW_CANCEL: FLOW_COMMAND 3 (R398). -/
def execFlowCancel (t : Tick) (r : Req) (s : State) : Host.Outcome State Fault Refusal :=
  .next ((s.tickTo t).writeBy r O.FLOW_COMMAND 1 3)

/-- FLOW_STATUS: FLOW_COMMAND 4 (R391). -/
def execFlowStatus (t : Tick) (r : Req) (s : State) : Host.Outcome State Fault Refusal :=
  .next ((s.tickTo t).writeBy r O.FLOW_COMMAND 1 4)

/-! ## Memory -/

/-- PAN_RETAIN_REQ (R414). -/
def execPanRetainReq (t : Tick) (r : Req) (val : Nat) (s : State) : Host.Outcome State Fault Refusal :=
  .next ((s.tickTo t).writeBy r O.PAN_RETAIN_REQ 2 val)

/-- CH_INIT: CH_COMMAND 1 (Table 12.5, R419). -/
def execChInit (t : Tick) (r : Req) (ch : Fin 2) (s : State) : Host.Outcome State Fault Refusal :=
  .next ((s.tickTo t).writeBy r (O.CH_COMMAND ch.val) 4 1)

/-- CH_MARK_READY: CH_COMMAND 2 (Table 12.5, R419). -/
def execChMarkReady (t : Tick) (r : Req) (ch : Fin 2) (s : State) : Host.Outcome State Fault Refusal :=
  .next ((s.tickTo t).writeBy r (O.CH_COMMAND ch.val) 4 2)

/-- CH_FREQ_CHANGE: CH_COMMAND 3 with its RATE and ABORT_TRAINING (R434). -/
def execChFreqChange (t : Tick) (r : Req) (ch : Fin 2) (rate : Fin 4) (abort : Bool) (s : State) : Host.Outcome State Fault Refusal :=
  .next ((s.tickTo t).writeBy r (O.CH_COMMAND ch.val) 4 (3 + rate.val * 2 ^ 8 + (if abort then 2 ^ 10 else 0)))

/-- CH_RESET: CH_COMMAND 4 (Table 12.5, R419). -/
def execChReset (t : Tick) (r : Req) (ch : Fin 2) (s : State) : Host.Outcome State Fault Refusal :=
  .next ((s.tickTo t).writeBy r (O.CH_COMMAND ch.val) 4 4)

/-- TRAIN_COMMAND (R432). -/
def execTrainCommand (t : Tick) (r : Req) (val : Nat) (s : State) : Host.Outcome State Fault Refusal :=
  .next ((s.tickTo t).writeBy r O.TRAIN_COMMAND 4 val)

/-- TRAIN_TABLE_WRITE: the whole table of a channel, by its entries (R433). -/
def execTrainTableWrite (t : Tick) (r : Req) (ch : Fin 2) (entries : List TrainEntry) (s : State) : Host.Outcome State Fault Refusal :=
  .next ((s.tickTo t).writeOp r (O.TRAIN_TABLE ch.val) 1536 (fun s => .of s (s.opTrainTable ch.val entries)))

/-! ## Power -/

/-- DOMAIN_REQ_ON: DOMAIN_REQ with TARGET 0 (R446). -/
def execDomainReqOn (t : Tick) (r : Req) (domain : Fin 16) (s : State) : Host.Outcome State Fault Refusal :=
  .next ((s.tickTo t).writeBy r O.DOMAIN_REQ 2 domain.val)

/-- DOMAIN_REQ_IDLE: DOMAIN_REQ with TARGET 1 (R445). -/
def execDomainReqIdle (t : Tick) (r : Req) (domain : Fin 16) (s : State) : Host.Outcome State Fault Refusal :=
  .next ((s.tickTo t).writeBy r O.DOMAIN_REQ 2 (domain.val + 256))

/-- DOMAIN_REQ_DOZE: DOMAIN_REQ with TARGET 2 (R446). -/
def execDomainReqDoze (t : Tick) (r : Req) (domain : Fin 16) (s : State) : Host.Outcome State Fault Refusal :=
  .next ((s.tickTo t).writeBy r O.DOMAIN_REQ 2 (domain.val + 512))

/-- DOMAIN_REQ_OFF: DOMAIN_REQ with TARGET 3 (R446). -/
def execDomainReqOff (t : Tick) (r : Req) (domain : Fin 16) (s : State) : Host.Outcome State Fault Refusal :=
  .next ((s.tickTo t).writeBy r O.DOMAIN_REQ 2 (domain.val + 768))

/-- FAULT_CLEAR (R450). -/
def execFaultClear (t : Tick) (r : Req) (val : Nat) (s : State) : Host.Outcome State Fault Refusal :=
  .next ((s.tickTo t).writeBy r O.FAULT_CLEAR 2 val)

/-- SLEEP_REQ (R452). -/
def execSleepReq (t : Tick) (r : Req) (val : Nat) (s : State) : Host.Outcome State Fault Refusal :=
  .next ((s.tickTo t).writeBy r O.SLEEP_REQ 1 val)

/-! ## Counters and self-test -/

/-- SNAPSHOT: SNAP_COMMAND 1 (R471). -/
def execSnapshot (t : Tick) (r : Req) (s : State) : Host.Outcome State Fault Refusal :=
  .next ((s.tickTo t).writeBy r O.SNAP_COMMAND 1 1)

/-- COUNTER_CLEAR: SNAP_COMMAND 2 (R472). -/
def execCounterClear (t : Tick) (r : Req) (s : State) : Host.Outcome State Fault Refusal :=
  .next ((s.tickTo t).writeBy r O.SNAP_COMMAND 1 2)

/-- SNAPSHOT_AND_CLEAR: SNAP_COMMAND 3 (R472). -/
def execSnapshotAndClear (t : Tick) (r : Req) (s : State) : Host.Outcome State Fault Refusal :=
  .next ((s.tickTo t).writeBy r O.SNAP_COMMAND 1 3)

/-- TEST_REQUEST (R483). -/
def execTestRequest (t : Tick) (r : Req) (val : Nat) (s : State) : Host.Outcome State Fault Refusal :=
  .next ((s.tickTo t).writeBy r O.TEST_REQUEST 4 val)

/-! ## Non-volatile settings and lifecycle -/

/-- NODE_ID_WRITE (R486, R488). -/
def execNodeIdWrite (t : Tick) (r : Req) (val : Nat) (s : State) : Host.Outcome State Fault Refusal :=
  .next ((s.tickTo t).writeBy r O.NODE_ID 1 val)

/-- REGION_PROFILE_WRITE (R489). -/
def execRegionProfileWrite (t : Tick) (r : Req) (len val : Nat) (s : State) : Host.Outcome State Fault Refusal :=
  .next ((s.tickTo t).writeBy r O.REGION_PROFILE len val)

/-- ROOT_ROTATE (R490). -/
def execRootRotate (t : Tick) (r : Req) (val : Nat) (s : State) : Host.Outcome State Fault Refusal :=
  .next ((s.tickTo t).writeBy r O.ROOT_ROTATE 1 val)

/-- LIFECYCLE_PROVISION: LIFECYCLE 2 (R491, Table 15.4). -/
def execLifecycleProvision (t : Tick) (r : Req) (s : State) : Host.Outcome State Fault Refusal :=
  .next ((s.tickTo t).writeBy r O.LIFECYCLE 1 2)

/-- LIFECYCLE_DEPLOY: LIFECYCLE 3 (R491, Table 15.4). -/
def execLifecycleDeploy (t : Tick) (r : Req) (s : State) : Host.Outcome State Fault Refusal :=
  .next ((s.tickTo t).writeBy r O.LIFECYCLE 1 3)

/-- LIFECYCLE_RETIRE: LIFECYCLE 4 (R491, Table 15.4). -/
def execLifecycleRetire (t : Tick) (r : Req) (s : State) : Host.Outcome State Fault Refusal :=
  .next ((s.tickTo t).writeBy r O.LIFECYCLE 1 4)

/-- BOOT_KEY_HASH_WRITE (R494). -/
def execBootKeyHashWrite (t : Tick) (r : Req) (val : Nat) (s : State) : Host.Outcome State Fault Refusal :=
  .next ((s.tickTo t).writeBy r O.BOOT_KEY_HASH 32 val)

end Sys2Proof.Machine
end

