-- ==== Sys2Proof/Machine/Dispatch.lean ====
section
/-!
DEFINITION. The dispatch: one arm per command, each one call of its meaning.
-/
namespace Sys2Proof.Machine

/-- The effect of a command on everything but the queue. -/
def exec (i : Instr) (s : State) : Host.Outcome State Fault Refusal :=
  match i with
  | .jotRead t r shadow index sub count present => Sys2Proof.Machine.execJotRead t r shadow index sub count present s
  | .jotWrite t r index sub count present val => Sys2Proof.Machine.execJotWrite t r index sub count present val s
  | .jotReadSeg t r shadow index sub count present => Sys2Proof.Machine.execJotReadSeg t r shadow index sub count present s
  | .jotWriteSeg t r index sub count present total => Sys2Proof.Machine.execJotWriteSeg t r index sub count present total s
  | .jotSeg t r cmd index sub num last len val => Sys2Proof.Machine.execJotSeg t r cmd index sub num last len val s
  | .jotBlkack t r cmd index sub num => Sys2Proof.Machine.execJotBlkack t r cmd index sub num s
  | .jotAbortRx t r => Sys2Proof.Machine.execJotAbortRx t r s
  | .jotUnknownCommand t r cmd index sub => Sys2Proof.Machine.execJotUnknownCommand t r cmd index sub s
  | .jotTransferTimeout t r => Sys2Proof.Machine.execJotTransferTimeout t r s
  | .svcOpen t r count present => Sys2Proof.Machine.execSvcOpen t r count present s
  | .svcProve t r count present proof => Sys2Proof.Machine.execSvcProve t r count present proof s
  | .svcClose t r count present => Sys2Proof.Machine.execSvcClose t r count present s
  | .svcIdleTimeout t => Sys2Proof.Machine.execSvcIdleTimeout t s
  | .svcLockoutExpire t => Sys2Proof.Machine.execSvcLockoutExpire t s
  | .csrSvcChallenge t hart => Sys2Proof.Machine.execCsrSvcChallenge t hart s
  | .csrSvcProof t hart proof => Sys2Proof.Machine.execCsrSvcProof t hart proof s
  | .csrSvcClose t hart val => Sys2Proof.Machine.execCsrSvcClose t hart val s
  | .heartbeatTimer t => Sys2Proof.Machine.execHeartbeatTimer t s
  | .canFrameIgnored t fd ext ident readIdentity => Sys2Proof.Machine.execCanFrameIgnored t fd ext ident readIdentity s
  | .canBusOff t => Sys2Proof.Machine.execCanBusOff t s
  | .canBusOffRecovery t => Sys2Proof.Machine.execCanBusOffRecovery t s
  | .mgmtArpNdEcho t ask => Sys2Proof.Machine.execMgmtArpNdEcho t ask s
  | .mgmtFrameDropped t frame => Sys2Proof.Machine.execMgmtFrameDropped t frame s
  | .mgmtPortReset t => Sys2Proof.Machine.execMgmtPortReset t s
  | .objectWrite t r index sub len val => Sys2Proof.Machine.execObjectWrite t r index sub len val s
  | .seqstatWriteBack t r index sub val => Sys2Proof.Machine.execSeqstatWriteBack t r index sub val s
  | .slowCopyApply t => Sys2Proof.Machine.execSlowCopyApply t s
  | .shadowWrite t r index sub len val => Sys2Proof.Machine.execShadowWrite t r index sub len val s
  | .commitApply t r index => Sys2Proof.Machine.execCommitApply t r index s
  | .commitDiscard t r index => Sys2Proof.Machine.execCommitDiscard t r index s
  | .commitBoundary t index => Sys2Proof.Machine.execCommitBoundary t index s
  | .shadowTimeout t index => Sys2Proof.Machine.execShadowTimeout t index s
  | .commitNoBoundary t index => Sys2Proof.Machine.execCommitNoBoundary t index s
  | .csrReadLatch t hart shadow index sub word => Sys2Proof.Machine.execCsrReadLatch t hart shadow index sub word s
  | .csrWordStage t hart shadow index sub word val => Sys2Proof.Machine.execCsrWordStage t hart shadow index sub word val s
  | .csrWord0Commit t hart shadow index sub val => Sys2Proof.Machine.execCsrWord0Commit t hart shadow index sub val s
  | .csrAccessFault t hart addr width write val => Sys2Proof.Machine.execCsrAccessFault t hart addr width write val s
  | .xferControlRead t hart shadow index sub => Sys2Proof.Machine.execXferControlRead t hart shadow index sub s
  | .xferControlWrite t hart shadow index sub => Sys2Proof.Machine.execXferControlWrite t hart shadow index sub s
  | .xferComplete t hart index sub => Sys2Proof.Machine.execXferComplete t hart index sub s
  | .coreAccessFault t hart addr width write fetch val => Sys2Proof.Machine.execCoreAccessFault t hart addr width write fetch val s
  | .layEntryPresented t word => Sys2Proof.Machine.execLayEntryPresented t word s
  | .synthHop t trx path channel => Sys2Proof.Machine.execSynthHop t trx path channel s
  | .synthRecal t trx path channel => Sys2Proof.Machine.execSynthRecal t trx path channel s
  | .synthOff t trx => Sys2Proof.Machine.execSynthOff t trx s
  | .txCell t trx cell hitch closes => Sys2Proof.Machine.execTxCell t trx cell hitch closes s
  | .txPly t span cell hitch closes => Sys2Proof.Machine.execTxPly t span cell hitch closes s
  | .txIdle t trx => Sys2Proof.Machine.execTxIdle t trx s
  | .rxOn t trx => Sys2Proof.Machine.execRxOn t trx s
  | .rxSingle t trx => Sys2Proof.Machine.execRxSingle t trx s
  | .rxIdle t trx => Sys2Proof.Machine.execRxIdle t trx s
  | .tunerPreset t trx preset => Sys2Proof.Machine.execTunerPreset t trx preset s
  | .tunerHold t trx => Sys2Proof.Machine.execTunerHold t trx s
  | .tunerMeasure t trx => Sys2Proof.Machine.execTunerMeasure t trx s
  | .laneCell t lane stream profile arm cell hitch closes => Sys2Proof.Machine.execLaneCell t lane stream profile arm cell hitch closes s
  | .laneGang t lane stream segment gang cell hitch closes => Sys2Proof.Machine.execLaneGang t lane stream segment gang cell hitch closes s
  | .laneRelease t lane => Sys2Proof.Machine.execLaneRelease t lane s
  | .cipherReserve t engine hitch => Sys2Proof.Machine.execCipherReserve t engine hitch s
  | .cipherRelease t engine => Sys2Proof.Machine.execCipherRelease t engine s
  | .sluiceGateSet t port gates => Sys2Proof.Machine.execSluiceGateSet t port gates s
  | .sluiceC0Window t port gates closes => Sys2Proof.Machine.execSluiceC0Window t port gates closes s
  | .sluiceGuardWindow t port gates closes => Sys2Proof.Machine.execSluiceGuardWindow t port gates closes s
  | .dramRefresh t rank count => Sys2Proof.Machine.execDramRefresh t rank count s
  | .dramMaint t rank closes => Sys2Proof.Machine.execDramMaint t rank closes s
  | .dramEnd t rank => Sys2Proof.Machine.execDramEnd t rank s
  | .taskC0Window t hart flow hitch closes => Sys2Proof.Machine.execTaskC0Window t hart flow hitch closes s
  | .taskEnd t hart => Sys2Proof.Machine.execTaskEnd t hart s
  | .testRun t id test closes => Sys2Proof.Machine.execTestRun t id test closes s
  | .testEnd t id => Sys2Proof.Machine.execTestEnd t id s
  | .bightContention t lane stream cell closes => Sys2Proof.Machine.execBightContention t lane stream cell closes s
  | .bightCapture t lane hitch closes => Sys2Proof.Machine.execBightCapture t lane hitch closes s
  | .bightSpare t id => Sys2Proof.Machine.execBightSpare t id s
  | .bightEnd t id => Sys2Proof.Machine.execBightEnd t id s
  | .slotBoundary t => Sys2Proof.Machine.execSlotBoundary t s
  | .layVerify t r => Sys2Proof.Machine.execLayVerify t r s
  | .verifyDone t => Sys2Proof.Machine.execVerifyDone t s
  | .layArm t r => Sys2Proof.Machine.execLayArm t r s
  | .layDisarm t r => Sys2Proof.Machine.execLayDisarm t r s
  | .layClear t r => Sys2Proof.Machine.execLayClear t r s
  | .layStop t r => Sys2Proof.Machine.execLayStop t r s
  | .hitchClear t r val => Sys2Proof.Machine.execHitchClear t r val s
  | .retiredClear t r val => Sys2Proof.Machine.execRetiredClear t r val s
  | .whyQuery t r val => Sys2Proof.Machine.execWhyQuery t r val s
  | .thermalTrigger t region temp => Sys2Proof.Machine.execThermalTrigger t region temp s
  | .flowLoadTick t => Sys2Proof.Machine.execFlowLoadTick t s
  | .tierDemote t sensor => Sys2Proof.Machine.execTierDemote t sensor s
  | .migrationCopyDone t kind obj => Sys2Proof.Machine.execMigrationCopyDone t kind obj s
  | .migrationSwitch t kind obj => Sys2Proof.Machine.execMigrationSwitch t kind obj s
  | .panIdlePowerDown t pan => Sys2Proof.Machine.execPanIdlePowerDown t pan s
  | .forbidEmptied t => Sys2Proof.Machine.execForbidEmptied t s
  | .synthLock t trx => Sys2Proof.Machine.execSynthLock t trx s
  | .synthLockTimeout t trx => Sys2Proof.Machine.execSynthLockTimeout t trx s
  | .synthFault t trx => Sys2Proof.Machine.execSynthFault t trx s
  | .synthLockLost t trx => Sys2Proof.Machine.execSynthLockLost t trx s
  | .streamsValid t trx => Sys2Proof.Machine.execStreamsValid t trx s
  | .calGapStart t trx gapEnd => Sys2Proof.Machine.execCalGapStart t trx gapEnd s
  | .calRunDone t trx values quality => Sys2Proof.Machine.execCalRunDone t trx values quality s
  | .calRxDc t r trx => Sys2Proof.Machine.execCalRxDc t r trx s
  | .calRxIq t r trx => Sys2Proof.Machine.execCalRxIq t r trx s
  | .calTxLo t r trx => Sys2Proof.Machine.execCalTxLo t r trx s
  | .calTxIq t r trx => Sys2Proof.Machine.execCalTxIq t r trx s
  | .calSynthAll t r trx => Sys2Proof.Machine.execCalSynthAll t r trx s
  | .calSynthStale t r trx => Sys2Proof.Machine.execCalSynthStale t r trx s
  | .calPeriodTimer t trx => Sys2Proof.Machine.execCalPeriodTimer t trx s
  | .calTempTrigger t trx temp => Sys2Proof.Machine.execCalTempTrigger t trx temp s
  | .synthStale t trx channel temp => Sys2Proof.Machine.execSynthStale t trx channel temp s
  | .manualHop t r trx val => Sys2Proof.Machine.execManualHop t r trx val s
  | .calInvalidate t r trx val => Sys2Proof.Machine.execCalInvalidate t r trx val s
  | .txEnd t trx => Sys2Proof.Machine.execTxEnd t trx s
  | .maskCheck t trx bins => Sys2Proof.Machine.execMaskCheck t trx bins s
  | .powerMeasure t trx fwd rl => Sys2Proof.Machine.execPowerMeasure t trx fwd rl s
  | .txInhibitClear t r trx val => Sys2Proof.Machine.execTxInhibitClear t r trx val s
  | .dutyBinRoll t => Sys2Proof.Machine.execDutyBinRoll t s
  | .rakeDetection t stream corr start => Sys2Proof.Machine.execRakeDetection t stream corr start s
  | .laneOwnDetection t lane corr start => Sys2Proof.Machine.execLaneOwnDetection t lane corr start s
  | .laneSfdFound t lane freqErr snr => Sys2Proof.Machine.execLaneSfdFound t lane freqErr snr s
  | .laneSfdTimeout t lane => Sys2Proof.Machine.execLaneSfdTimeout t lane s
  | .lanePhrCheck t lane header => Sys2Proof.Machine.execLanePhrCheck t lane header s
  | .laneFrameEnd t lane => Sys2Proof.Machine.execLaneFrameEnd t lane s
  | .psduDelivered t lane psdu m => Sys2Proof.Machine.execPsduDelivered t lane psdu m s
  | .plyBurstEnd t lane outcome m => Sys2Proof.Machine.execPlyBurstEnd t lane outcome m s
  | .soundCommand t r val => Sys2Proof.Machine.execSoundCommand t r val s
  | .fallbackCommand t r val => Sys2Proof.Machine.execFallbackCommand t r val s
  | .reasmTimeout t sensor size tag => Sys2Proof.Machine.execReasmTimeout t sensor size tag s
  | .dlLifetimeExpiry t id => Sys2Proof.Machine.execDlLifetimeExpiry t id s
  | .parentListenTimeout t => Sys2Proof.Machine.execParentListenTimeout t s
  | .sensorAdd t r => Sys2Proof.Machine.execSensorAdd t r s
  | .sensorUpdate t r => Sys2Proof.Machine.execSensorUpdate t r s
  | .sensorUpdateApply t sensor => Sys2Proof.Machine.execSensorUpdateApply t sensor s
  | .sensorRemove t r => Sys2Proof.Machine.execSensorRemove t r s
  | .sensorFindEui t r => Sys2Proof.Machine.execSensorFindEui t r s
  | .sensorFindShort t r => Sys2Proof.Machine.execSensorFindShort t r s
  | .sensorRead t r => Sys2Proof.Machine.execSensorRead t r s
  | .keyFetchDone t slot outcome => Sys2Proof.Machine.execKeyFetchDone t slot outcome s
  | .cipherPreempt t engine => Sys2Proof.Machine.execCipherPreempt t engine s
  | .bitternBlockRelease t engine => Sys2Proof.Machine.execBitternBlockRelease t engine s
  | .cipherJobEnd t engine => Sys2Proof.Machine.execCipherJobEnd t engine s
  | .keyImport t r len val => Sys2Proof.Machine.execKeyImport t r len val s
  | .keyImportEntry t => Sys2Proof.Machine.execKeyImportEntry t s
  | .keyDelete t r val => Sys2Proof.Machine.execKeyDelete t r val s
  | .slotQuery t r val => Sys2Proof.Machine.execSlotQuery t r val s
  | .rewrapDone t => Sys2Proof.Machine.execRewrapDone t s
  | .ethFrameReceived t port frame fecFixed fecBad => Sys2Proof.Machine.execEthFrameReceived t port frame fecFixed fecBad s
  | .frameClassify t => Sys2Proof.Machine.execFrameClassify t s
  | .linkUp t port word => Sys2Proof.Machine.execLinkUp t port word s
  | .linkDown t port => Sys2Proof.Machine.execLinkDown t port s
  | .oamInfoTimer t => Sys2Proof.Machine.execOamInfoTimer t s
  | .ruleWrite t r => Sys2Proof.Machine.execRuleWrite t r s
  | .ruleInvalidate t r => Sys2Proof.Machine.execRuleInvalidate t r s
  | .ruleRead t r => Sys2Proof.Machine.execRuleRead t r s
  | .ruleClearHits t r => Sys2Proof.Machine.execRuleClearHits t r s
  | .sluiceFrameStart t port => Sys2Proof.Machine.execSluiceFrameStart t port s
  | .ethFrameSent t port => Sys2Proof.Machine.execEthFrameSent t port s
  | .pauseExpire t port prio => Sys2Proof.Machine.execPauseExpire t port prio s
  | .hostTailWrite t r val => Sys2Proof.Machine.execHostTailWrite t r val s
  | .ppsPulse t falling frac => Sys2Proof.Machine.execPpsPulse t falling frac s
  | .ppsMissed t => Sys2Proof.Machine.execPpsMissed t s
  | .ppsNextSWrite t r val => Sys2Proof.Machine.execPpsNextSWrite t r val s
  | .ptpSyncTimer t port => Sys2Proof.Machine.execPtpSyncTimer t port s
  | .ptpAnnounceTimer t port => Sys2Proof.Machine.execPtpAnnounceTimer t port s
  | .ptpAnnounceTimeout t port => Sys2Proof.Machine.execPtpAnnounceTimeout t port s
  | .switchHoldExpire t source => Sys2Proof.Machine.execSwitchHoldExpire t source s
  | .holdoverExpire t => Sys2Proof.Machine.execHoldoverExpire t s
  | .tsPop t r port val => Sys2Proof.Machine.execTsPop t r port val s
  | .ptpDelayReqTimer t port => Sys2Proof.Machine.execPtpDelayReqTimer t port s
  | .bootRomStart t a b => Sys2Proof.Machine.execBootRomStart t a b s
  | .recoveryImage t r image => Sys2Proof.Machine.execRecoveryImage t r image s
  | .hartStart t r mask => Sys2Proof.Machine.execHartStart t r mask s
  | .hartTimerFire t hart cmp => Sys2Proof.Machine.execHartTimerFire t hart cmp s
  | .hartSipWrite t hart val => Sys2Proof.Machine.execHartSipWrite t hart val s
  | .wdtKick t r val => Sys2Proof.Machine.execWdtKick t r val s
  | .wdtPretimeout t => Sys2Proof.Machine.execWdtPretimeout t s
  | .wdtExpire t => Sys2Proof.Machine.execWdtExpire t s
  | .taskGet t hart => Sys2Proof.Machine.execTaskGet t hart s
  | .taskDone t hart seq keep => Sys2Proof.Machine.execTaskDone t hart seq keep s
  | .taskEnqArg t hart arg => Sys2Proof.Machine.execTaskEnqArg t hart arg s
  | .taskEnq t hart addr flow => Sys2Proof.Machine.execTaskEnq t hart addr flow s
  | .taskForward t hart seq => Sys2Proof.Machine.execTaskForward t hart seq s
  | .taskFree t hart addr => Sys2Proof.Machine.execTaskFree t hart addr s
  | .cancelSeqRead t hart => Sys2Proof.Machine.execCancelSeqRead t hart s
  | .flowWrite t r => Sys2Proof.Machine.execFlowWrite t r s
  | .flowRead t r => Sys2Proof.Machine.execFlowRead t r s
  | .flowCancel t r => Sys2Proof.Machine.execFlowCancel t r s
  | .flowStatus t r => Sys2Proof.Machine.execFlowStatus t r s
  | .winReturn t hart => Sys2Proof.Machine.execWinReturn t hart s
  | .hartLoadRefresh t => Sys2Proof.Machine.execHartLoadRefresh t s
  | .serviceLimitExceeded t seq => Sys2Proof.Machine.execServiceLimitExceeded t seq s
  | .memoryRead t source addr flips use => Sys2Proof.Machine.execMemoryRead t source addr flips use s
  | .memoryPartialWrite t source addr len val flips => Sys2Proof.Machine.execMemoryPartialWrite t source addr len val flips s
  | .scrubRead t memory flips => Sys2Proof.Machine.execScrubRead t memory flips s
  | .panInitDone t pan => Sys2Proof.Machine.execPanInitDone t pan s
  | .panRetainReq t r val => Sys2Proof.Machine.execPanRetainReq t r val s
  | .chInit t r ch => Sys2Proof.Machine.execChInit t r ch s
  | .chInitDone t ch ok => Sys2Proof.Machine.execChInitDone t ch ok s
  | .chMarkReady t r ch => Sys2Proof.Machine.execChMarkReady t r ch s
  | .chFreqChange t r ch rate abort => Sys2Proof.Machine.execChFreqChange t r ch rate abort s
  | .freqChangeDone t ch => Sys2Proof.Machine.execFreqChangeDone t ch s
  | .chReset t r ch => Sys2Proof.Machine.execChReset t r ch s
  | .srIdleEntry t ch => Sys2Proof.Machine.execSrIdleEntry t ch s
  | .srExit t ch => Sys2Proof.Machine.execSrExit t ch s
  | .zqOverdue t rank => Sys2Proof.Machine.execZqOverdue t rank s
  | .trainCommand t r val => Sys2Proof.Machine.execTrainCommand t r val s
  | .trainRunDone t ch run => Sys2Proof.Machine.execTrainRunDone t ch run s
  | .trainTableWrite t r ch entries => Sys2Proof.Machine.execTrainTableWrite t r ch entries s
  | .domainReqOn t r domain => Sys2Proof.Machine.execDomainReqOn t r domain s
  | .domainReqIdle t r domain => Sys2Proof.Machine.execDomainReqIdle t r domain s
  | .domainReqDoze t r domain => Sys2Proof.Machine.execDomainReqDoze t r domain s
  | .domainReqOff t r domain => Sys2Proof.Machine.execDomainReqOff t r domain s
  | .domainIdleTimer t domain => Sys2Proof.Machine.execDomainIdleTimer t domain s
  | .domainIdleWake t domain => Sys2Proof.Machine.execDomainIdleWake t domain s
  | .domainDozeTimer t domain => Sys2Proof.Machine.execDomainDozeTimer t domain s
  | .domainSwitchOpen t domain => Sys2Proof.Machine.execDomainSwitchOpen t domain s
  | .wakeStepReady t domain sub => Sys2Proof.Machine.execWakeStepReady t domain sub s
  | .wakeStepTimeout t domain sub => Sys2Proof.Machine.execWakeStepTimeout t domain sub s
  | .wakeRetry t domain sub => Sys2Proof.Machine.execWakeRetry t domain sub s
  | .pmicPgLost t domain => Sys2Proof.Machine.execPmicPgLost t domain s
  | .faultClear t r val => Sys2Proof.Machine.execFaultClear t r val s
  | .sleepReq t r val => Sys2Proof.Machine.execSleepReq t r val s
  | .sleepWake t source => Sys2Proof.Machine.execSleepWake t source s
  | .sleepWakeTimer t => Sys2Proof.Machine.execSleepWakeTimer t s
  | .rootPllUnlock t => Sys2Proof.Machine.execRootPllUnlock t s
  | .xtalStartFail t => Sys2Proof.Machine.execXtalStartFail t s
  | .supplyEval t code => Sys2Proof.Machine.execSupplyEval t code s
  | .dyingGasp t => Sys2Proof.Machine.execDyingGasp t s
  | .s5JournalWritten t => Sys2Proof.Machine.execS5JournalWritten t s
  | .s5PowerOff t => Sys2Proof.Machine.execS5PowerOff t s
  | .restartHoldEnd t => Sys2Proof.Machine.execRestartHoldEnd t s
  | .pmbusRead t vin => Sys2Proof.Machine.execPmbusRead t vin s
  | .powerOn t xtal qspi testEn => Sys2Proof.Machine.execPowerOn t xtal qspi testEn s
  | .resetNAssert t ns => Sys2Proof.Machine.execResetNAssert t ns s
  | .resetNRelease t => Sys2Proof.Machine.execResetNRelease t s
  | .snapshot t r => Sys2Proof.Machine.execSnapshot t r s
  | .counterClear t r => Sys2Proof.Machine.execCounterClear t r s
  | .snapshotAndClear t r => Sys2Proof.Machine.execSnapshotAndClear t r s
  | .exportTimer t => Sys2Proof.Machine.execExportTimer t s
  | .testRequest t r val => Sys2Proof.Machine.execTestRequest t r val s
  | .testVerdict t member failCode => Sys2Proof.Machine.execTestVerdict t member failCode s
  | .reinitializationComplete t member => Sys2Proof.Machine.execReinitializationComplete t member s
  | .nodeIdWrite t r val => Sys2Proof.Machine.execNodeIdWrite t r val s
  | .regionProfileWrite t r len val => Sys2Proof.Machine.execRegionProfileWrite t r len val s
  | .rootRotate t r val => Sys2Proof.Machine.execRootRotate t r val s
  | .lifecycleProvision t r => Sys2Proof.Machine.execLifecycleProvision t r s
  | .lifecycleDeploy t r => Sys2Proof.Machine.execLifecycleDeploy t r s
  | .lifecycleRetire t r => Sys2Proof.Machine.execLifecycleRetire t r s
  | .bootKeyHashWrite t r val => Sys2Proof.Machine.execBootKeyHashWrite t r val s
  | .otpRecordProgrammed t good => Sys2Proof.Machine.execOtpRecordProgrammed t good s
  | .vddAonRemoved t => Sys2Proof.Machine.execVddAonRemoved t s
  | .mgmtPhyPoll t link => Sys2Proof.Machine.execMgmtPhyPoll t link s
  | .jtagDebugRequest t hart halt => Sys2Proof.Machine.execJtagDebugRequest t hart halt s

end Sys2Proof.Machine
end

