-- ==== Sys2Proof/Safety.lean ====
section
/-!
DEFINITION. The terms in which statements about the block are made: a command that completes, a request that is heard and taken, an answer
and a refusal that leave everything else alone, and the invariant of the block.
-/
namespace Sys2Proof.Machine

/-- A command completes on a state: its meaning answers a next state, of which `P` holds. -/
def Completes (c : Instr) (s : State) (P : State → Prop) : Prop := ∃ u, exec c s = .next u ∧ P u

/-- The state in which a request of a requester at a tick is judged: the clock has moved on and the request has been heard (R71, R81). -/
def State.heard (s : State) (t : Tick) (r : Req) : State := (s.tickTo t).reqIn r

/-- A write of `len` octets to an object reaches the dictionary and none of the refusals of R45 to R49 stands against it: the object's row. -/
def State.writable (s : State) (t : Tick) (r : Req) (k len v : Nat) : Option ObjDesc :=
  if (s.tickTo t).reaches r then
    (match (s.heard t r).writeCheck r (k / 256) (k % 256) len with
    | .ok d => if valueBad k d len (v % 2 ^ (8 * len)) then none else some d
    | .error _ => none)
  else none

/-- A write reaches the dictionary, nothing refuses it, and it acts at once. -/
def State.takes (s : State) (t : Tick) (r : Req) (k len v : Nat) : Bool :=
  match s.writable t r k len v with
  | some d => !d.slow
  | none => false

/-- A write reaches the dictionary, nothing refuses it, and it waits for the SLOW edge (R60). -/
def State.stages (s : State) (t : Tick) (r : Req) (k len v : Nat) : Bool :=
  match s.writable t r k len v with
  | some d => d.slow
  | none => false

/-- A write of so many octets comes as the end of a transfer: more than a PDU takes, or on the CSR window a cell (R67, R83). -/
def asTransfer (r : Req) (len : Nat) : Bool := decide ((if r.tr = .csr then 64 else 56) < len)

/-- The write of an object as it waits for a SLOW edge (R60). -/
def slowOf (r : Req) (k len v due : Nat) : SlowWrite :=
  { req := r, seg := asTransfer r len, index := k / 256, sub := k % 256, len := len, val := v % 2 ^ (8 * len), due := due }

/-- The state with a write put among those that wait for the SLOW edge. -/
def State.staged (s : State) (r : Req) (k len v : Nat) : State :=
  s.onJot (fun j => { j with slow := j.slow ++ [slowOf r k len v s.nextEdge] })

/-- At a SLOW edge one write of an object waits, and its requester's transport still carries its answer. -/
def State.appliesAt (s : State) (t : Tick) (r : Req) (k len v : Nat) : Prop :=
  (s.tickTo t).reaches r = true ∧ ∃ due, (s.tickTo t).jot.slow = [slowOf r k len v due] ∧ due ≤ (s.tickTo t).now

/-- Two states read alike but at some objects. -/
def SameObjects (s u : State) (but : List Nat) : Prop := ∀ k, k ∉ but → u.rd k = s.rd k

/-- `u` is `s` with an answer given: only outputs, the count of frames sent, the event counts and a transfer cell differ. -/
def Answered (s u : State) : Prop :=
  u = { s with out := u.out, objs := u.objs, ctr := u.ctr, jot := u.jot } ∧ SameObjects s u [O.CAN_TX]

/-- `u` is `s` with a request refused: the newest entry of the access-fault log names the code, and only the log, its counts and the
outputs differ. -/
def RefusedWith (s u : State) (a : Abort) : Prop :=
  u = { s with out := u.out, objs := u.objs, ctr := u.ctr, jot := u.jot } ∧
  SameObjects s u [O.CAN_TX, O.FAULT_STATUS, O.FAULT_COUNT, O.ABORTS_SENT] ∧
  u.jot.faults.getLast?.map (fun e => e.code) = some a.code

/-- The requester of a write of `len` octets learns of a refusal: by the newest entry of the access-fault log, or on the CSR window, where
the write was a transfer, by the FAILED transfer cell, which the log does not show (R88, R90). -/
def Told (u : State) (r : Req) (k len : Nat) (a : Abort) : Prop :=
  if r.tr = .csr ∧ asTransfer r len = true then (u.xferRun k).state = 3 ∧ (u.xferRun k).abort = a.code
  else u.jot.faults.getLast?.map (fun e => e.code) = some a.code

/-- `u` is `s` with a write of `len` octets refused, and nothing else done. -/
def WriteRefused (s u : State) (r : Req) (k len : Nat) (a : Abort) : Prop :=
  u = { s with out := u.out, objs := u.objs, ctr := u.ctr, jot := u.jot } ∧
  SameObjects s u [O.CAN_TX, O.FAULT_STATUS, O.FAULT_COUNT, O.ABORTS_SENT] ∧ Told u r k len a

/-- A 32-bit counter has advanced by `n`, wrapping. -/
def Counted (s u : State) (k : Nat) (n : Nat := 1) : Prop := u.rd k = (s.rd k + n) % 2 ^ 32

/-- What a write that programs OTP comes to (R487): refused by the lifecycle state, by its budget with `full`, by the supply stage or
for want of a free record with OTP_FAULT, and while a record is being programmed with SHADOW_BUSY; or programming of a record of `area`
begins, of whose value `good` holds, and the answer waits. -/
def OtpOutcome (s u : State) (r : Req) (k len area : Nat) (forbidden exhausted : Bool) (full : Abort) (good : OtpJob → Prop) : Prop :=
  let faulted := Told u r k len .otpFault ∧ Counted s u O.OTP_FAULTS ∧ u.otp = s.otp
  if forbidden then WriteRefused s u r k len .lifecycle
  else if exhausted then WriteRefused s u r k len full
  else if 1 ≤ s.stage then faulted
  else if s.otp.job.isSome then WriteRefused s u r k len .shadowBusy
  else if s.otpFree area = 0 then faulted
  else u.out = s.out ∧ u.otp.areas = s.otp.areas ∧ u.stOf O.OTP_STATUS / 8 = 1 ∧ ∃ j, u.otp.job = some j ∧ j.area = area ∧ good j

/-- A compiled lay runs and does not skip an entry on the resource `id` that stage `at_` is the first to shed. -/
def State.serves (s : State) (id at_ : Nat) : Bool := s.layRuns && !(s.entryWake id).shedHere id at_

/-- The command of a lay entry on the resource `id` completes: with no effect while no compiled lay runs (R11), skipped and counted where
stage `at_` or missing power sheds it (R127), and else as `P` says of the state with the resource's domain out of IDLE and the next. -/
def EntryActs (c : Instr) (s : State) (t : Tick) (id at_ : Nat) (P : State → State → Prop) : Prop :=
  Completes c s (fun u =>
    ((s.tickTo t).layRuns = false → u = s.tickTo t) ∧
    ((s.tickTo t).layRuns = true → ((s.tickTo t).entryWake id).shedHere id at_ = true → u = ((s.tickTo t).entryWake id).bump O.STAGE_SKIPPED) ∧
    ((s.tickTo t).serves id at_ = true → P ((s.tickTo t).entryWake id) u))

/-- Memory is at rest: no codeword is in error or poisoned, no range reads as zero, and no request waits in a channel or finds a window open. -/
def State.memQuiet (s : State) : Prop :=
  s.mem.flips = [] ∧ s.mem.poison = [] ∧ s.cph.zeroed = [] ∧
  ∀ c, (s.chan c).rq = [] ∧ (s.chan c).wq = [] ∧ (s.chan c).input = [] ∧ ∀ k, s.rankHeld c k = false

/-- The parts of the state that a frame speaks of: `clock` stands for the time reached, the reset it counts from and the slow copies. -/
inductive Part where
  | clock | objs | lens | shadow | preq | groups | out | free
  | jot | lay | plc | radio | rx | mac | cph | eth | tim | cores | mem | pwr | ctr | otp | pins
deriving DecidableEq, Repr

/-- Only the parts listed may differ between two states; the queue of waiting commands does not. -/
def OnlyParts (ps : List Part) (s u : State) : Prop :=
  u.pending = s.pending ∧
  (.clock ∉ ps → u.now = s.now ∧ u.resetAt = s.resetAt ∧ u.objsEdge = s.objsEdge) ∧
  (.objs ∉ ps → u.objs = s.objs) ∧ (.lens ∉ ps → u.lens = s.lens) ∧
  (.shadow ∉ ps → u.shadow = s.shadow ∧ u.shadowLens = s.shadowLens) ∧ (.preq ∉ ps → u.preq = s.preq) ∧
  (.groups ∉ ps → u.groups = s.groups) ∧ (.out ∉ ps → u.out = s.out) ∧ (.free ∉ ps → u.freeCtr = s.freeCtr) ∧
  (.jot ∉ ps → u.jot = s.jot) ∧ (.lay ∉ ps → u.lay = s.lay) ∧ (.plc ∉ ps → u.plc = s.plc) ∧ (.radio ∉ ps → u.radio = s.radio) ∧
  (.rx ∉ ps → u.rx = s.rx) ∧ (.mac ∉ ps → u.mac = s.mac) ∧ (.cph ∉ ps → u.cph = s.cph) ∧ (.eth ∉ ps → u.eth = s.eth) ∧
  (.tim ∉ ps → u.tim = s.tim) ∧ (.cores ∉ ps → u.cores = s.cores) ∧ (.mem ∉ ps → u.mem = s.mem) ∧ (.pwr ∉ ps → u.pwr = s.pwr) ∧
  (.ctr ∉ ps → u.ctr = s.ctr) ∧ (.otp ∉ ps → u.otp = s.otp) ∧ (.pins ∉ ps → u.pins = s.pins)

/-- The parts that the answer to a request touches: outputs, the count of frames sent, the event counts, and a transfer cell that ends. -/
def answers (ps : List Part) : List Part := ps ++ [.objs, .out, .ctr, .jot]

/-- The invariant of the block: memory stands in its canonical form, the keys of the object and shadow tables rise, and the rings of the access-fault log
(R90), the memory error log (R411) and the placement journal (R155) hold no more than their entries. -/
def State.inv (s : State) : Prop :=
  Memory.wf s.mem.cells = true ∧ rising s.objs = true ∧ rising s.shadow = true ∧ s.jot.faults.length ≤ 64 ∧ s.mem.errors.length ≤ 64 ∧
  s.plc.journal.length ≤ 4096

end Sys2Proof.Machine
end

