-- ==== Sys2Proof/Certificates/Slice0/Obligations.lean ====
section
/-!
DEFINITION. The statements about the block that are to be proved: what each command does, where it completes, what it leaves alone, and
the invariant that every step keeps. Each docstring names the commands and the rules of spec/ it rests on.
-/
open Sys2Proof Sys2Proof.Machine

/-- What a step runs. The tick that passes on an empty queue is the model's choice (notes/assumptions/2.md). -/
def Obligations.StepRunsFrontCommand : Prop :=
  (∀ (c : Instr) (rest : List Instr) (s : State), s.pending = c :: rest → step s = exec c (s.withPending rest)) ∧
  (∀ s : State, s.pending = [] → step s = .next (s.tickTo (s.now + 1)))

/-- Every command completes, is taken once, and time does not run back. -/
def Obligations.StepTakesOneCommand : Prop :=
  ∀ (c : Instr) (rest : List Instr) (s : State), s.pending = c :: rest →
    ∃ u, step s = .next u ∧ u.pending = rest ∧ s.now ≤ u.now

/-- The invariant of the block (Safety.lean) is kept by every step; the ring sizes are R90's, R411's and R155's. -/
def Obligations.StepKeepsInvariant : Prop :=
  ∀ s u : State, s.inv → step s = .next u → u.inv

/-- What reset leaves: the invariant holds, nothing waits, no service session, the domains off, the node ID its default. -/
def Obligations.ResetMeetsInvariant : Prop :=
  State.reset.inv ∧ State.reset.pending = [] ∧ State.reset.jot.svc.holder = none ∧ State.reset.rd O.SVC_HOLDER = 0 ∧
  (∀ n, 1 ≤ n → n < 16 → State.reset.domain n = 3) ∧ State.reset.rd O.NODE_ID = 127

/-- The frame of the clock, which every command moves first; the statements below speak of the state after it. -/
def Obligations.ClockTouchesOnlyCounters : Prop :=
  ∀ (s : State) (t : Tick), (s.tickTo t).now = max s.now t ∧ (s.tickTo t).out = [] ∧
    s.tickTo t = { s with now := (s.tickTo t).now, out := [], objs := (s.tickTo t).objs, ctr := (s.tickTo t).ctr,
                          objsEdge := (s.tickTo t).objsEdge,
                          lay := { s.lay with hitches := (s.tickTo t).lay.hitches, ends := (s.tickTo t).lay.ends } } ∧
    (s.tickTo t).lay.ends = s.lay.ends.filter (fun e => decide (max s.now t ≤ e.due)) ∧
    SameObjects s (s.tickTo t) [O.OVF_MAP, O.COUNTER_EVENTS, O.BOUND_STATUS, O.LAST_EXCESS_HITCH, O.LAST_EXCESS_TK, O.FAULT_N_LATCH] ∧
    ((∀ e ∈ s.lay.ends, max s.now t ≤ e.due) →
      (s.tickTo t).lay = s.lay ∧ SameObjects s (s.tickTo t) [O.OVF_MAP, O.COUNTER_EVENTS]) ∧
    ((max s.now t) / slowTk = s.now / slowTk → (s.tickTo t).objsEdge = s.objsEdge)

/-- JOT_READ (R67, Table 2.2, R90). -/
def Obligations.ReadIsServed : Prop :=
  ∀ (s : State) (t : Tick) (r : Req) (shadow : Bool) (index sub present : Nat), r.tr ≠ .csr → (s.tickTo t).reaches r = true →
    Completes (.jotRead t r shadow index sub 0 present) s (fun u =>
      let s1 := s.heard t r
      (∀ d, s1.readCheck r index sub = .ok d → (s1.readObj r index sub d shadow).1 ≤ 56 →
        u.out = s1.out ++ [s1.rsp r 0x01 index sub (s1.readObj r index sub d shadow).1 (s1.readObj r index sub d shadow).2] ∧
        Answered s1 u) ∧
      (∀ d, s1.readCheck r index sub = .ok d → 56 < (s1.readObj r index sub d shadow).1 → RefusedWith s1 u .useSegmented) ∧
      (∀ a, s1.readCheck r index sub = .error a → RefusedWith s1 u a))

/-- JOT_WRITE, OBJECT_WRITE and JOT_UNKNOWN_COMMAND: what is refused (R44, R47, R67). -/
def Obligations.WriteIsRefusedOrTaken : Prop :=
  (∀ (s : State) (t : Tick) (r : Req) (index sub count present val : Nat), r.tr ≠ .csr → count ≤ 56 → count ≤ present →
    sub < 256 → exec (.jotWrite t r index sub count present val) s = exec (.objectWrite t r index sub count val) s) ∧
  (∀ (s : State) (t : Tick) (r : Req) (index sub count present val : Nat), r.tr ≠ .csr → (s.tickTo t).reaches r = true →
    (56 < count ∨ present < count) →
    Completes (.jotWrite t r index sub count present val) s (fun u => RefusedWith (s.heard t r) u .badCount)) ∧
  (∀ (s : State) (t : Tick) (r : Req) (index sub len val : Nat) (a : Abort), sub < 256 → len ≤ 56 → (s.tickTo t).reaches r = true →
    (s.heard t r).writeCheck r index sub len = .error a →
    Completes (.objectWrite t r index sub len val) s (fun u => RefusedWith (s.heard t r) u a)) ∧
  (∀ (s : State) (t : Tick) (r : Req) (index sub len val : Nat) (d : ObjDesc), sub < 256 → len ≤ 56 → (s.tickTo t).reaches r = true →
    (s.heard t r).writeCheck r index sub len = .ok d → valueBad (recKey index sub) d len (val % 2 ^ (8 * len)) = true →
    Completes (.objectWrite t r index sub len val) s (fun u => RefusedWith (s.heard t r) u .valueRange)) ∧
  (∀ (s : State) (t : Tick) (r : Req) (cmd index sub : Nat), r.tr ≠ .csr → (s.tickTo t).reaches r = true →
    cmd ∉ [0x01, 0x02, 0x03, 0x04, 0x10, 0x11, 0x12] →
    Completes (.jotUnknownCommand t r cmd index sub) s (fun u => RefusedWith (s.heard t r) u .badCommand))

/-- OBJECT_WRITE of an RW object and SHADOW_WRITE of an RWS object (R43, R50, R53). -/
def Obligations.ObjectWriteStores : Prop :=
  (∀ (s : State) (t : Tick) (r : Req) (index sub len val : Nat) (d : ObjDesc), sub < 256 →
    s.writable t r (recKey index sub) len val = some d → d.access = .rw → d.ty ≠ .seqstat → d.slow = false → d.perReq = false →
    otpObj (recKey index sub) = false →
    recKey index sub ∉ [O.STANDBY_IMAGE, O.PAN_RETAIN_REQ, O.TRAIN_TABLE 0, O.TRAIN_TABLE 1, O.CHAN_PLAN 0, O.CHAN_PLAN 1, O.CHAN_PLAN 2,
      O.HOST_TAIL] → sub ≠ 0xFE →
    Completes (.objectWrite t r index sub len val) s (fun u =>
      u.rd (recKey index sub) = kept (recKey index sub) (val % 2 ^ (8 * len)) ∧
      SameObjects (s.heard t r) u [recKey index sub, O.CAN_TX])) ∧
  (∀ (s : State) (t : Tick) (r : Req) (index sub len val : Nat) (d : ObjDesc), sub < 256 →
    s.writable t r (recKey index sub) len val = some d → d.access = .rws → d.slow = false → d.ty ≠ .seqstat → sub ≠ 0xFE →
    Completes (.shadowWrite t r index sub len val) s (fun u =>
      u.shVal (recKey index sub) = kept (recKey index sub) (val % 2 ^ (8 * len)) ∧
      SameObjects (s.heard t r) u [O.CAN_TX] ∧ u.lens = (s.heard t r).lens ∧
      ∃ g, look u.groups index = some g ∧ g.owner = some (reqWho r) ∧ g.activeAt = (s.tickTo t).now))

/-- SEQSTAT_WRITE_BACK (R58, R59) and SLOW_COPY_APPLY (R60). -/
def Obligations.SeqstatWriteBackClears : Prop :=
  (∀ (s : State) (t : Tick) (r : Req) (index sub val : Nat) (d : ObjDesc), sub < 254 →
    s.writable t r (recKey index sub) 4 val = some d → d.ty = .seqstat → d.access = .rw → d.slow = false → val < 2 ^ 32 →
    Completes (.seqstatWriteBack t r index sub val) s (fun u =>
      let k := recKey index sub
      let old := (s.heard t r).rd k
      (bits val 16 16 = bits old 16 16 →
        bits (u.rd k) 16 16 = bits old 16 16 ∧
        (u.rd k) % 2 ^ 16 = (old % 2 ^ 16 &&& (0xFFFF - (val % 2 ^ 16 &&& (0xFFFF - stateBits k)))) ∧
        SameObjects (s.heard t r) u [k, O.OVF_MAP, O.CAN_TX]) ∧
      (bits val 16 16 ≠ bits old 16 16 → RefusedWith (s.heard t r) u .seqStale))) ∧
  (∀ (s : State) (t : Tick), Completes (.slowCopyApply t) s (fun u =>
    (s.tickTo t).jot.slow = [] → u = s.tickTo t)) ∧
  (∀ (s : State) (t : Tick) (w : SlowWrite) (d : ObjDesc), (s.tickTo t).jot.slow = [w] → w.due ≤ (s.tickTo t).now →
    findObj w.index w.sub = .ok d → d.access = .rw → d.ty ≠ .seqstat → d.perReq = false → w.sub < 254 →
    otpObj (recKey w.index w.sub) = false →
    recKey w.index w.sub ∉ [O.STANDBY_IMAGE, O.PAN_RETAIN_REQ, O.TRAIN_TABLE 0, O.TRAIN_TABLE 1, O.CHAN_PLAN 0, O.CHAN_PLAN 1,
      O.CHAN_PLAN 2, O.HOST_TAIL] →
    Completes (.slowCopyApply t) s (fun u =>
      u.jot.slow = [] ∧ u.rd (recKey w.index w.sub) = kept (recKey w.index w.sub) w.val ∧
      look u.objsEdge (recKey w.index w.sub) = some (u.rd (recKey w.index w.sub))))

/-- COMMIT_APPLY and COMMIT_DISCARD (R50 to R55). -/
def Obligations.CommitChecksThenAppliesOrWaits : Prop :=
  (∀ (s : State) (t : Tick) (r : Req) (index b : Nat), s.takes t r (recKey index 0xFE) 4 1 = true → groupBoundary index = some b →
    rising s.shadow = true →
    Completes (.commitApply t r index) s (fun u =>
      let s1 := s.heard t r
      let g := s1.ownGroup r index
      let why := g.groupCheck index
      let status := u.rd (recKey index 0xFF) % 2 ^ 16
      (why ≠ 0 → status = (why + b * 256 + 3 * 4096) % 2 ^ 16 ∧ u.shadow = s1.shadow) ∧
      (why = 0 → g.appliesNow index = true → status = 2 * 4096 + b * 256 ∧ look u.groups index = none ∧
        (index ∈ [0x2201, 0x7000, 0x7003, 0x7004] → ∀ n, n < 0xFD → u.rd (recKey index n) = s1.shVal (recKey index n))) ∧
      (why = 0 → g.appliesNow index = false → status = 4096 + b * 256 ∧
        ∃ x, look u.groups index = some x ∧ x.pendingAt = some (s.tickTo t).now))) ∧
  (∀ (s : State) (t : Tick) (r : Req) (index b : Nat), s.takes t r (recKey index 0xFE) 4 2 = true → groupBoundary index = some b →
    Completes (.commitDiscard t r index) s (fun u =>
      u.rd (recKey index 0xFF) % 2 ^ 16 = 4 * 4096 + b * 256 ∧ look u.groups index = none ∧
      (∀ k, k / 256 = index → look u.shadow k = none) ∧ SameObjects (s.heard t r) u [recKey index 0xFF, O.CAN_TX]))

/-- SHADOW_TIMEOUT (R54). -/
def Obligations.SilentOwnerLosesShadow : Prop :=
  ∀ (s : State) (t : Tick) (index b : Nat), groupBoundary index = some b → Completes (.shadowTimeout t index) s (fun u =>
    (∀ g, look (s.tickTo t).groups index = some g → g.owner.isSome = true → g.pendingAt = none →
      g.activeAt + 10 * secTk ≤ (s.tickTo t).now →
      u.rd (recKey index 0xFF) % 2 ^ 16 = 0x07 + b * 256 + 4 * 4096 ∧ look u.groups index = none ∧
      (∀ k, k / 256 = index → look u.shadow k = none) ∧ SameObjects (s.tickTo t) u [recKey index 0xFF]) ∧
    (∀ g, look (s.tickTo t).groups index = some g → (s.tickTo t).now < g.activeAt + 10 * secTk → u = s.tickTo t))

/-- COMMIT_BOUNDARY (R55) and COMMIT_NO_BOUNDARY (R56). -/
def Obligations.PendingGroupMeetsItsBoundary : Prop :=
  (∀ (s : State) (t : Tick) (index b p : Nat) (g : Group), groupBoundary index = some b →
    look (s.tickTo t).groups index = some g → g.pendingAt = some p →
    Completes (.commitBoundary t index) s (fun u =>
      let s1 := s.tickTo t
      (s1.boundaryCome index p = false → u = s1) ∧
      (s1.boundaryCome index p = true → s1.groupCheck index ≠ 0 →
        u.rd (recKey index 0xFF) % 2 ^ 16 = (s1.groupCheck index + b * 256 + 3 * 4096) % 2 ^ 16) ∧
      (s1.boundaryCome index p = true → s1.groupCheck index = 0 →
        u.rd (recKey index 0xFF) % 2 ^ 16 = 2 * 4096 + b * 256 ∧ look u.groups index = none))) ∧
  (∀ (s : State) (t : Tick) (index b p : Nat) (g : Group), groupBoundary index = some b →
    look (s.tickTo t).groups index = some g → g.pendingAt = some p →
    Completes (.commitNoBoundary t index) s (fun u =>
      let s1 := s.tickTo t
      (s1.now < p + secTk → u = s1) ∧
      (p + secTk ≤ s1.now → u.rd (recKey index 0xFF) % 2 ^ 16 = 4 + b * 256 + 3 * 4096 ∧
        (index ≠ 0x3102 → u.shadow = s1.shadow ∧ ∃ x, look u.groups index = some x ∧ x.pendingAt = none ∧ x.owner = g.owner))))

/-- JOT_WRITE_SEG and JOT_READ_SEG (R67 to R71). -/
def Obligations.SegmentedTransferOpens : Prop :=
  (∀ (s : State) (t : Tick) (r : Req) (index sub present total : Nat), r.tr ≠ .csr → (s.tickTo t).reaches r = true → 4 ≤ present →
    total < 2 ^ 32 →
    Completes (.jotWriteSeg t r index sub 4 present total) s (fun u =>
      let s1 := s.heard t r
      (16 ≤ s1.openXfers r.tr → RefusedWith s1 u .tooManyTransfers) ∧
      (∀ d, s1.openXfers r.tr < 16 → s1.writeCheck r index sub total = .ok d →
        (∃ x ∈ u.jot.xfers, x.req = r ∧ x.write = true ∧ x.total = total ∧ x.next = 0 ∧ x.seg = segSize r.tr ∧ x.block = blockSize r.tr) ∧
        u.out = s1.out ++ [s1.rsp r 0x04 index sub 3 (segSize r.tr + blockSize r.tr * 2 ^ 16)] ∧ SameObjects s1 u [O.CAN_TX]) ∧
      (∀ a, s1.openXfers r.tr < 16 → s1.writeCheck r index sub total = .error a → RefusedWith s1 u a))) ∧
  (∀ (s : State) (t : Tick) (r : Req) (shadow : Bool) (index sub present : Nat), r.tr ≠ .csr → (s.tickTo t).reaches r = true →
    Completes (.jotReadSeg t r shadow index sub 0 present) s (fun u =>
      let s1 := s.heard t r
      (16 ≤ s1.openXfers r.tr → RefusedWith s1 u .tooManyTransfers) ∧
      (∀ d, s1.openXfers r.tr < 16 → s1.readCheck r index sub = .ok d →
        (∃ x ∈ u.jot.xfers, x.req = r ∧ x.write = false ∧ x.total = (s1.readObj r index sub d shadow).1 ∧
          x.data = (s1.readObj r index sub d shadow).2) ∧ SameObjects s1 u [O.CAN_TX]))) ∧
  (∀ (s : State) (t : Tick) (r : Req) (index sub count present total : Nat), r.tr ≠ .csr → (s.tickTo t).reaches r = true → count ≠ 4 →
    Completes (.jotWriteSeg t r index sub count present total) s (fun u => RefusedWith (s.heard t r) u .badCount)) ∧
  (∀ (s : State) (t : Tick) (r : Req) (shadow : Bool) (index sub count present : Nat), r.tr ≠ .csr → (s.tickTo t).reaches r = true → count ≠ 0 →
    Completes (.jotReadSeg t r shadow index sub count present) s (fun u => RefusedWith (s.heard t r) u .badCount))

/-- JOT_SEG, JOT_BLKACK and JOT_TRANSFER_TIMEOUT (R68, R71). -/
def Obligations.SegmentedTransferRuns : Prop :=
  (∀ (s : State) (t : Tick) (r : Req) (cmd index sub num len val : Nat) (last : Bool) (x : JotXfer), r.tr ≠ .csr → (s.tickTo t).reaches r = true →
    (s.tickTo t).xferOf r = some x → x.write = true →
    Completes (.jotSeg t r cmd index sub num last len val) s (fun u =>
      (num < x.base ∨ x.blockEnd ≤ num → u.xferOf r = none ∧ u.jot.faults.getLast?.map (fun e => e.code) = some Abort.badSegment.code) ∧
      (x.base ≤ num → num < x.blockEnd → len ≠ x.segLen num →
        u.xferOf r = none ∧ u.jot.faults.getLast?.map (fun e => e.code) = some Abort.badCount.code) ∧
      (x.base ≤ num → num < x.blockEnd → len = x.segLen num → last = false → num + 1 ≠ x.count → num = x.next →
        num + 1 ≠ x.base + x.block →
        u.out = [] ∧
        u.xferOf r = some { x with
          next := num + 1, progressAt := (s.tickTo t).now, data := x.data + val % 2 ^ (8 * len) * 2 ^ (8 * num * x.seg) } ∧
        SameObjects (s.tickTo t) u [O.CAN_RX, O.UDP_RX]))) ∧
  (∀ (s : State) (t : Tick) (r : Req) (cmd index sub : Nat) (x : JotXfer), r.tr ≠ .csr → (s.tickTo t).reaches r = true →
    (s.tickTo t).xferOf r = some x →
    x.write = false → x.base ≤ x.count → x.next = x.count →
    Completes (.jotBlkack t r cmd index sub x.count) s (fun u => u.xferOf r = none ∧ u.out = [] ∧ SameObjects (s.tickTo t) u [O.CAN_RX, O.UDP_RX])) ∧
  (∀ (s : State) (t : Tick) (r : Req) (x : JotXfer), r.tr ≠ .csr → (s.tickTo t).carries r.tr = true → (s.tickTo t).xferOf r = some x →
    Completes (.jotTransferTimeout t r) s (fun u =>
      (x.progressAt + 500 * msTk ≤ (s.tickTo t).now → u.xferOf r = none ∧
        u.jot.faults.getLast?.map (fun e => e.code) = some Abort.timeout.code) ∧
      ((s.tickTo t).now < x.progressAt + 500 * msTk → u = s.tickTo t)))

/-- JOT_ABORT_RX (R72). -/
def Obligations.ClientAbortEndsTransfer : Prop :=
  ∀ (s : State) (t : Tick) (r : Req), r.tr ≠ .csr → (s.tickTo t).reaches r = true → Completes (.jotAbortRx t r) s (fun u =>
    u.xferOf r = none ∧ u.out = [] ∧ u.rd O.ABORTS_RECEIVED = ((s.tickTo t).rd O.ABORTS_RECEIVED + 1) % 2 ^ 32 ∧
    u = { s.tickTo t with objs := u.objs, jot := u.jot } ∧ SameObjects (s.tickTo t) u [O.CAN_RX, O.UDP_RX, O.ABORTS_RECEIVED])

/-- SVC_OPEN and CSR_SVC_CHALLENGE (R79); the challenge is drawn from the random source (assumption 4). -/
def Obligations.OneServiceSession : Prop :=
  (∀ (s : State) (t : Tick) (r : Req) (present : Nat), r.tr ≠ .csr → (s.tickTo t).reaches r = true →
    Completes (.svcOpen t r 0 present) s (fun u =>
      let s1 := s.heard t r
      u.jot.svc.holder = s1.jot.svc.holder ∧ (s1.jot.svc.holder.isSome = true → RefusedWith s1 u .svcBusy) ∧
      (s1.jot.svc.holder = none → s1.jot.svc.lockUntil = none →
        u.jot.svc.challenges = s1.jot.svc.challenges.filter (fun e => e.1 != reqWho r) ++
          [(reqWho r, Config.random s1.freeCtr % 2 ^ 128, s1.now)] ∧
        u.out = s1.out ++ [s1.rsp r 0x10 0 0 16 (Config.random s1.freeCtr % 2 ^ 128)]))) ∧
  (∀ (s : State) (t : Tick) (h : Fin 16), (s.tickTo t).hartRuns h.val = true → Completes (.csrSvcChallenge t h) s (fun u =>
      let s1 := s.heard t (hartReq h.val)
      u.jot.svc.holder = s1.jot.svc.holder ∧ (s1.jot.svc.holder.isSome = true → RefusedWith s1 u .svcBusy) ∧
      (s1.jot.svc.holder = none → s1.jot.svc.lockUntil = none →
        (reqWho (hartReq h.val), Config.random s1.freeCtr % 2 ^ 128, s1.now) ∈ u.jot.svc.challenges)))

/-- SVC_PROVE, CSR_SVC_PROOF, SVC_CLOSE and CSR_SVC_CLOSE (R78, R80, R81). -/
def Obligations.SessionProofAndClose : Prop :=
  (∀ (s : State) (t : Tick) (r : Req) (present proof : Nat), r.tr ≠ .csr → (s.tickTo t).reaches r = true → 16 ≤ present →
    (s.heard t r).jot.svc.holder = none → (s.heard t r).jot.svc.lockUntil = none → proof < 2 ^ 128 →
    Completes (.svcProve t r 16 present proof) s (fun u =>
      let s1 := s.heard t r
      (∀ e, s1.jot.svc.challenges.find? (fun e => e.1 == reqWho r) = some e → s1.now ≤ e.2.2 + 10 * secTk →
        proof = svcProof e.2.1 (s1.rd O.SERIAL_NUMBER) r.tr.code r.src →
        u.jot.svc.holder = some (reqWho r) ∧ u.jot.svc.denials = 0 ∧ u.rd O.SVC_HOLDER = r.tr.code * 256 + r.src) ∧
      ((∀ e, s1.jot.svc.challenges.find? (fun e => e.1 == reqWho r) = some e → s1.now ≤ e.2.2 + 10 * secTk →
          proof ≠ svcProof e.2.1 (s1.rd O.SERIAL_NUMBER) r.tr.code r.src) →
        u.jot.svc.holder = none ∧ u.rd O.SVC_DENIALS = (s1.rd O.SVC_DENIALS + 1) % 2 ^ 32 ∧
        u.jot.faults.getLast?.map (fun e => e.code) = some Abort.svcDenied.code))) ∧
  (∀ (s : State) (t : Tick) (h : Fin 16) (proof : Nat), s.takes t (hartReq h.val) O.SVC_PROOF 16 proof = true → proof < 2 ^ 128 →
    (s.heard t (hartReq h.val)).jot.svc.holder = none → (s.heard t (hartReq h.val)).jot.svc.lockUntil = none →
    Completes (.csrSvcProof t h proof) s (fun u =>
      let s1 := s.heard t (hartReq h.val)
      ∀ e, s1.jot.svc.challenges.find? (fun e => e.1 == hartReq h.val) = some e → s1.now ≤ e.2.2 + 10 * secTk →
        proof = svcProof e.2.1 (s1.rd O.SERIAL_NUMBER) 2 h.val →
        u.jot.svc.holder = some (hartReq h.val) ∧ u.rd O.SVC_HOLDER = 512 + h.val)) ∧
  (∀ (s : State) (t : Tick) (r : Req) (present : Nat), r.tr ≠ .csr → (s.tickTo t).reaches r = true →
    Completes (.svcClose t r 0 present) s (fun u =>
      ((s.heard t r).holdsSvc r = true → u.jot.svc.holder = none ∧ u.rd O.SVC_HOLDER = 0) ∧
      ((s.heard t r).holdsSvc r = false → RefusedWith (s.heard t r) u .svcRequired))) ∧
  (∀ (s : State) (t : Tick) (h : Fin 16), s.takes t (hartReq h.val) O.SVC_CLOSE 1 1 = true →
    Completes (.csrSvcClose t h 1) s (fun u =>
      ((s.heard t (hartReq h.val)).holdsSvc (hartReq h.val) = true → u.jot.svc.holder = none ∧ u.rd O.SVC_HOLDER = 0) ∧
      ((s.heard t (hartReq h.val)).holdsSvc (hartReq h.val) = false → RefusedWith (s.heard t (hartReq h.val)) u .svcRequired)))

/-- SVC_IDLE_TIMEOUT, SVC_LOCKOUT_EXPIRE, CAN_BUS_OFF, MGMT_PORT_RESET, CAN_BUS_OFF_RECOVERY. -/
def Obligations.SessionAndLockoutEnd : Prop :=
  (∀ (s : State) (t : Tick), Completes (.svcIdleTimeout t) s (fun u =>
    let s1 := s.tickTo t
    (s1.jot.svc.holder.isSome = true → s1.jot.svc.lastReq + s1.rd O.SVC_IDLE_S * secTk ≤ s1.now →
      u.jot.svc.holder = none ∧ u.rd O.SVC_HOLDER = 0 ∧ SameObjects s1 u [O.SVC_HOLDER]) ∧
    (s1.now < s1.jot.svc.lastReq + s1.rd O.SVC_IDLE_S * secTk → u = s1))) ∧
  (∀ (s : State) (t : Tick), Completes (.svcLockoutExpire t) s (fun u =>
    (∀ x, (s.tickTo t).jot.svc.lockUntil = some x → x ≤ (s.tickTo t).now → u.jot.svc.lockUntil = none) ∧
    (∀ x, (s.tickTo t).jot.svc.lockUntil = some x → (s.tickTo t).now < x → u = s.tickTo t) ∧
    u = { s.tickTo t with jot := u.jot })) ∧
  (∀ (s : State) (t : Tick), Completes (.canBusOff t) s (fun u =>
    ((s.tickTo t).jot.busOff = true → u = s.tickTo t) ∧
    ((s.tickTo t).jot.busOff = false → u.jot.busOff = true ∧ u.rd O.CAN_BUSOFF = ((s.tickTo t).rd O.CAN_BUSOFF + 1) % 2 ^ 32 ∧
      (∀ x ∈ u.jot.xfers, x.req.tr ≠ .can) ∧ (∀ h, u.jot.svc.holder = some h → h.tr ≠ .can) ∧ u.out = []))) ∧
  (∀ (s : State) (t : Tick), Completes (.mgmtPortReset t) s (fun u =>
    (∀ x ∈ u.jot.xfers, x.req.tr ≠ .udp) ∧ (∀ h, u.jot.svc.holder = some h → h.tr ≠ .udp) ∧ u.out = [])) ∧
  (∀ (s : State) (t : Tick), Completes (.canBusOffRecovery t) s (fun u =>
    u.jot.busOff = false ∧ u = { s.tickTo t with jot := u.jot }))

/-- HEARTBEAT_TIMER, CAN_FRAME_IGNORED, MGMT_FRAME_DROPPED, MGMT_ARP_ND_ECHO. -/
def Obligations.HeartbeatAndIgnoredFrames : Prop :=
  (∀ (s : State) (t : Tick), Completes (.heartbeatTimer t) s (fun u =>
    let s1 := s.tickTo t
    let p := s1.rd O.HEARTBEAT_MS * msTk
    (p = 0 ∨ s1.now < s1.jot.heartbeatAt + p → u = s1) ∧
    (p ≠ 0 → s1.jot.heartbeatAt + p ≤ s1.now → u.jot.heartbeatAt = s1.jot.heartbeatAt + p ∧
      (s1.carries .can = true → u.out.head? = some (s1.heartbeatTo .can 0)) ∧
      u.out.length = (if s1.carries .can then 1 else 0) +
        (if s1.carries .udp then (s1.jot.clients.filter (fun c => decide (s1.now ≤ c.2 + 60 * secTk))).length else 0) ∧
      SameObjects s1 u [O.CAN_TX]))) ∧
  (∀ (s : State) (t : Tick) (fd ext id : Bool) (ident : Nat), Completes (.canFrameIgnored t fd ext ident id) s (fun u =>
    let s1 := s.tickTo t
    (s1.carries .can = true → fd = true → ext = true → s1.ignored ident id = true →
      u.rd O.CAN_IGNORED = (s1.rd O.CAN_IGNORED + 1) % 2 ^ 32 ∧ SameObjects s1 u [O.CAN_IGNORED]) ∧
    (fd = false ∨ ext = false → u = s1) ∧ u = { s1 with objs := u.objs })) ∧
  (∀ (s : State) (t : Tick) (f : MgmtFrame), Completes (.mgmtFrameDropped t f) s (fun u =>
    let s1 := s.tickTo t
    (s1.carries .udp = true → s1.mgmtDrops f = true → u.rd O.MGMT_DROPPED = (s1.rd O.MGMT_DROPPED + 1) % 2 ^ 32) ∧
    (s1.mgmtDrops f = false → u = s1) ∧ u = { s1 with objs := u.objs } ∧ SameObjects s1 u [O.MGMT_DROPPED])) ∧
  (∀ (s : State) (t : Tick) (a : MgmtAsk), Completes (.mgmtArpNdEcho t a) s (fun u =>
    let s1 := s.tickTo t
    (s1.carries .udp = true → s1.asked a = true → u = s1.emit (.mgmtReply a)) ∧
    (s1.carries .udp = true → s1.asked a = false → u.rd O.MGMT_DROPPED = (s1.rd O.MGMT_DROPPED + 1) % 2 ^ 32 ∧ u.out = []) ∧
    SameObjects s1 u [O.MGMT_DROPPED]))

/-- CSR_READ_LATCH, CSR_WORD_STAGE and CSR_WORD0_COMMIT (R83, R85). -/
def Obligations.CsrWindowWords : Prop :=
  (∀ (s : State) (t : Tick) (h : Fin 16) (shadow : Bool) (index sub word : Nat) (d : ObjDesc), (s.tickTo t).hartRuns h.val = true →
    findObj index sub = .ok d → d.long = false → (s.heard t (hartReq h.val)).readCheck (hartReq h.val) index sub = .ok d →
    recKey index sub ≠ O.SVC_CHALLENGE →
    Completes (.csrReadLatch t h shadow index sub word) s (fun u =>
      let s1 := s.heard t (hartReq h.val)
      let x := s1.readObj (hartReq h.val) index sub d shadow
      let atShadow := shadow && d.access == .rws
      (word = 0 → u.out = s1.out ++ [.csrData h.val (x.2 % 2 ^ 32)] ∧
        (4 < x.1 → (u.csrHart h.val).latch = some (recKey index sub, atShadow, x.2))) ∧
      (word ≠ 0 → ∀ v, (s1.csrHart h.val).latch = some (recKey index sub, atShadow, v) →
        u.out = s1.out ++ [.csrData h.val (bits v (32 * word) 32)]) ∧ SameObjects s1 u [])) ∧
  (∀ (s : State) (t : Tick) (h : Fin 16) (shadow : Bool) (index sub word val : Nat) (d d' : ObjDesc), (s.tickTo t).hartRuns h.val = true → word ≠ 0 →
    findObj index sub = .ok d → d.long = false → (s.heard t (hartReq h.val)).writeCheck (hartReq h.val) index sub d.size = .ok d' →
    4 * word < d.size →
    Completes (.csrWordStage t h shadow index sub word val) s (fun u =>
      (recKey index sub, word, val % 2 ^ 32) ∈ (u.csrHart h.val).staged ∧ SameObjects (s.heard t (hartReq h.val)) u [])) ∧
  (∀ (s : State) (t : Tick) (h : Fin 16) (shadow : Bool) (index sub val : Nat) (d : ObjDesc), sub < 0xFE → findObj index sub = .ok d → d.size ≤ 4 →
    1 ≤ d.size → s.writable t (hartReq h.val) (recKey index sub) d.size (val % 2 ^ 32) = some d → d.access = .rw → d.ty ≠ .seqstat →
    d.slow = false → d.perReq = false → otpObj (recKey index sub) = false → recKey index sub ≠ O.HOST_TAIL →
    recKey index sub ≠ O.PAN_RETAIN_REQ →
    Completes (.csrWord0Commit t h shadow index sub val) s (fun u =>
      u.rd (recKey index sub) = kept (recKey index sub) (val % 2 ^ 32 % 2 ^ (8 * d.size)) ∧
      SameObjects (s.heard t (hartReq h.val)) u [recKey index sub])) ∧
  (∀ (s : State) (t : Tick) (h : Fin 16) (shadow : Bool) (index sub val w : Nat) (d : ObjDesc), sub < 0xFE → findObj index sub = .ok d → d.ty = .u 64 →
    d.access = .rw → d.slow = false → d.perReq = false → recKey index sub ∉ [O.CHAN_PLAN 0, O.CHAN_PLAN 1, O.CHAN_PLAN 2] →
    s.writable t (hartReq h.val) (recKey index sub) 8 (val % 2 ^ 32 + w % 2 ^ 32 * 2 ^ 32) = some d →
    ((s.heard t (hartReq h.val)).csrHart h.val).staged.find? (fun e => e.1 == recKey index sub && e.2.1 == 1) =
      some (recKey index sub, 1, w % 2 ^ 32) →
    Completes (.csrWord0Commit t h shadow index sub val) s (fun u =>
      u.rd (recKey index sub) = kept (recKey index sub) (val % 2 ^ 32 + w % 2 ^ 32 * 2 ^ 32)))

/-- XFER_CONTROL_READ, XFER_CONTROL_WRITE and XFER_COMPLETE (R87, R88). -/
def Obligations.TransferCells : Prop :=
  (∀ (s : State) (t : Tick) (h : Fin 16) (write shadow : Bool) (index sub : Nat) (d : ObjDesc), (s.tickTo t).hartRuns h.val = true →
    findObj index sub = .ok d → d.long = true →
    Completes (if write then .xferControlWrite t h shadow index sub else .xferControlRead t h shadow index sub) s (fun u =>
      let s1 := s.heard t (hartReq h.val)
      let c := s1.xferCell h.val (recKey index sub)
      let m := u.xferRun (recKey index sub)
      ((s1.xferRun (recKey index sub)).state = 1 → RefusedWith s1 u .transferBusy) ∧
      ((s1.xferRun (recKey index sub)).state ≠ 1 →
        m.state = 1 ∧ m.hart = h.val ∧ m.write = write ∧ m.shadow = shadow ∧ m.buf = c.buf ∧ m.len = c.len ∧ SameObjects s1 u []))) ∧
  (∀ (s : State) (t : Tick) (h : Fin 16) (index sub : Nat), Completes (.xferComplete t h index sub) s (fun u =>
    let s1 := s.tickTo t
    let c := s1.xferRun (recKey index sub)
    (c.state ≠ 1 ∨ c.hart ≠ h.val → u = s1) ∧
    (∀ d, c.state = 1 → c.hart = h.val → c.write = false → s1.readCheck (hartReq h.val) (c.key / 256) (c.key % 256) = .ok d →
      let x := s1.readObj (hartReq h.val) (c.key / 256) (c.key % 256) d c.shadow
      (c.len < x.1 → (u.xferRun c.key).state = 3 ∧ (u.xferRun c.key).abort = Abort.tooLong.code ∧ u.mem = s1.mem) ∧
      (x.1 ≤ c.len → s1.bufferGood c.buf c.len = false → (u.xferRun c.key).state = 3 ∧
        (u.xferRun c.key).abort = Abort.badBuffer.code ∧ u.mem = s1.mem) ∧
      (x.1 ≤ c.len → s1.bufferGood c.buf c.len = true → (u.xferRun c.key).state = 2 ∧
        (s1.memQuiet → (∀ i, i < x.1 → s1.memServed (c.buf + i) = true) →
          (∀ a, a < c.buf ∨ c.buf + x.1 ≤ a → u.memByte a = s1.memByte a) ∧
          (∀ a, c.buf ≤ a → a < c.buf + x.1 → u.memByte a = (octets x.2 x.1).getD (a - c.buf) 0))))))

/-- CSR_ACCESS_FAULT (Table 2.10, R82, R84) and CORE_ACCESS_FAULT (R37, R383). -/
def Obligations.AccessFaultsAreLogged : Prop :=
  (∀ (s : State) (t : Tick) (h : Fin 16) (addr width val : Nat) (write : Bool), (s.tickTo t).hartRuns h.val = true →
    0x400000000 ≤ addr → addr < 0x500000000 →
    Completes (.csrAccessFault t h addr width write val) s (fun u =>
      let s1 := s.heard t (hartReq h.val)
      (∀ a, s1.csrFault h.val addr width write = some a → RefusedWith s1 u a ∧ u.out = s1.out ++ [.busError h.val addr]) ∧
      (∀ (index sub : Nat) (d : ObjDesc), s1.csrFault h.val addr width write = none → write = false → width ≤ 32 →
        csrPlace addr = (index, sub, 0) → findObj index sub = .ok d → d.long = false → recKey index sub ≠ O.SVC_CHALLENGE →
        u.out = s1.out ++ [.csrData h.val (bits (s1.readObj (hartReq h.val) index sub d (decide (0x440000000 ≤ addr))).2
          (8 * (addr % 4)) width)] ∧ SameObjects s1 u []))) ∧
  (∀ (s : State) (t : Tick) (h : Fin 16) (addr width val : Nat) (write fetch : Bool), (s.tickTo t).hartRuns h.val = true →
    Completes (.coreAccessFault t h addr width write fetch val) s (fun u =>
      let s1 := s.tickTo t
      (∀ a, s1.coreRefusal addr width write = some a → RefusedWith s1 u a ∧ u.out = [.busError h.val addr]) ∧
      (s1.coreRefusal addr width write = none →
        (fetch = true → u = s1) ∧
        (fetch = false → write = false → width = 64 → addr = 0x0200F000 → u = s1.emit (.csrData h.val (bits s1.timeNow 0 64))) ∧
        (∀ k, k < 16 → fetch = false → write = true → width = 64 → addr = 0x02000000 + 256 * k →
          (u.hart k).cmp = val % 2 ^ 64 ∧ u = { s1 with cores := u.cores }) ∧
        (addr < 0x02000000 ∨ (0x02010000 ≤ addr ∧ addr < 0x0C000000) ∨ (0x10000000 ≤ addr ∧ addr < 0x30000000) ∨ 0x31000000 ≤ addr →
          u = s1))))

/-- LAY_ENTRY_PRESENTED (R124, R127, R136). -/
def Obligations.EntriesArePresentedOnce : Prop :=
  ∀ (s : State) (t : Tick) (word : Nat), Completes (.layEntryPresented t word) s (fun u =>
    let s1 := s.tickTo t
    (s1.entryAt word = none → u = s1) ∧
    (s1.laySteps = false ∨ word ∈ s1.lay.presented → u = s1) ∧
    (∀ c e, s1.entryAt word = some (c, e) → e.blk.at s1.slotPos = false ∨ s1.now ≠ s1.lay.slotAt + eTick e.w → u = s1) ∧
    (∀ c e, s1.entryAt word = some (c, e) → s1.laySteps = true → e.blk.at s1.slotPos = true →
      s1.now = s1.lay.slotAt + eTick e.w → word ∉ s1.lay.presented →
      word ∈ u.lay.presented ∧
      (((∀ m, s1.memberOf e.id ≠ some m) ∨ (∃ m, s1.memberOf e.id = some m ∧ s1.retired m = true)) → Counted s1 u O.UNMAPPED_SKIPPED) ∧
      (∀ m, s1.memberOf e.id = some m → s1.retired m = false →
        ((s1.entryWake m).entShed m e = true → Counted s1 u O.STAGE_SKIPPED) ∧
        ((s1.entryWake m).entShed m e = false → eKind e.w = 4 →
          u.rd (O.GATES (m - 0x430)) = e.gates % 2 ^ 64 ∧ look u.lay.res e.id = some (resState e s1.now)))))

/-- SLUICE_GATE_SET, SLUICE_C0_WINDOW and SLUICE_GUARD_WINDOW (R109, R347). -/
def Obligations.SluiceWindowsSetGates : Prop :=
  (∀ (s : State) (t : Tick) (port : Fin 4) (gates : Nat),
    EntryActs (.sluiceGateSet t port gates) s t (0x430 + port.val) (shedAt (0x430 + port.val)) (fun s1 u =>
      u.rd (O.GATES port.val) = gates % 2 ^ 64 ∧ u.rd (O.WINDOW port.val) = 0 ∧ (u.port port.val).closes = none ∧
      OnlyParts [.objs, .eth] s1 u ∧ SameObjects s1 u [O.GATES port.val, O.WINDOW port.val] ∧
      ∀ q, q ≠ port.val → u.port q = s1.port q)) ∧
  (∀ (s : State) (t : Tick) (port : Fin 4) (gates : Nat) (closes : Tick),
    EntryActs (.sluiceC0Window t port gates closes) s t (0x430 + port.val) (shedAt (0x430 + port.val)) (fun s1 u =>
      u.rd (O.GATES port.val) = gates % 2 ^ 64 ∧ u.rd (O.WINDOW port.val) = 1 ∧ (u.port port.val).closes = some closes ∧
      OnlyParts [.objs, .eth] s1 u ∧ SameObjects s1 u [O.GATES port.val, O.WINDOW port.val] ∧
      ∀ q, q ≠ port.val → u.port q = s1.port q)) ∧
  (∀ (s : State) (t : Tick) (port : Fin 4) (gates : Nat) (closes : Tick),
    EntryActs (.sluiceGuardWindow t port gates closes) s t (0x430 + port.val) (shedAt (0x430 + port.val)) (fun s1 u =>
      u.rd (O.GATES port.val) = gates % 2 ^ 64 ∧ u.rd (O.WINDOW port.val) = 2 ∧ (u.port port.val).closes = some closes ∧
      OnlyParts [.objs, .eth] s1 u ∧ SameObjects s1 u [O.GATES port.val, O.WINDOW port.val] ∧
      ∀ q, q ≠ port.val → u.port q = s1.port q))

/-- TASK_C0_WINDOW and TASK_END (R399 to R402). -/
def Obligations.TaskWindowsOpenAndClose : Prop :=
  (∀ (s : State) (t : Tick) (h : Fin 16) (flow : Fin 65536) (hitch : Option (Fin 1024)) (closes : Tick),
    EntryActs (.taskC0Window t h flow hitch closes) s t (0x420 + h.val) (shedAt (0x420 + h.val)) (fun s1 u =>
      let w : TaskWindow := { flow := flow.val, hitch := hitch.map (fun k => k.val), closes := closes }
      ((s1.hart h.val).active = false → (u.hart h.val).window = some w ∧
        (u.hart h.val).deferred = (if s1.hartState h.val = 4 then some w else none) ∧
        (s1.hartState h.val = 2 ∨ s1.hartState h.val = 3 → u.hartState h.val = 2 ∧ OutEvent.windowInterrupt h.val flow.val ∈ u.out ∧
          Counted s1 u O.C0_WINDOWS)) ∧
      ((s1.hart h.val).active = true → (u.hart h.val).deferred = some w ∧ (u.hart h.val).window = none ∧
        Counted s1 u O.WINDOW_DEFERRED))) ∧
  (∀ (s : State) (t : Tick) (h : Fin 16), EntryActs (.taskEnd t h) s t (0x420 + h.val) (shedAt (0x420 + h.val)) (fun s1 u =>
    (u.hart h.val).window = none ∧ (u.hart h.val).deferred = none ∧ (∀ k, k ≠ h.val → u.hart k = s1.hart k) ∧
    OnlyParts [.cores, .objs, .lay, .eth, .ctr] s1 u))

/-- CIPHER_RESERVE, CIPHER_RELEASE (R298), DRAM_REFRESH, DRAM_MAINT and DRAM_END (R425, R426). -/
def Obligations.CipherAndDramEntries : Prop :=
  (∀ (s : State) (t : Tick) (n : Fin 32) (h : Fin 1024),
    EntryActs (.cipherReserve t n h) s t (0x400 + n.val) (shedAt (0x400 + n.val)) (fun s1 u =>
      look u.cph.reserve n.val = some h.val ∧ u.oct O.ENGINE_STATE n.val = s1.oct O.ENGINE_STATE n.val % 16 + 128 ∧
      OnlyParts [.objs, .cph] s1 u ∧ SameObjects s1 u [O.ENGINE_STATE])) ∧
  (∀ (s : State) (t : Tick) (n : Fin 32),
    EntryActs (.cipherRelease t n) s t (0x400 + n.val) (shedAt (0x400 + n.val)) (fun s1 u =>
      look u.cph.reserve n.val = none ∧ u.oct O.ENGINE_STATE n.val = s1.oct O.ENGINE_STATE n.val % 16 ∧
      OnlyParts [.objs, .cph] s1 u ∧ SameObjects s1 u [O.ENGINE_STATE])) ∧
  (∀ (s : State) (t : Tick) (k : Fin 4) (count : Fin 256), Completes (.dramRefresh t k count) s (fun u =>
    let id := 0x438 + k.val
    let s1 := (s.tickTo t).entryWake id
    let c := k.val / 2
    (s1.shedHere id (shedAt id) = true → u = s1.bump O.STAGE_SKIPPED) ∧
    (s1.shedHere id (shedAt id) = false →
      (s1.chState c = 3 ∨ s1.chState c = 4 → Counted s1 u (O.REFRESHES c) count.val ∧
        (k.val % 2 < (s1.chan c).ranks.length → ((u.chan c).rank (k.val % 2)).refreshOpen = true) ∧ SameObjects s1 u [O.REFRESHES c]) ∧
      (s1.chState c = 0 → u = s1) ∧
      (s1.chState c ≠ 0 → s1.chState c ≠ 3 → s1.chState c ≠ 4 → Counted s1 u (O.REFRESH_SKIPPED c) ∧ u.mem = s1.mem)) ∧
    OnlyParts [.objs, .mem] s1 u)) ∧
  (∀ (s : State) (t : Tick) (k : Fin 4) (closes : Tick),
    EntryActs (.dramMaint t k closes) s t (0x438 + k.val) (shedAt (0x438 + k.val)) (fun s1 u =>
      let c := k.val / 2
      (s1.chState c = 3 ∨ s1.chState c = 4 → Counted s1 u (O.MAINT_WINDOWS c) ∧
        (k.val % 2 < (s1.chan c).ranks.length → ((u.chan c).rank (k.val % 2)).maintUntil = some closes) ∧
        (((s1.chan c).rank (k.val % 2)).lastZq + s1.rd (O.ZQ_PERIOD_MS c) * msTk ≤ s1.now → Counted s1 u (O.ZQ_RUNS c))) ∧
      (s1.chState c ≠ 3 → s1.chState c ≠ 4 → u = s1) ∧ OnlyParts [.objs, .mem, .out, .free] s1 u)) ∧
  (∀ (s : State) (t : Tick) (k : Fin 4), Completes (.dramEnd t k) s (fun u =>
    let s1 := s.tickTo t
    let c := k.val / 2
    (s1.chan c).rq = [] → (s1.chan c).wq = [] → (s1.chan c).input = [] →
    (k.val % 2 < (s1.chan c).ranks.length →
      ((u.chan c).rank (k.val % 2)).refreshOpen = false ∧ ((u.chan c).rank (k.val % 2)).maintUntil = none) ∧
    OnlyParts [.objs, .mem, .out, .free] s1 u))

/-- BIGHT_CONTENTION, BIGHT_CAPTURE, BIGHT_SPARE, BIGHT_END (R113), TEST_RUN and TEST_END (R477 to R479). -/
def Obligations.BightsAndTestsInTheLay : Prop :=
  (∀ (s : State) (t : Tick) (l : Fin 768) (stream : Fin 512) (cell : Nat) (closes : Tick),
    EntryActs (.bightContention t l stream cell closes) s t (0x100 + l.val) (min (shedAt (0x100 + l.val)) (streamShedAt stream.val))
      (fun s1 u =>
        (s1.laneServes l.val = true → u.laneState l.val = 2 ∧
          u.lane l.val = some { role := .contention, stream := stream.val, profile := strProfile (s1.streamEntry stream.val), cell := cell, hitch := none, closes := closes, stays := false, rx := none }) ∧
        (s1.laneServes l.val = false → u.rx = s1.rx ∧ SameObjects s1 u [O.CELL_UNTYPED]) ∧
        (∀ k : Nat, k ≠ l.val → u.lane k = s1.lane k) ∧ OnlyParts [.objs, .rx] s1 u)) ∧
  (∀ (s : State) (t : Tick) (l : Fin 768) (hitch : Option (Fin 1024)) (closes : Tick),
    EntryActs (.bightCapture t l hitch closes) s t (0x100 + l.val) (shedAt (0x100 + l.val)) (fun s1 u =>
      (s1.laneServes l.val = true → u.laneState l.val = 4 ∧
        ∃ x, u.lane l.val = some x ∧ x.role = .capture ∧ x.hitch = hitch.map (fun k => k.val) ∧ x.closes = closes ∧ x.rx = none) ∧
      (s1.laneServes l.val = false → u = s1))) ∧
  (∀ (s : State) (t : Tick) (id : Nat),
    ((∀ m, (s.tickTo t).memberOf id = some m → poolOf m ≠ 1) → Completes (.bightSpare t id) s (fun u => u = s.tickTo t)) ∧
    (∀ m, (s.tickTo t).memberOf id = some m → poolOf m = 1 → EntryActs (.bightSpare t id) s t m (shedAt m) (fun s1 u =>
      s1.laneServes (m - 0x100) = true → u.laneState (m - 0x100) = 4 ∧
        ∃ x, u.lane (m - 0x100) = some x ∧ x.role = .spare ∧ x.rx = none))) ∧
  (∀ (s : State) (t : Tick) (id : Nat),
    ((∀ m, (s.tickTo t).memberOf id = some m → poolOf m ≠ 1) → Completes (.bightEnd t id) s (fun u => u = s.tickTo t)) ∧
    (∀ m, (s.tickTo t).memberOf id = some m → poolOf m = 1 → EntryActs (.bightEnd t id) s t m (shedAt m) (fun s1 u =>
      s1.laneServes (m - 0x100) = true → u.laneState (m - 0x100) = 1 ∧ u.lane (m - 0x100) = none))) ∧
  (∀ (s : State) (t : Tick) (id test : Nat) (closes : Tick), Completes (.testRun t id test closes) s (fun u =>
      let s0 := s.tickTo t
      (s0.layRuns = false ∨ testFits test id = false ∨ closes ≤ s0.now → u = s0) ∧
      (s0.layRuns = true → testFits test id = true → s0.now < closes →
        (s0.memberOf id = none → Counted s0 u O.UNMAPPED_SKIPPED ∧ u.ctr.tests = s0.ctr.tests) ∧
        (∀ m, s0.memberOf id = some m → s0.retired m = true → Counted s0 u O.UNMAPPED_SKIPPED ∧ u.ctr.tests = s0.ctr.tests) ∧
        (∀ m, s0.memberOf id = some m → s0.retired m = false →
          let s1 := s0.entryWake m
          (s1.shedHere m (min 1 (shedAt m)) = true → u = s1.bump O.STAGE_SKIPPED) ∧
          (s1.shedHere m (min 1 (shedAt m)) = false → (∀ x ∈ s1.ctr.tests, x.member ≠ m) → s1.testBlocked m test = none →
            ∃ x ∈ u.ctr.tests, x.member = m ∧ x.logical = id ∧ x.test = test ∧ x.request = false))))) ∧
  (∀ (s : State) (t : Tick) (id : Nat), Completes (.testEnd t id) s (fun u =>
      let s1 := s.tickTo t
      ((∀ x ∈ s1.ctr.tests, x.logical ≠ id ∨ x.request = true) → u = s1) ∧
      (∀ x, s1.ctr.tests.find? (fun y => y.logical == id && !y.request) = some x →
        (∀ y ∈ u.ctr.tests, y.member ≠ x.member) ∧ ∃ r ∈ u.ctr.reinit, r.member = x.member ∧
          ∃ y ∈ s1.ctr.tests, y.member = x.member ∧ r.at_ = s1.now + testBack y.test)))

/-- SLOT_BOUNDARY (R95, R114, R117). -/
def Obligations.SlotBoundaryBeginsTheNextSlot : Prop :=
  ∀ (s : State) (t : Tick), Completes (.slotBoundary t) s (fun u =>
    let s1 := s.tickTo t
    let next := if s1.lay.slotEnd.isSome then s1.gridAsn s1.nextSlotAt else (s1.lay.asn + 1) % 2 ^ 40
    (s1.domainUp 8 = false ∨ s1.pwr.s5.isSome = true ∨ s1.now < s1.nextSlotAt → u = s1) ∧
    (s1.domainUp 8 = true → s1.pwr.s5 = none → s1.nextSlotAt ≤ s1.now →
      u.lay.slotAt = s1.nextSlotAt ∧ (s1.mac.adopt = none → u.lay.asn = next) ∧ u.lay.presented = [] ∧
      u.rd O.SLOT_POS = u.slotPos ∧ u.rd O.ASN_NOW = u.lay.asn ∧
      (s1.lay.stopPending = true → u.rd O.RUNNING_BANK = 0xFF) ∧
      (s1.lay.stopPending = false → s1.mac.adopt = none → s1.layState = 5 → s1.rd O.SWAP_ASN ≠ 0 →
        s1.rd O.SWAP_ASN ≤ next → u.rd O.RUNNING_BANK = s1.lay.standby)))

/-- LAY_VERIFY, VERIFY_DONE, LAY_ARM, LAY_DISARM, LAY_CLEAR and LAY_STOP (Table 3.7, R114 to R123). -/
def Obligations.LayCommandsMoveTheBank : Prop :=
  (∀ (s : State) (t : Tick) (r : Req), s.takes t r O.LAY_COMMAND 4 1 = true → Completes (.layVerify t r) s (fun u =>
    let s1 := s.heard t r
    let ok : Bool := decide (1 ≤ s1.layState ∧ s1.layState ≤ 4) && !s1.lay.stopPending
    (ok = true → s1.verifyDomains s1.standby.words = [] → s1.pwr.queue = [] → u.layState = 2 ∧ u.lay.verifyAt = some (s.tickTo t).now) ∧
    (ok = false → RefusedWith s1 u .valueRange))) ∧
  (∀ (s : State) (t : Tick), Completes (.verifyDone t) s (fun u =>
    let s1 := s.tickTo t
    let b := s1.standby
    (s1.lay.verifyAt = none ∨ s1.verifyReady = false → u = s1) ∧
    (s1.lay.verifyAt.isSome = true → s1.verifyReady = true →
      u.lay.verifyAt = none ∧
      (loadCheck (s1.loadEnv b.words b.written) b.words = none →
        u.layState = 3 ∧ u.rd O.WARNINGS = warningsOf (s1.loadEnv b.words b.written) b.words) ∧
      (∀ x, loadCheck (s1.loadEnv b.words b.written) b.words = some x →
        u.layState = 4 ∧ u.rd O.REJECT_REASON = x.code ∧ u.rd O.REJECT_WORD = x.word ∧ u.rd O.REJECT_ITEM = x.item % 2 ^ 16 ∧
        u.rd O.REJECT_DETAIL = x.detail ∧ Counted s1 u O.REJECTS)))) ∧
  (∀ (s : State) (t : Tick) (r : Req), s.takes t r O.LAY_COMMAND 4 2 = true → Completes (.layArm t r) s (fun u =>
    let s1 := s.heard t r
    let ok : Bool := s1.layState == 3 && !s1.lay.stopPending && (s1.rd O.SWAP_ASN == 0 || decide (s1.lay.asn < s1.rd O.SWAP_ASN))
    let short := checkShort (s1.loadEnv s1.standby.words s1.standby.written) s1.standby.words
    (s1.lifecycle = 4 → RefusedWith s1 u .lifecycle) ∧
    (s1.lifecycle ≠ 4 → ok = false → RefusedWith s1 u .valueRange) ∧
    (s1.lifecycle ≠ 4 → ok = true → (short = none → u.layState = 5 ∧ u.lay.armedAt = (s.tickTo t).now) ∧
      (short.isSome = true → u.layState = 4)))) ∧
  (∀ (s : State) (t : Tick) (r : Req), s.takes t r O.LAY_COMMAND 4 3 = true → Completes (.layDisarm t r) s (fun u =>
    let s1 := s.heard t r
    (s1.layState = 5 → u.layState = 3 ∧ SameObjects s1 u [O.LAY_STATUS, O.CAN_TX]) ∧ (s1.layState ≠ 5 → RefusedWith s1 u .valueRange))) ∧
  (∀ (s : State) (t : Tick) (r : Req), s.takes t r O.LAY_COMMAND 4 4 = true → Completes (.layClear t r) s (fun u =>
    let s1 := s.heard t r
    (s1.lay.stopPending = false → u.layState = 0 ∧ u.standby.words = [] ∧ u.lay.verifyAt = none) ∧
    (s1.lay.stopPending = true → RefusedWith s1 u .valueRange))) ∧
  (∀ (s : State) (t : Tick) (r : Req), s.takes t r O.LAY_COMMAND 4 5 = true → Completes (.layStop t r) s (fun u =>
    let s1 := s.heard t r
    (s1.bootLay = false → u.layState = 0 ∧ u.standby.words = [] ∧ u.lay.stopPending = true) ∧
    (s1.bootLay = true → RefusedWith s1 u .valueRange)))

/-- HITCH_CLEAR, RETIRED_CLEAR (R146), WHY_QUERY (R156) and FORBID_EMPTIED (R158). -/
def Obligations.PlacementCommands : Prop :=
  (∀ (s : State) (t : Tick) (r : Req) (val : Nat), s.takes t r O.HITCH_CLEAR 2 val = true → val < 2 ^ 16 → Completes (.hitchClear t r val) s (fun u =>
    let s1 := s.heard t r
    (val = 0xFFFF → u.lay.hitches = []) ∧
    (val ≤ 1023 → look u.lay.hitches val = none ∧ ∀ k, k ≠ val → look u.lay.hitches k = look s1.lay.hitches k) ∧
    (1023 < val → val ≠ 0xFFFF → RefusedWith s1 u .valueRange) ∧ OnlyParts (answers [.lay]) s1 u)) ∧
  (∀ (s : State) (t : Tick) (r : Req) (val : Nat), s.takes t r O.RETIRED_CLEAR 2 val = true → val < 2 ^ 16 →
    Completes (.retiredClear t r val) s (fun u =>
      let s1 := s.heard t r
      (val < 816 → bitAt (s1.rd O.RETIRED) val = true → bitAt (u.rd O.RETIRED) val = false ∧ bitMember val ∈ u.plc.probation) ∧
      (val < 816 → bitAt (s1.rd O.RETIRED) val = false → u.plc = s1.plc ∧ SameObjects s1 u [O.CAN_TX]) ∧
      (816 ≤ val → ¬ (0x400 ≤ val ∧ val ≤ 0x40F) → val ≠ 0xFFFF → RefusedWith s1 u .valueRange) ∧
      OnlyParts (answers [.plc]) s1 u)) ∧
  (∀ (s : State) (t : Tick) (r : Req) (val : Nat), s.takes t r O.WHY_QUERY 4 val = true → val < 2 ^ 32 →
    Completes (.whyQuery t r val) s (fun u =>
      let s1 := s.heard t r
      let kind := bits val 28 4
      let obj := bits val 0 24
      (whyRange kind obj = false → RefusedWith s1 u .valueRange) ∧
      (whyRange kind obj = true →
        (∀ e, s1.objPresent kind obj = true → s1.plc.journal.reverse.find? (fun e => e.names kind obj) = some e →
          u.rdReq r O.WHY_RESULT = e.word) ∧
        (s1.objPresent kind obj = false ∨ (∀ e ∈ s1.plc.journal, e.names kind obj = false) → u.rdReq r O.WHY_RESULT = 0) ∧
        u.rdReq r O.WHERE = s1.whereIs kind obj))) ∧
  (∀ (s : State) (t : Tick), Completes (.forbidEmptied t) s (fun u =>
    let s1 := s.tickTo t
    OnlyParts [.plc] s1 u ∧ (s1.plc.emptiedAt.isSome = true → u = s1) ∧
    (∀ g, look s1.groups 0x3102 = some g → g.pendingAt.isSome = true → s1.plc.emptiedAt = none →
      s1.forbidClear ((look s1.shadow O.PAN_RESERVE).getD (s1.rd O.PAN_RESERVE)) = true → u.plc.emptiedAt = some s1.now)))

/-- THERMAL_TRIGGER, FLOW_LOAD_TICK, TIER_DEMOTE, MIGRATION_COPY_DONE, MIGRATION_SWITCH, PAN_IDLE_POWER_DOWN. -/
def Obligations.PlacementTriggers : Prop :=
  (∀ (s : State) (t : Tick) (n : Fin 5) (temp : Int), Completes (.thermalTrigger t n temp) s (fun u =>
    let s1 := s.tickTo t
    OnlyParts [.plc] s1 u ∧ lookD u.plc.regionTemp n.val 0 = ((temp + 64) % 256).toNat ∧
    (s1.triggerOn 0 = false → u.plc.decisions = s1.plc.decisions) ∧
    (s1.triggerOn 0 = true → s1.rdI O.THERMAL_HIGH_C 16 < temp → n.val ∉ s1.plc.hotRegions →
      (∀ d ∈ s1.plc.decisions, ¬ (d.cause = 9 ∧ d.subject = n.val)) →
      u.plc.decisions = s1.plc.decisions ++ [{ cause := 9, subject := n.val, on := true, madeAt := s1.now }]))) ∧
  (∀ (s : State) (t : Tick), Completes (.flowLoadTick t) s (fun u =>
    let s1 := s.tickTo t
    (s1.now < s1.plc.loadAt + 100 * msTk → u = s1) ∧
    (s1.plc.loadAt + 100 * msTk ≤ s1.now → u.plc.loadAt = s1.now ∧ (s1.triggerOn 3 = false → OnlyParts [.plc] s1 u)))) ∧
  (∀ (s : State) (t : Tick) (i : Fin 262144), Completes (.tierDemote t i) s (fun u =>
    let s1 := s.tickTo t
    OnlyParts [.plc] s1 u ∧ (s1.locOf 1 i.val = none ∨ s1.locOf 1 i.val = some 0x459 → u = s1) ∧ (s1.hitchSensors.contains i.val = true → u = s1) ∧
    (s1.now < s1.lastFrame i.val + s1.rd O.DEMOTE_IDLE_S * secTk → u = s1) ∧
    (∀ p, p < 16 → s1.locOf 1 i.val = some (panLoc p) → s1.panFree p < 0x100000 → s1.triggerOn 4 = true → s1.forcedTier i.val = 0 →
      s1.hitchSensors.contains i.val = false → s1.hotFits = false → s1.lastFrame i.val + s1.rd O.DEMOTE_IDLE_S * secTk ≤ s1.now →
      s1.dwellPast (objKey 1 i.val) = true → s1.chServes 0 = true →
      (∀ m ∈ s1.plc.migrations, ¬ (m.kind = 1 ∧ m.obj = i.val)) →
      u.plc.migrations = s1.plc.migrations ++
        [{ kind := 1, obj := i.val, src := panLoc p, dst := 0x458, cause := 0x0D, copied := false, due := s1.copyDue (objKey 1 i.val) 0x0D, detail := 0 }]))) ∧
  (∀ (s : State) (t : Tick) (kind obj : Nat), Completes (.migrationCopyDone t kind obj) s (fun u =>
    let s1 := s.tickTo t
    OnlyParts [.plc] s1 u ∧ ∀ m ∈ u.plc.migrations, m.kind = kind → m.obj = obj → m.due ≤ s1.now → m.copied = true)) ∧
  (∀ (s : State) (t : Tick) (kind obj : Nat) (m : Migration), (s.tickTo t).plc.migrations.find? (fun m => m.kind == kind && m.obj == obj) = some m →
    Completes (.migrationSwitch t kind obj) s (fun u =>
      let s1 := s.tickTo t
      (m.copied = false ∨ s1.objRest m = false → u = s1) ∧
      (m.copied = true → s1.objRest m = true → u.locOf kind obj = some m.dst ∧ Counted s1 u O.MIGRATIONS ∧
        (∀ x ∈ u.plc.migrations, ¬ (x.kind = kind ∧ x.obj = obj)) ∧ OnlyParts [.objs, .plc] s1 u))) ∧
  (∀ (s : State) (t : Tick) (p : Fin 16), Completes (.panIdlePowerDown t p) s (fun u =>
    let s1 := s.tickTo t
    (s1.pan p.val ≠ 1 ∨ s1.flag O.PAN_RESERVE p.val = true ∨ s1.oct O.PAN_POWER p.val ≠ 2 ∨
      s1.now < lookD s1.plc.panEmptyAt p.val 0 + 60 * secTk → u = s1) ∧
    (s1.pan p.val = 1 → (s1.objsAt (panLoc p.val)).isEmpty = true → s1.flag O.PAN_RESERVE p.val = false → s1.oct O.PAN_POWER p.val = 2 →
      s1.panTests = false → lookD s1.plc.panEmptyAt p.val 0 + 60 * secTk ≤ s1.now →
      u.pan p.val = 0 ∧ u.oct O.PAN_POWER p.val = 0)))

/-- SYNTH_HOP, SYNTH_RECAL, SYNTH_OFF and MANUAL_HOP (R162 to R168, R173, R198). -/
def Obligations.HopsTuneTheSynthesizer : Prop :=
  let off := fun (u : State) (x : Nat) => (u.trx x).tune = none ∧ (u.trx x).locked = false ∧ (u.trx x).rxOpen = false ∧
    (u.trx x).txOpen = false ∧ u.trxState x = 2
  let tuned := fun (s1 u : State) (x c : Nat) (path recal : Bool) =>
    let valid := s1.calValid x c path
    (u.trx x).locked = false ∧ (u.trx x).blocked = false ∧
    (u.trx x).tune = some { channel := c, path := path, since := s1.now, full := recal || !valid, miss := !valid, runs := [] } ∧
    u.rd (O.N_INT x) * 2 ^ 24 + u.rd (O.N_FRAC x) = synthCode x (s1.chanFreq x c) path ∧
    (valid = false → recal = false → Counted s1 u (O.HOP_MISS x)) ∧
    (valid = true → u.rd (O.HOP_MISS x) = s1.rd (O.HOP_MISS x))
  (∀ (s : State) (t : Tick) (x : Fin 3) (path recal : Bool) (c : Fin 1024),
    EntryActs (if recal then .synthRecal t x path c else .synthHop t x path c) s t (4 * x.val) (shedAt (4 * x.val)) (fun s1 u =>
      (s1.trxState x.val = 0 → u = s1.calAbandon x.val) ∧
      (s1.trxState x.val ≠ 0 →
        (s1.chanFreq x.val c.val = 0 → Counted s1 u (O.HOP_MISS x.val) ∧ off u x.val) ∧
        (s1.chanFreq x.val c.val ≠ 0 → s1.regMasked x.val path c.val = true →
          Counted s1 u (O.REG_MASK_BLOCK x.val) ∧ (u.trx x.val).tune = none ∧ (u.trx x.val).locked = false ∧ (u.trx x.val).blocked = true) ∧
        (s1.chanFreq x.val c.val ≠ 0 → s1.regMasked x.val path c.val = false → tuned s1 u x.val c.val path recal)) ∧
      OnlyParts [.objs, .radio, .rx, .mac, .out, .free] s1 u)) ∧
  (∀ (s : State) (t : Tick) (x : Fin 3), EntryActs (.synthOff t x) s t (4 * x.val) (shedAt (4 * x.val)) (fun s1 u =>
      (s1.trxState x.val = 0 → u = s1.calAbandon x.val) ∧ (s1.trxState x.val ≠ 0 → off u x.val) ∧
      OnlyParts [.objs, .radio, .rx, .mac, .out, .free] s1 u)) ∧
  (∀ (s : State) (t : Tick) (r : Req) (x : Fin 3) (v : Nat), s.takes t r (O.MANUAL_HOP x.val) 4 v = true → v < 2 ^ 32 →
    Completes (.manualHop t r x v) s (fun u =>
      let s1 := s.heard t r
      let held := (strandsOf s1.runWords s1.runSec).any (fun st => st.id / 4 == x.val && decide (st.id < 12))
      (held = true → RefusedWith s1 u .valueRange) ∧
      (held = false → s1.trxState x.val ≠ 0 → s1.chanFreq x.val (v % 1024) ≠ 0 → s1.regMasked x.val (bitAt v 10) (v % 1024) = false →
        tuned s1 u x.val (v % 1024) (bitAt v 10) false)))

/-- SYNTH_LOCK, SYNTH_LOCK_TIMEOUT, SYNTH_FAULT, SYNTH_LOCK_LOST and STREAMS_VALID (R168 to R172). -/
def Obligations.LocksAndTheirFaults : Prop :=
  (∀ (s : State) (t : Tick) (x : Fin 3), Completes (.synthLock t x) s (fun u =>
    let s1 := s.tickTo t
    (s1.trxState x.val = 0 ∨ ((s1.trx x.val).tune = none ∧ (s1.trx x.val).seeking = false) → u = s1) ∧
    (s1.trxState x.val ≠ 0 → (s1.trx x.val).tune = none → (s1.trx x.val).seeking = true →
      (u.trx x.val).locked = true ∧ (u.trx x.val).seeking = false ∧ OnlyParts [.objs, .radio] s1 u) ∧
    (∀ a, s1.trxState x.val ≠ 0 → (s1.trx x.val).tune = some a →
      (u.trx x.val).locked = true ∧ (u.trx x.val).tune = none ∧ u.rd (O.CHANNEL x.val) = a.channel ∧
      u.rd (O.PATH x.val) = (if a.path then 1 else 0) ∧ (a.full = true → Counted s1 u (O.RECAL_DONE x.val)) ∧
      OnlyParts [.objs, .radio] s1 u))) ∧
  (∀ (s : State) (t : Tick) (x : Fin 3), Completes (.synthLockTimeout t x) s (fun u =>
    let s1 := s.tickTo t
    ((s1.trx x.val).tune = none → u = s1) ∧
    (∀ a, (s1.trx x.val).tune = some a → (a.full = true ∨ s1.now < a.since + 2800 → u = s1) ∧
      (a.full = false → a.since + 2800 ≤ s1.now → (u.trx x.val).tune = some { a with full := true, miss := true })))) ∧
  (∀ (s : State) (t : Tick) (x : Fin 3), Completes (.synthFault t x) s (fun u =>
    let s1 := s.tickTo t
    ∀ a, (s1.trx x.val).tune = some a → (s1.now < a.since + 36000 → u = s1) ∧
      (a.since + 36000 ≤ s1.now → (u.trx x.val).tune = none ∧ Counted s1 u (O.SYNTH_FAULT x.val) ∧
        (u.trx x.val).faults = (s1.trx x.val).faults + 1 ∧ OnlyParts [.objs, .radio] s1 u))) ∧
  (∀ (s : State) (t : Tick) (x : Fin 3), Completes (.synthLockLost t x) s (fun u =>
    let s1 := s.tickTo t
    ((s1.trx x.val).locked = false → u = s1) ∧
    ((s1.trx x.val).locked = true → (u.trx x.val).locked = false ∧ (u.trx x.val).seeking = true ∧ (u.trx x.val).streamsAt = none ∧
      ((s1.trx x.val).txOpen = true → Counted s1 u (O.LOCK_LOST x.val)) ∧
      ((s1.trx x.val).losses = (s1.lay.asn, 1) → s1.rd (O.CHANNEL x.val) < 1024 →
        bitAt (u.calEntry x.val (s1.rd (O.CHANNEL x.val))) (calValidBit (s1.rd (O.PATH x.val) == 1)) = false)))) ∧
  (∀ (s : State) (t : Tick) (x : Fin 3), Completes (.streamsValid t x) s (fun u =>
    let s1 := s.tickTo t
    ((s1.trx x.val).streamsAt = none ∨ (s1.trx x.val).rxOpen = false → u = s1) ∧
    (∀ a, (s1.trx x.val).streamsAt = some a → (s1.now < a → u = s1) ∧
      (a ≤ s1.now → (s1.trx x.val).rxOpen = true → (u.trx x.val).streamsAt = none ∧ SameObjects s1 u [O.STREAM_VALID] ∧
        ∀ n ∈ streamsOf x.val, strEnable (s1.streamEntry n) = true → s1.partUp 5 (streamBand n) = true →
          s1.underTest (0x450 + streamBand n) = false → bitAt (u.rd O.STREAM_VALID) n = true))))

/-- RX_ON, RX_SINGLE, RX_IDLE, TX_IDLE, TUNER_PRESET, TUNER_HOLD and TUNER_MEASURE (Table 5.2, R171, R175, R182, R191, R192). -/
def Obligations.WindowsOfATransceiver : Prop :=
  (∀ (s : State) (t : Tick) (x : Fin 3) (single : Bool),
    EntryActs (if single then .rxSingle t x else .rxOn t x) s t (4 * x.val + 2) (shedAt (4 * x.val + 2)) (fun s1 u =>
      (s1.trxState x.val = 0 → u = s1.calAbandon x.val) ∧
      (s1.trxState x.val ≠ 0 → u.trxState x.val = 5 ∧ (u.trx x.val).rxOpen = true ∧ (u.trx x.val).rxSingle = single ∧
        (u.trx x.val).txOpen = false ∧
        ((s1.trx x.val).blocked = false → 5 ≤ s1.trxState x.val ∨ (s1.trx x.val).locked = false → Counted s1 u (O.RX_LATE_LOCK x.val)) ∧
        ((s1.trx x.val).locked = true → (s1.trx x.val).blocked = false → s1.rd (O.PATH x.val) ≠ 1 →
          (u.trx x.val).streamsAt = some (s1.now + 2000))))) ∧
  (∀ (s : State) (t : Tick) (x : Fin 3), EntryActs (.rxIdle t x) s t (4 * x.val + 2) (shedAt (4 * x.val + 2)) (fun s1 u =>
    ((s1.trx x.val).rxOpen = false → u = s1.calAbandon x.val) ∧
    ((s1.trx x.val).rxOpen = true → (u.trx x.val).rxOpen = false ∧
      (s1.trxState x.val ≠ 0 → u.trxState x.val = (if (s1.trx x.val).locked then 4 else 2)) ∧ OnlyParts [.objs, .radio, .rx, .free] s1 u))) ∧
  (∀ (s : State) (t : Tick) (x : Fin 3), EntryActs (.txIdle t x) s t (4 * x.val + 1) (shedAt (4 * x.val + 1)) (fun s1 u =>
    ((s1.trx x.val).txOpen = false → u = s1.calAbandon x.val) ∧
    ((s1.trx x.val).txOpen = true → (u.trx x.val).txOpen = false ∧ (u.trx x.val).tx = none ∧
      (s1.trxState x.val ≠ 0 → u.trxState x.val = (if (s1.trx x.val).locked then 4 else 2)) ∧ OnlyParts [.objs, .radio, .mac, .out] s1 u))) ∧
  (∀ (s : State) (t : Tick) (x : Fin 3) (n : Fin 256),
    EntryActs (.tunerPreset t x n) s t (4 * x.val + 3) (shedAt (4 * x.val + 3)) (fun s1 u =>
      (s1.trxState x.val = 0 → u = s1.calAbandon x.val) ∧
      (s1.trxState x.val ≠ 0 → u.rd (O.TUNER_CODES x.val) = s1.tunerPreset x.val n.val ∧ u.rd (O.TUNER_PRESET_NOW x.val) = n.val ∧
        (u.trx x.val).tuner.measuring = false ∧ (u.trx x.val).tuner.preset = s1.tunerPreset x.val n.val ∧
        SameObjects s1 u [O.TUNER_CODES x.val, O.TUNER_PRESET_NOW x.val]))) ∧
  (∀ (s : State) (t : Tick) (x : Fin 3) (on : Bool),
    EntryActs (if on then .tunerMeasure t x else .tunerHold t x) s t (4 * x.val + 3) (shedAt (4 * x.val + 3)) (fun s1 u =>
      (s1.trxState x.val = 0 → u = s1.calAbandon x.val) ∧ (s1.trxState x.val ≠ 0 → (u.trx x.val).tuner.measuring = on) ∧
      OnlyParts [.radio] s1 u))

/-- TX_CELL, TX_PLY, TX_END, MASK_CHECK, POWER_MEASURE, TX_INHIBIT_CLEAR and DUTY_BIN_ROLL (R185 to R199). -/
def Obligations.TransmissionsAreJudged : Prop :=
  (∀ (s : State) (t : Tick) (x : Fin 3) (cell : Nat) (hitch : Option (Fin 1024)) (closes : Tick),
    Completes (.txCell t x cell hitch closes) s (fun u =>
      let s0 := s.tickTo t
      let id := 4 * x.val + 1
      let s1 := s0.entryWake id
      (s0.layRuns = false → u = s0) ∧
      (s0.layRuns = true → s1.shedHere id (shedAt id) = true →
        u = (s1.bump O.STAGE_SKIPPED).txSkipped x.val cell (hitch.map (fun h => h.val))) ∧
      (s0.serves id (shedAt id) = true →
        (s1.trxState x.val ≠ 0 → u.trxState x.val = 6 ∧ (u.trx x.val).txOpen = true ∧ (u.trx x.val).rxOpen = false) ∧
        (s1.trxState x.val ≠ 0 → (s1.trx x.val).blocked = false → 5 ≤ s1.trxState x.val ∨ (s1.trx x.val).locked = false →
          Counted s1 u (O.TX_LATE_LOCK x.val) ∧ u.rd (O.TX_STARTED x.val) = s1.rd (O.TX_STARTED x.val)) ∧
        (ceType (s1.cell cell) ∉ [1, 2, 3, 4, 5, 6, 7] → Counted s1 u O.CELL_UNTYPED)))) ∧
  (∀ (s : State) (t : Tick) (span : List (Fin 3)) (cell : Nat) (hitch : Option (Fin 1024)) (closes : Tick),
    Completes (.txPly t span cell hitch closes) s (fun u =>
      let s0 := s.tickTo t
      let id := 4 * (span.headD 0).val + 1
      let at_ := span.foldl (fun m x => min m (shedAt (4 * x.val))) 2
      let s1 := s0.entryWake id
      (s0.layRuns = false → u = s0) ∧
      (s0.layRuns = true → s1.shedHere id at_ = true → u = (s1.bump O.STAGE_SKIPPED).plySkipped cell (hitch.map (fun h => h.val))) ∧
      (s0.serves id at_ = true →
        ∀ x ∈ span, s1.trxState x.val ≠ 0 → u.trxState x.val = 6 ∧ (u.trx x.val).txOpen = true ∧
          ((s1.trx x.val).locked = false → (s1.trx x.val).blocked = false → u.rd (O.TX_STARTED x.val) = s1.rd (O.TX_STARTED x.val))))) ∧
  (∀ (s : State) (t : Tick) (x : Fin 3), Completes (.txEnd t x) s (fun u =>
      let s1 := s.tickTo t
      ((s1.trx x.val).tx = none → u = s1) ∧
      (∀ r, (s1.trx x.val).tx = some r → (r.ended = true ∨ s1.now < r.ends → u = s1) ∧
        (r.ended = false → r.ends ≤ s1.now → (u.trx x.val).tx = some { r with ended := true })))) ∧
  (∀ (s : State) (t : Tick) (x : Fin 3) (bins : List (Int × Int)), Completes (.maskCheck t x bins) s (fun u =>
      let s1 := s.tickTo t
      let bad := s1.maskBad x.val bins
      ∀ r, (s1.trx x.val).tx = some r → (r.ended = true → u = s1) ∧
        (r.ended = false → bad = false → (u.trx x.val).tx = some { r with maskBad := 0 } ∧ OnlyParts [.radio] s1 u) ∧
        (r.ended = false → bad = true → r.maskBad = 0 → (u.trx x.val).tx = some { r with maskBad := 1 } ∧ OnlyParts [.radio] s1 u) ∧
        (r.ended = false → bad = true → 1 ≤ r.maskBad → r.ply = false → u.txBusy x.val = false ∧ Counted s1 u (O.MASK_ABORT x.val)))) ∧
  (∀ (s : State) (t : Tick) (x : Fin 3) (fwd rl : Int), Completes (.powerMeasure t x fwd rl) s (fun u =>
      let s1 := s.tickTo t
      ∀ r, (s1.trx x.val).tx = some r → (r.ended = true → u = s1) ∧
        (r.ended = false → u.rd (O.FWD_PWR_QDBM x.val) = ofInt 16 fwd ∧
          (s1.txLimit x.val + 4 < fwd → Counted s1 u (O.POWER_TRIM x.val)) ∧
          (∀ l, -40 ≤ fwd → rl < (s1.rd (O.RL_INHIBIT x.val) : Int) → (s1.trx x.val).tuner.lastRl = some l →
            l < (s1.rd (O.RL_INHIBIT x.val) : Int) → bitAt (u.rd (O.TRX_EVENTS x.val)) 7 = true) ∧
          (fwd < -40 → OnlyParts [.objs] s1 u)))) ∧
  (∀ (s : State) (t : Tick) (r : Req) (x : Fin 3) (v : Nat), s.takes t r (O.TX_INHIBIT_CLEAR x.val) 1 v = true → v < 2 →
    Completes (.txInhibitClear t r x v) s (fun u =>
      let s1 := s.heard t r
      (v = 1 → bitAt (u.rd (O.TRX_EVENTS x.val)) 7 = false) ∧ (v = 0 → u.rd (O.TRX_EVENTS x.val) = s1.rd (O.TRX_EVENTS x.val)) ∧
      OnlyParts (answers []) s1 u ∧ SameObjects s1 u [O.TRX_EVENTS x.val, O.CAN_TX])) ∧
  (∀ (s : State) (t : Tick), Completes (.dutyBinRoll t) s (fun u =>
      let s1 := s.tickTo t
      (s1.now < s1.radio.dutyAt + secTk → u = s1) ∧
      (s1.radio.dutyAt + secTk ≤ s1.now → u.radio.dutySec = s1.radio.dutySec + 1 ∧ u.radio.dutyAt = s1.radio.dutyAt + secTk ∧
        (∀ k ∈ u.radio.duty, ∀ e ∈ k.2, u.radio.dutySec ≤ e.1 + 3600) ∧ OnlyParts [.radio] s1 u)))

/-- The CAL_COMMAND rows, CAL_PERIOD_TIMER, CAL_TEMP_TRIGGER, SYNTH_STALE, CAL_GAP_START, CAL_RUN_DONE and CAL_INVALIDATE (R165, R178 to R183). -/
def Obligations.CalibrationsAreQueuedAndRun : Prop :=
  let queued := fun (u : State) (x kind unit channel : Nat) (path : Bool) =>
    ∃ q ∈ (u.trx x).calQueue ++ (u.trx x).calRun.toList, q.kind = kind ∧ q.unit = unit ∧ q.channel = channel ∧ q.path = path
  let kinds := fun (u : State) (x kind : Nat) => ∀ n, n < calUnits kind → queued u x kind n 0 false
  (∀ (s : State) (t : Tick) (r : Req) (x : Fin 3), s.takes t r (O.CAL_COMMAND x.val) 4 1 = true →
    Completes (.calRxDc t r x) s (fun u => kinds u x.val 0 ∧ OnlyParts (answers [.radio]) (s.heard t r) u)) ∧
  (∀ (s : State) (t : Tick) (r : Req) (x : Fin 3), s.takes t r (O.CAL_COMMAND x.val) 4 2 = true →
    Completes (.calRxIq t r x) s (fun u => kinds u x.val 1 ∧ OnlyParts (answers [.radio]) (s.heard t r) u)) ∧
  (∀ (s : State) (t : Tick) (r : Req) (x : Fin 3), s.takes t r (O.CAL_COMMAND x.val) 4 4 = true →
    Completes (.calTxLo t r x) s (fun u => kinds u x.val 2 ∧ OnlyParts (answers [.radio]) (s.heard t r) u)) ∧
  (∀ (s : State) (t : Tick) (r : Req) (x : Fin 3), s.takes t r (O.CAL_COMMAND x.val) 4 8 = true →
    Completes (.calTxIq t r x) s (fun u => kinds u x.val 3 ∧ OnlyParts (answers [.radio]) (s.heard t r) u)) ∧
  (∀ (s : State) (t : Tick) (r : Req) (x : Fin 3), s.takes t r (O.CAL_COMMAND x.val) 4 16 = true →
    Completes (.calSynthAll t r x) s (fun u =>
      ∀ c path, c < 1024 → (s.heard t r).chanFreq x.val c ≠ 0 → queued u x.val 4 0 c path)) ∧
  (∀ (s : State) (t : Tick) (r : Req) (x : Fin 3), s.takes t r (O.CAL_COMMAND x.val) 4 32 = true →
    Completes (.calSynthStale t r x) s (fun u =>
      let s1 := s.heard t r
      ∀ c path, c < 1024 → s1.chanFreq x.val c ≠ 0 → s1.calValid x.val c path = false ∨ bitAt (s1.calEntry x.val c) 4 = true →
        queued u x.val 4 0 c path)) ∧
  (∀ (s : State) (t : Tick) (x : Fin 3), Completes (.calPeriodTimer t x) s (fun u =>
    let s1 := s.tickTo t
    let p := s1.rd (O.CAL_PERIOD_S x.val)
    (s1.trxState x.val = 0 ∨ p = 0 ∨ s1.now < (s1.trx x.val).calPeriodAt + p * secTk → u = s1) ∧
    (s1.trxState x.val ≠ 0 → p ≠ 0 → (s1.trx x.val).calPeriodAt + p * secTk ≤ s1.now →
      (u.trx x.val).calPeriodAt = s1.now ∧ ∀ k, k < 4 → kinds u x.val k))) ∧
  (∀ (s : State) (t : Tick) (x : Fin 3) (temp : Int), Completes (.calTempTrigger t x temp) s (fun u =>
    let s1 := s.tickTo t
    (u.trx x.val).dieTemp = temp ∧ u.rd (O.DIE_TEMP_C x.val) = ofInt 16 temp ∧
    (s1.trxState x.val ≠ 0 → (s1.trx x.val).rxIqAt.isSome = true →
      s1.rd (O.CAL_TEMP_DELTA_C x.val) ≤ (temp - (s1.trx x.val).rxIqTemp).natAbs → ∀ k, k < 4 → kinds u x.val k))) ∧
  (∀ (s : State) (t : Tick) (x : Fin 3) (c : Fin 1024) (temp : Int), Completes (.synthStale t x c temp) s (fun u =>
    let s1 := s.tickTo t
    let e := s1.calEntry x.val c.val
    (bitAt e 0 = true ∨ bitAt e 1 = true → s1.rd (O.SYNTH_STALE_C x.val) ≤ (temp - calTemp e).natAbs →
      bitAt (u.calEntry x.val c.val) 4 = true) ∧ (u.trx x.val).dieTemp = temp)) ∧
  (∀ (s : State) (t : Tick) (x : Fin 3) (gapEnd : Tick), Completes (.calGapStart t x gapEnd) s (fun u =>
    let s1 := s.tickTo t
    (u.trx x.val).gapEnd = min gapEnd (s1.gapLimit x.val) ∧ OnlyParts [.objs, .radio] s1 u ∧
    (∀ q l, (s1.trx x.val).calQueue = q :: l → (s1.trx x.val).calRun = none → (s1.trx x.val).rxOpen = false → (s1.trx x.val).txOpen = false →
      (s1.trx x.val).tune = none → s1.trxState x.val ≠ 0 →
      s1.now + 2 * runTk q.kind + 400 + (if q.kind = 4 then 2800 else 0) ≤ min gapEnd (s1.gapLimit x.val) →
      (u.trx x.val).calRun = some q ∧ (u.trx x.val).calQueue = l))) ∧
  (∀ (s : State) (t : Tick) (x : Fin 3) (values quality : List Int), Completes (.calRunDone t x values quality) s (fun u =>
    let s1 := s.tickTo t
    ((s1.trx x.val).tune = none → (s1.trx x.val).calRun = none → u = s1) ∧
    (∀ q, (s1.trx x.val).tune = none → (s1.trx x.val).calRun = some q → Counted s1 u (O.CAL_RUNS x.val) ∧
      (∀ a, q.runs = [a] → q.kind = 0 ∨ q.kind = 2 → calAgree q.kind a values = true →
        look (u.trx x.val).corr (16 * q.kind + q.unit) = some (runsMean a values))))) ∧
  (∀ (s : State) (t : Tick) (r : Req) (x : Fin 3) (v : Nat), s.takes t r (O.CAL_INVALIDATE x.val) 2 v = true → v < 2 ^ 16 →
    Completes (.calInvalidate t r x v) s (fun u =>
      let s1 := s.heard t r
      (v < 1024 → bitAt (u.calEntry x.val v) 0 = false ∧ bitAt (u.calEntry x.val v) 1 = false ∧
        ∀ c, c < 1024 → c ≠ v → u.calEntry x.val c = s1.calEntry x.val c) ∧
      (v = 0xFFFF → ∀ c, c < 1024 → bitAt (u.calEntry x.val c) 0 = false ∧ bitAt (u.calEntry x.val c) 1 = false) ∧
      (1024 ≤ v → v ≠ 0xFFFF → RefusedWith s1 u .valueRange)))

/-- LANE_CELL, LANE_GANG and LANE_RELEASE (R215, R224, R244, R246). -/
def Obligations.LaneWindowsOpenAndClose : Prop :=
  (∀ (s : State) (t : Tick) (l : Fin 768) (stream : Fin 512) (prof : Fin 64) (arm : Bool) (cell : Nat) (hitch : Option (Fin 1024)) (closes : Tick),
    EntryActs (.laneCell t l stream prof arm cell hitch closes) s t (0x100 + l.val) (min (shedAt (0x100 + l.val)) (streamShedAt stream.val))
      (fun s1 u =>
        let e := s1.streamEntry stream.val
        let bad := cellMisfit (s1.profile prof.val) (strWidth e)
        (s1.laneServes l.val = false → u.rx = s1.rx ∧ u.rd O.LANE_STATE = s1.rd O.LANE_STATE) ∧
        (s1.laneServes l.val = true → strEnable e = false → u.laneState l.val = 1 ∧ u.lane l.val = none ∧ Counted s1 u O.STREAM_DISABLED) ∧
        (s1.laneServes l.val = true → bad = true → u.laneState l.val = 1 ∧ u.lane l.val = none ∧ Counted s1 u O.PROFILE_MISMATCH) ∧
        (s1.laneServes l.val = true → strEnable e = true → bad = false → u.laneState l.val = (if arm then 2 else 3) ∧
          u.lane l.val = some { role := .cell arm, stream := stream.val, profile := prof.val, cell := cell, hitch := hitch.map (fun h => h.val), closes := closes, stays := false, rx := none }) ∧
        (∀ k : Nat, k ≠ l.val → u.lane k = s1.lane k) ∧ OnlyParts [.objs, .rx] s1 u)) ∧
  (∀ (s : State) (t : Tick) (l : Fin 768) (stream : Fin 512) (seg : Fin 3) (gang : Fin 256) (cell : Nat) (hitch : Option (Fin 1024)) (closes : Tick),
    EntryActs (.laneGang t l stream seg gang cell hitch closes) s t (0x100 + l.val)
      (min 2 (min (shedAt (0x100 + l.val)) (streamShedAt stream.val))) (fun s1 u =>
        let p := strProfile (s1.streamEntry stream.val)
        let out := s1.rx.gangsOut.contains (gang.val, s1.lay.asn)
        (s1.laneServes l.val = false → u.rx = s1.rx ∧ u.rd O.LANE_STATE = s1.rd O.LANE_STATE) ∧
        (s1.laneServes l.val = true → prMode (s1.profile p) = 3 → out = false → u.laneState l.val = 2 ∧
          u.lane l.val = some { role := .gang seg.val gang.val, stream := stream.val, profile := p, cell := cell, hitch := hitch.map (fun h => h.val), closes := closes, stays := false, rx := none }) ∧
        (s1.laneServes l.val = true → prMode (s1.profile p) ≠ 3 → u.laneState l.val = 1 ∧ u.lane l.val = none ∧
          (gang.val, s1.lay.asn) ∈ u.rx.gangsOut ∧ (∀ e ∈ u.rx.lanes, e.2.gang ≠ some gang.val) ∧
          (out = false → Counted s1 u O.PROFILE_MISMATCH)) ∧
        (∀ k : Nat, k ≠ l.val → (∀ e ∈ s1.rx.lanes, e.1 = k → e.2.gang ≠ some gang.val) → u.lane k = s1.lane k) ∧
        OnlyParts [.objs, .rx] s1 u)) ∧
  (∀ (s : State) (t : Tick) (l : Fin 768), EntryActs (.laneRelease t l) s t (0x100 + l.val) (shedAt (0x100 + l.val)) (fun s1 u =>
      (s1.laneServes l.val = true → u.laneState l.val = 1 ∧ u.lane l.val = none) ∧
      (∀ k : Nat, k ≠ l.val → u.lane k = s1.lane k)))

/-- RAKE_DETECTION, LANE_OWN_DETECTION, LANE_SFD_FOUND and LANE_SFD_TIMEOUT (R206 to R225). -/
def Obligations.DetectionsStartReceptions : Prop :=
  (∀ (s : State) (t : Tick) (stream : Fin 512) (c : Correlation) (start : Tick),
    Completes (.rakeDetection t stream c start) s (fun u =>
      let s1 := s.tickTo t
      let prof := s1.searchProfile stream.val
      let p := s1.profile prof
      let early : Bool := s1.rx.lanes.any (fun e => e.2.stream == stream.val && e.2.gang.isSome && s1.p1Ignored e.2.cell start)
      let heard : Bool := !early && s1.streamValid stream.val && prMode p != 15 && decide (prThresh p ≤ rakeMetric c) &&
        decide (c.step.natAbs ≤ bits p 64 8)
      (heard = false → u = s1) ∧
      (heard = true → (∀ e ∈ s1.rx.lanes, e.2.stream ≠ stream.val) → s1.trackedMetric stream.val = none → s1.triggerOn 2 = false →
        Counted s1 u O.RAKE_DETECTIONS ∧ Counted s1 u O.RAKE_UNSERVED ∧ OnlyParts [.objs, .rx] s1 u) ∧
      (∀ n : Nat, heard = true → (∀ e ∈ s1.rx.lanes, e.2.stream = stream.val → e.2.gang = none) → s1.trackedMetric stream.val = none →
        (s1.lanesOn stream.val (fun x => x.armed && x.profile == prof)).find? (fun k => s1.laneState k == 2) = some n →
        u.laneState n = 5 ∧ Counted s1 u O.RAKE_DETECTIONS ∧
        ∃ x r, u.lane n = some x ∧ x.rx = some r ∧ r.stream = stream.val ∧ r.metric = rakeMetric c ∧ r.start = start ∧ r.profNo = prof ∧
          r.freqErr = 500 * c.step))) ∧
  (∀ (s : State) (t : Tick) (l : Fin 768) (c : Correlation) (start : Tick), Completes (.laneOwnDetection t l c start) s (fun u =>
      let s1 := s.tickTo t
      (s1.laneState l.val ≠ 3 → u = s1) ∧
      (∀ x, s1.lane l.val = some x → s1.laneState l.val = 3 → s1.streamValid x.stream = true →
        prThresh (s1.profile x.profile) ≤ rakeMetric c → c.step.natAbs ≤ bits (s1.profile x.profile) 64 8 →
        u.laneState l.val = 5 ∧ ∃ r, u.lane l.val = some { x with rx := some r } ∧ r.own = true ∧ r.stream = x.stream ∧ r.start = start))) ∧
  (∀ (s : State) (t : Tick) (l : Fin 768) (err snr : Int), Completes (.laneSfdFound t l err snr) s (fun u =>
      let s1 := s.tickTo t
      (s1.laneState l.val ≠ 5 → u = s1) ∧
      (∀ x r, s1.laneState l.val = 5 → s1.lane l.val = some x → x.gang = none → x.rx = some r →
        let lim : Int := ((bits r.prof 64 8 * 500 : Nat) : Int)
        u.laneState l.val = 6 ∧ ∃ q, u.lane l.val = some { x with rx := some q } ∧ q.sfdAt = s1.now ∧ q.stream = r.stream ∧
          q.freqErr = max (-lim) (min lim err) ∧ q.snr = snr))) ∧
  (∀ (s : State) (t : Tick) (l : Fin 768), Completes (.laneSfdTimeout t l) s (fun u =>
      let s1 := s.tickTo t
      ∀ x r, s1.lane l.val = some x → x.gang = none → x.rx = some r →
        (s1.laneState l.val ≠ 5 ∨ s1.now < r.deadline → u = s1) ∧
        (s1.laneState l.val = 5 → r.deadline ≤ s1.now → Counted s1 u O.LANE_SFD_TIMEOUT ∧
          (x.stays = false → u.lane l.val = some { x with rx := none } ∧ u.laneState l.val = returnState x.role false) ∧
          (x.stays = true → u.lane l.val = none ∧ u.laneState l.val = 1))))

/-- LANE_PHR_CHECK, LANE_FRAME_END, PSDU_DELIVERED, PLY_BURST_END, SOUND_COMMAND and FALLBACK_COMMAND. -/
def Obligations.FramesAreDelivered : Prop :=
  let back := fun (u : State) (l : Nat) (x : LaneRun) (paid : Bool) =>
    (x.stays = false → u.lane l = some { x with rx := none } ∧ u.laneState l = returnState x.role paid) ∧
    (x.stays = true → u.lane l = none ∧ u.laneState l = 1)
  (∀ (s : State) (t : Tick) (l : Fin 768) (h : AirHeader), Completes (.lanePhrCheck t l h) s (fun u =>
    let s1 := s.tickTo t
    (s1.laneState l.val ≠ 6 → u = s1) ∧
    (∀ x r, s1.laneState l.val = 6 → s1.lane l.val = some x → x.gang = none → x.rx = some r → (∀ w, h ≠ .ply w) →
      (codedUnknown r.prof h = true → u = s1) ∧
      (∀ k, codedUnknown r.prof h = false → phrFails r.prof h = some k → Counted s1 u k ∧ back u l.val x false) ∧
      (codedUnknown r.prof h = false → phrFails r.prof h = none → u.laneState l.val = 7 ∧
        u.lane l.val = some { x with rx := some { r with header := some h } } ∧ SameObjects s1 u [O.LANE_STATE])) ∧
    (∀ x r w, s1.laneState l.val = 6 → s1.lane l.val = some x → x.gang.isSome = true → x.rx = some r → h = .ply w →
      plyHeaderBad w = true → Counted s1 u O.HEADER_FAIL))) ∧
  (∀ (s : State) (t : Tick) (l : Fin 768), Completes (.laneFrameEnd t l) s (fun u =>
    let s1 := s.tickTo t
    (s1.laneState l.val ≠ 7 → u = s1) ∧
    (∀ x r, s1.laneState l.val = 7 → s1.lane l.val = some x → x.gang = none → x.rx = some r → back u l.val x true ∧
      ∃ f, look u.rx.back l.val = some f ∧ f.rx = r ∧ f.endAt = s1.now ∧ f.hitch = x.hitch ∧ f.cell = x.cell ∧ f.slotAsn = s1.lay.asn))) ∧
  (∀ (s : State) (t : Tick) (l : Fin 768) (psdu : List Byte) (m : Measured),
    Completes (.psduDelivered t l psdu m) s (fun u =>
      let s1 := s.tickTo t
      (look s1.rx.back l.val = none → u = s1) ∧
      (∀ f, look s1.rx.back l.val = some f → (prMode f.rx.prof = 3 → u = s1) ∧
        (prMode f.rx.prof ≠ 3 → look u.rx.back l.val = none ∧ Counted s1 u O.LANE_FRAMES)))) ∧
  (∀ (s : State) (t : Tick) (l : Fin 768) (o : PlyEnd) (m : Measured), Completes (.plyBurstEnd t l o m) s (fun u =>
      let s1 := s.tickTo t
      (look s1.rx.back l.val = none → u = s1) ∧
      (∀ f, look s1.rx.back l.val = some f → (prMode f.rx.prof ≠ 3 → u = s1) ∧
        (prMode f.rx.prof = 3 → look u.rx.back l.val = none)))) ∧
  (∀ (s : State) (t : Tick) (r : Req) (v : Nat), s.takes t r O.SOUND_COMMAND 1 v = true → v < 256 →
    Completes (.soundCommand t r v) s (fun u =>
      let s1 := s.heard t r
      (s1.plyEntry v = none → RefusedWith s1 u .valueRange) ∧
      ((s1.plyEntry v).isSome = true → (∃ x, look u.rx.links v = some x ∧ x.soundAsked = true) ∧ OnlyParts (answers [.rx]) s1 u))) ∧
  (∀ (s : State) (t : Tick) (r : Req) (v : Nat), s.takes t r O.FALLBACK_COMMAND 1 v = true → v < 256 →
    Completes (.fallbackCommand t r v) s (fun u =>
      let s1 := s.heard t r
      (s1.plyEntry v = none → RefusedWith s1 u .valueRange) ∧
      (∀ k e, s1.plyEntry v = some (k, e) → Counted s1 u O.FALLBACKS ∧
        ∃ x, look u.rx.links v = some x ∧ x.returns = some (robustTable v (lkSegs e)))))

/-- REASM_TIMEOUT, DL_LIFETIME_EXPIRY, PARENT_LISTEN_TIMEOUT and SENSOR_UPDATE_APPLY. -/
def Obligations.MacTimersExpire : Prop :=
  (∀ (s : State) (t : Tick) (i : Fin 262144) (size tag : Nat), Completes (.reasmTimeout t i size tag) s (fun u =>
    let s1 := s.tickTo t
    let due := fun (x : Reasm) => x.sensor = i.val ∧ x.size = size ∧ x.tag = tag ∧ x.at_ + s1.rd O.REASM_TIMEOUT_S * secTk ≤ s1.now
    ((∀ x ∈ s1.mac.reasm, ¬ due x) → u = s1) ∧
    ((∃ x ∈ s1.mac.reasm, due x) → (∃ n, 1 ≤ n ∧ Counted s1 u O.REASM_TIMEOUT n) ∧
      (∀ x, s1.mac.reasm = [x] → Counted s1 u O.REASM_TIMEOUT) ∧
      (∀ x, x ∈ u.mac.reasm ↔ x ∈ s1.mac.reasm ∧ ¬ due x) ∧ OnlyParts [.objs, .mac, .lay, .ctr] s1 u))) ∧
  (∀ (s : State) (t : Tick) (id : Nat), Completes (.dlLifetimeExpiry t id) s (fun u =>
    let s1 := s.tickTo t
    (∀ d, s1.mac.down.find? (fun d => d.id == id) = some d →
      (s1.now < d.expires → u = s1) ∧
      (d.expires ≤ s1.now → Counted s1 u O.UPPER_TIMEOUT ∧ ∀ x ∈ u.mac.down, x.id ≠ id)) ∧
    (∀ l d, (∀ x ∈ s1.mac.down, x.id ≠ id) →
      s1.mac.ply.findSome? (fun e => ((e.2.queue ++ e.2.burst).find? (fun d => d.id == id)).map (fun d => (e.1, d))) = some (l, d) →
      (s1.now < d.expires → u = s1) ∧
      (d.expires ≤ s1.now → Counted s1 u O.UPPER_TIMEOUT ∧ ∀ x ∈ (u.plyQ l).queue ++ (u.plyQ l).burst, x.id ≠ id)))) ∧
  (∀ (s : State) (t : Tick), Completes (.parentListenTimeout t) s (fun u =>
    let s1 := s.tickTo t
    let past := s1.mac.listenSince + s1.rd O.LISTEN_SLOTFRAMES * s1.frameLen * s1.slotTk
    (s1.relayState ≠ 4 ∨ s1.now < past → u = s1) ∧
    (s1.relayState = 4 → past ≤ s1.now → u.relayState = 1 ∧ u.rd O.CURRENT_PARENT = 0xFF ∧ OnlyParts [.objs] s1 u))) ∧
  (∀ (s : State) (t : Tick) (i : Fin 262144), Completes (.sensorUpdateApply t i) s (fun u =>
    let s1 := s.tickTo t
    ((∀ x ∈ s1.mac.updates, x.1 ≠ i.val) ∨ s1.sensorBusy i.val = true → u = s1) ∧
    (∀ x, s1.mac.updates.find? (fun y => y.1 == i.val) = some x → s1.sensorBusy i.val = false →
      u.sensor i.val = x.2.2 ∧ (∀ y ∈ u.mac.updates, y.1 ≠ i.val) ∧ (∀ k, k ≠ i.val → u.sensor k = s1.sensor k))))

/-- The SENSOR_COMMAND rows (Table 7.9, R277 to R279). -/
def Obligations.SensorCommandsKeepTheTable : Prop :=
  (∀ (s : State) (t : Tick) (r : Req), s.takes t r O.SENSOR_COMMAND 1 1 = true → Completes (.sensorAdd t r) s (fun u =>
    let s1 := s.heard t r
    let e := sensorClean (setBit (s1.rdReq r O.SENSOR_ENTRY) 80)
    let full : Bool := decide (262144 ≤ (s1.mac.sensors.filter (fun x => seValid x.2)).length)
    (full = false → s1.addressTaken none e = true → u.rdReq r O.SENSOR_RESULT = 2 ∧ u.mac = s1.mac) ∧
    (full = false → s1.addressTaken none e = false → sensorBad e = false → u.rdReq r O.SENSOR_RESULT = 0 ∧ Counted s1 u O.ADDED ∧
      let i := u.rdReq r O.SENSOR_INDEX
      seValid (s1.sensor i) = false ∧ seValid (u.sensor i) = true ∧ seEui (u.sensor i) = seEui e ∧
      ∀ k, k ≠ i → u.sensor k = s1.sensor k))) ∧
  (∀ (s : State) (t : Tick) (r : Req), s.takes t r O.SENSOR_COMMAND 1 2 = true → Completes (.sensorUpdate t r) s (fun u =>
    let s1 := s.heard t r
    let i := s1.rdReq r O.SENSOR_INDEX
    let e := sensorClean (setBit (s1.rdReq r O.SENSOR_ENTRY) 80)
    (seValid (s1.sensor i) = false → u.rdReq r O.SENSOR_RESULT = 3 ∧ u.mac = s1.mac) ∧
    (seValid (s1.sensor i) = true → s1.addressTaken (some i) e = false → s1.hitchSensors.contains i = false → s1.unreachable i = false →
      sensorBad e = false → u.rdReq r O.SENSOR_RESULT = 0 ∧
      (s1.sensorBusy i = false → u.sensor i = e) ∧ (s1.sensorBusy i = true → (i, r, e) ∈ u.mac.updates ∧ u.sensor i = s1.sensor i)))) ∧
  (∀ (s : State) (t : Tick) (r : Req), s.takes t r O.SENSOR_COMMAND 1 3 = true → Completes (.sensorRemove t r) s (fun u =>
    let s1 := s.heard t r
    let i := s1.rdReq r O.SENSOR_INDEX
    (seValid (s1.sensor i) = false → u.rdReq r O.SENSOR_RESULT = 3 ∧ u.mac = s1.mac) ∧
    (seValid (s1.sensor i) = true → s1.hitchSensors.contains i = true → u.rdReq r O.SENSOR_RESULT = 4 ∧ u.mac = s1.mac) ∧
    (seValid (s1.sensor i) = true → s1.hitchSensors.contains i = false → s1.unreachable i = false →
      u.rdReq r O.SENSOR_RESULT = 0 ∧ Counted s1 u O.REMOVED ∧ seValid (u.sensor i) = false ∧ ∀ k, k ≠ i → u.sensor k = s1.sensor k))) ∧
  (∀ (s : State) (t : Tick) (r : Req), s.takes t r O.SENSOR_COMMAND 1 4 = true → Completes (.sensorFindEui t r) s (fun u =>
    let s1 := s.heard t r
    let x := s1.sensorAt 3 (seEui (s1.rdReq r O.SENSOR_ENTRY))
    (∀ k, x = some k → u.rdReq r O.SENSOR_RESULT = 0 ∧ u.rdReq r O.SENSOR_INDEX = k) ∧
    (x = none → u.rdReq r O.SENSOR_RESULT = 3) ∧ OnlyParts (answers [.preq]) s1 u ∧ SameObjects s1 u [O.CAN_TX])) ∧
  (∀ (s : State) (t : Tick) (r : Req), s.takes t r O.SENSOR_COMMAND 1 5 = true → Completes (.sensorFindShort t r) s (fun u =>
    let s1 := s.heard t r
    let x := s1.sensorAt 2 (seShort (s1.rdReq r O.SENSOR_ENTRY))
    (∀ k, x = some k → u.rdReq r O.SENSOR_RESULT = 0 ∧ u.rdReq r O.SENSOR_INDEX = k) ∧
    (x = none → u.rdReq r O.SENSOR_RESULT = 3) ∧ OnlyParts (answers [.preq]) s1 u ∧ SameObjects s1 u [O.CAN_TX])) ∧
  (∀ (s : State) (t : Tick) (r : Req), s.takes t r O.SENSOR_COMMAND 1 6 = true → Completes (.sensorRead t r) s (fun u =>
    let s1 := s.heard t r
    let i := s1.rdReq r O.SENSOR_INDEX
    (seValid (s1.sensor i) = false → u.rdReq r O.SENSOR_RESULT = 3) ∧
    (seValid (s1.sensor i) = true → s1.unreachable i = true → u.rdReq r O.SENSOR_RESULT = 5) ∧
    (seValid (s1.sensor i) = true → s1.unreachable i = false →
      u.rdReq r O.SENSOR_RESULT = 0 ∧ u.rdReq r O.SENSOR_ENTRY = s1.sensorView i) ∧
    OnlyParts (answers [.preq]) s1 u ∧ SameObjects s1 u [O.CAN_TX]))

/-- KEY_IMPORT, KEY_IMPORT_ENTRY, KEY_DELETE, SLOT_QUERY, KEY_FETCH_DONE and REWRAP_DONE. -/
def Obligations.KeyStoreImportsAndDeletes : Prop :=
  (∀ (s : State) (t : Tick) (r : Req) (len v : Nat), s.takes t r O.KEY_IMPORT len v = true → v < 2 ^ (8 * len) →
    Completes (.keyImport t r len v) s (fun u =>
      let s1 := s.heard t r
      let l := (List.range ((len - 64) / 48)).map (fun n => octets (bits v (512 + 384 * n) 384) 48)
      u.cph.importLeft = l ∧ u.cph.importPoint = octets v 64 ∧ u.len O.IMPORT_RESULTS = 0 ∧
      u.stOf O.IMPORT_STATUS = (if l = [] then 2 else 1) ∧ ∀ n, u.keySlot n = s1.keySlot n)) ∧
  (∀ (s : State) (t : Tick), Completes (.keyImportEntry t) s (fun u =>
    let s1 := s.tickTo t
    (s1.cph.importLeft = [] → u = s1) ∧
    (∀ e l, s1.cph.importLeft = e :: l →
      let x := ((importKek s1.cph.importPoint).bind (fun k => keyUnwrap k e)).getD []
      let head := ofOctets ((x.drop 32).take 4)
      let slot := bits head 0 20
      let kind := bits head 20 4
      let seq := ofOctets (x.drop 36)
      u.cph.importLeft = l ∧ u.len O.IMPORT_RESULTS = s1.len O.IMPORT_RESULTS + 1 ∧ (l = [] → u.stOf O.IMPORT_STATUS = 2) ∧
      (x = [] ∨ seq ≤ (s1.keySlot slot).seq ∨ s1.rootKey s1.rootGen = none → Counted s1 u O.IMPORT_REFUSED ∧ ∀ n, u.keySlot n = s1.keySlot n) ∧
      (∀ root, x ≠ [] → s1.rootKey s1.rootGen = some root → s1.chServes 0 = true → s1.memQuiet → s1.storeBase ≠ 0 →
        (s1.keySlot slot).seq < seq → seq < 2 ^ 32 → 1 ≤ kind → kind ≤ 3 → (kind ≠ 3 → ∀ b ∈ (x.take 32).drop 16, b = 0) →
        Counted s1 u O.IMPORTED ∧ u.record slot = sealRecord root s1.rootGen slot kind seq (x.take 32) % 2 ^ 512 ∧
        (u.keySlot slot).kind = kind ∧ (u.keySlot slot).seq = seq ∧ (u.keySlot slot).corrupt = false ∧
        ∀ n, n < 2 ^ 20 → n ≠ slot → u.keySlot n = s1.keySlot n)))) ∧
  (∀ (s : State) (t : Tick) (r : Req) (n : Nat), s.takes t r O.KEY_DELETE 4 n = true → n < 2 ^ 32 → (s.heard t r).memQuiet →
    Completes (.keyDelete t r n) s (fun u =>
      let s1 := s.heard t r
      Counted s1 u O.DELETED ∧ (u.keySlot n).kind = 0 ∧ (u.keySlot n).seq = (s1.keySlot n).seq ∧
      ∀ k, k < 2 ^ 20 → k ≠ n → u.keySlot k = s1.keySlot k)) ∧
  (∀ (s : State) (t : Tick) (r : Req) (n : Nat), s.takes t r O.SLOT_QUERY 4 n = true → n < 2 ^ 32 → Completes (.slotQuery t r n) s (fun u =>
    let s1 := s.heard t r
    let x := s1.keySlot n
    let st := if x.corrupt then 2 else if x.kind = 0 then 0 else 1
    (∃ flags, flags < 16 ∧ u.rdReq r O.SLOT_INFO = st + x.kind * 2 ^ 8 + x.gen * 2 ^ 16 + flags * 2 ^ 24 + x.seq * 2 ^ 32) ∧
    OnlyParts (answers [.preq]) s1 u)) ∧
  (∀ (s : State) (t : Tick) (n : Fin 1048576) (o : FetchEnd), Completes (.keyFetchDone t n o) s (fun u =>
    let s1 := s.tickTo t
    let held := s1.rankHeld 0 (s1.memOf (s1.storeBase + 64 * n.val)).2
    (s1.cph.fetches.find? (fun f => f.slot == n.val) = none → u = s1) ∧
    (∀ f, s1.cph.fetches.find? (fun f => f.slot == n.val) = some f →
      (s1.chServes 0 = false → Counted s1 u O.FETCH_SHED) ∧
      (s1.chServes 0 = true → held = true → u = s1) ∧
      (s1.chServes 0 = true → held = false → rcKind f.rec_ ≠ 0 → (s1.keyNote n.val).corrupt = false → f.ver = (s1.keyNote n.val).ver →
        (o = .checkFails ∨ s1.recordPoisoned n.val = true ∨ s1.unsealRecord n.val f.rec_ = none →
          Counted s1 u O.UNWRAP_FAIL ∧ (u.keyNote n.val).corrupt = true) ∧
        (∀ key, o = .lanyardFails → s1.recordPoisoned n.val = false → s1.unsealRecord n.val f.rec_ = some key → Counted s1 u O.LANYARD_ERRORS) ∧
        (∀ key, o = .sound → s1.recordPoisoned n.val = false → s1.unsealRecord n.val f.rec_ = some key →
          s1.cph.cache.length < s1.rd O.CACHE_CAPACITY → s1.cached n.val = false → Counted s1 u O.FETCHES ∧
          (s1.waitFor f = [] → ∃ k ∈ u.cph.cache, k.slot = n.val ∧ k.key = key ∧ k.kind = rcKind f.rec_)))))) ∧
  (∀ (s : State) (t : Tick), Completes (.rewrapDone t) s (fun u =>
    let s1 := s.tickTo t
    (s1.cph.rewrapFrom = none ∨ s1.chState 0 ≠ 4 → u = s1) ∧
    (∀ g, s1.cph.rewrapFrom = some g → s1.chState 0 = 4 → u.cph.rewrapFrom = none ∧ u.stOf O.REWRAP_STATUS = 0 ∧
      (s1.memQuiet → (s1.rootKey s1.rootGen).isSome = true → ∀ n ∈ s1.storeSlots, (s1.keySlot n).gen = g → (s1.keySlot n).corrupt = false →
        (s1.unsealRecord n (s1.record n)).isSome = true → (u.keySlot n).gen = s1.rootGen % 16))))

/-- CIPHER_JOB_END, BITTERN_BLOCK_RELEASE and CIPHER_PREEMPT (R294 to R317). -/
def Obligations.CipherEnginesRunTheirCounts : Prop :=
  (∀ (s : State) (t : Tick) (n : Fin 32), Completes (.cipherJobEnd t n) s (fun u =>
    let s1 := s.tickTo t
    (s1.jobOn n.val = none → u = s1) ∧
    (∀ j, s1.jobOn n.val = some j → (s1.now < j.startedAt + (j.ops - j.done) * j.opTk → u = s1) ∧
      (j.startedAt + (j.ops - j.done) * j.opTk ≤ s1.now → u.rd O.BLOCK_OPS = (s1.rd O.BLOCK_OPS + (j.ops - j.done)) % 2 ^ 64 ∧
        (j.result.2 = false → Counted s1 u O.AUTH_FAIL) ∧ (j.result.2 = true → Counted s1 u O.JOBS_DONE))))) ∧
  (∀ (s : State) (t : Tick) (n : Fin 32), Completes (.bitternBlockRelease t n) s (fun u =>
    let s1 := s.tickTo t
    (s1.jobOn n.val = none → u = s1) ∧
    (∀ j, s1.jobOn n.val = some j → (j.early = false → u = s1) ∧
      (j.early = true → j.released + 16 < j.textLen → u.jobOn n.val = some { j with state := 4, released := j.released + 16 })))) ∧
  (∀ (s : State) (t : Tick) (n : Fin 32), Completes (.cipherPreempt t n) s (fun u =>
    let s1 := s.tickTo t
    ((∀ x ∈ s1.cph.preempt, x.1 ≠ n.val) → u = s1) ∧
    (∀ x j k, s1.cph.preempt.find? (fun x => x.1 == n.val) = some x → s1.cph.jobs.find? (fun j => j.id == x.2) = some j →
      s1.engine n.val ≠ 1 → s1.jobOn n.val = some k → (k.cls = 0 → u = s1) ∧ (k.cls ≠ 0 → Counted s1 u O.PREEMPTIONS))))

/-- ETH_FRAME_RECEIVED, LINK_UP, LINK_DOWN, OAM_INFO_TIMER, SLUICE_FRAME_START, ETH_FRAME_SENT and PAUSE_EXPIRE. -/
def Obligations.PortsReceiveAndSend : Prop :=
  (∀ (s : State) (t : Tick) (p : Fin 4) (f : List Byte) (fixed bad : Nat),
    Completes (.ethFrameReceived t p f fixed bad) s (fun u =>
      let s1 := s.tickTo t
      let began := s1.now - bitsTk (s1.rate p.val) (f.length * 8)
      let body := f.take (f.length - 4)
      let good : Bool := decide (f.drop (f.length - 4) = ethFcs false body)
      (s1.portPowered p.val = false → u = s1) ∧
      (s1.portPowered p.val = true → began < (s1.port p.val).restartAt → u = s1.bump (O.RX_DISCARDED_RESTART p.val)) ∧
      ((s1.port p.val).restartAt ≤ began → s1.isUp p.val = false → u = s1) ∧
      (s1.portPowered p.val = true → (s1.port p.val).restartAt ≤ began → s1.isUp p.val = true →
        Counted s1 u (O.FEC_CORRECTED p.val) fixed ∧ Counted s1 u (O.FEC_UNCORRECTED p.val) bad ∧
        (f.length ≤ 63 → Counted s1 u (O.RX_RUNT p.val) ∧ OnlyParts [.objs] s1 u) ∧
        (16383 < f.length → Counted s1 u (O.RX_JABBER p.val) ∧ OnlyParts [.objs] s1 u) ∧
        (63 < f.length → f.length ≤ 16383 → good = false → Counted s1 u (O.RX_FCS_ERR p.val) ∧ OnlyParts [.objs] s1 u) ∧
        (63 < f.length → f.length ≤ 16383 → good = true → s1.tooLong p.val body = false →
          u.rd (O.RX_FRAMES p.val) = (s1.rd (O.RX_FRAMES p.val) + 1) % 2 ^ 64 ∧
          u.rd (O.RX_OCTETS p.val) = (s1.rd (O.RX_OCTETS p.val) + f.length) % 2 ^ 64)))) ∧
  (∀ (s : State) (t : Tick) (p : Fin 4) (word : Nat), Completes (.linkUp t p word) s (fun u =>
      let s1 := s.tickTo t
      let an : Bool := decide (4 ≤ s1.rd (O.MODE p.val)) && s1.flag (O.AN_ENABLE p.val)
      let agreed := anAgreed (s1.rd (O.MODE p.val)) word
      (s1.portPowered p.val = false ∨ s1.rd (O.MODE p.val) = 0 ∨ s1.isUp p.val = true → u = s1) ∧
      (s1.portPowered p.val = true → s1.rd (O.MODE p.val) ≠ 0 → s1.isUp p.val = false →
        (an = true → agreed = false → Counted s1 u (O.AN_FAIL p.val) ∧ u.isUp p.val = false) ∧
        (an = false ∨ agreed = true → u.isUp p.val = true)))) ∧
  (∀ (s : State) (t : Tick) (p : Fin 4), Completes (.linkDown t p) s (fun u =>
      let s1 := s.tickTo t
      u.isUp p.val = false ∧ (s1.isUp p.val = false → u = s1) ∧ (s1.isUp p.val = true → Counted s1 u (O.LINK_DOWNS p.val)))) ∧
  (∀ (s : State) (t : Tick), Completes (.oamInfoTimer t) s (fun u =>
      let s1 := s.tickTo t
      (s1.now < s1.eth.oamAt + secTk → u = s1) ∧
      (s1.eth.oamAt + secTk ≤ s1.now → u.eth.oamAt = s1.now ∧ OnlyParts [.eth, .out, .free] s1 u ∧
        ∀ p, p < 4 → s1.isUp p = true → s1.flag (O.OAM_ENABLE p) = true →
          ∃ f, OutEvent.ethTx p f ∈ u.out ∧ f.take 6 = beOctets 0x0180C2000002 6 ∧ (f.drop 12).take 3 = beOctets 0x880903 3))) ∧
  (∀ (s : State) (t : Tick) (p : Fin 4), Completes (.sluiceFrameStart t p) s (fun u =>
      let s1 := s.tickTo t
      (s1.nextFrame p.val = none → u = s1) ∧
      (∀ q f, s1.nextFrame p.val = some (q, f) → ∃ x, (u.port p.val).tx = some x ∧ x.start = s1.now ∧ x.frame.num = f.num))) ∧
  (∀ (s : State) (t : Tick) (p : Fin 4), Completes (.ethFrameSent t p) s (fun u =>
      let s1 := s.tickTo t
      ((s1.port p.val).tx = none → u = s1) ∧
      (∀ x, (s1.port p.val).tx = some x → (s1.now < x.stop → u = s1) ∧
        (x.stop ≤ s1.now → (u.port p.val).tx = none ∧ u.rd (O.TX_FRAMES p.val) = (s1.rd (O.TX_FRAMES p.val) + 1) % 2 ^ 64 ∧
          u.rd (O.TX_OCTETS p.val) = (s1.rd (O.TX_OCTETS p.val) + x.wire) % 2 ^ 64)))) ∧
  (∀ (s : State) (t : Tick) (p : Fin 4) (k : Fin 8), Completes (.pauseExpire t p k) s (fun u =>
      let s1 := s.tickTo t
      (look (s1.port p.val).pauses k.val = none → u = s1) ∧
      (∀ a e, look (s1.port p.val).pauses k.val = some (a, e) → (s1.now < e → u = s1) ∧
        (e ≤ s1.now → look (u.port p.val).pauses k.val = none ∧ bitAt (u.rd (O.PAUSED p.val)) k.val = false ∧
          OnlyParts [.objs, .eth] s1 u))))

/-- RULE_WRITE, RULE_INVALIDATE, RULE_READ, RULE_CLEAR_HITS (R339), FRAME_CLASSIFY (R331) and HOST_TAIL_WRITE (R352). -/
def Obligations.RulesClassifyFrames : Prop :=
  (∀ (s : State) (t : Tick) (r : Req), s.takes t r O.RULE_COMMAND 1 1 = true → Completes (.ruleWrite t r) s (fun u =>
    let s1 := s.heard t r
    let i := s1.rdReq r O.RULE_INDEX
    let d := s1.rdReq r O.RULE_DATA
    (8191 < i → u.rdReq r O.RULE_RESULT = 1 ∧ u.eth = s1.eth) ∧
    (i ≤ 8191 → ruleBad d = true → u.rdReq r O.RULE_RESULT = 2 ∧ u.eth = s1.eth) ∧
    (i ≤ 8191 → ruleBad d = false → u.rdReq r O.RULE_RESULT = 0 ∧
      look u.eth.rules i = some { value := bits d 0 320, mask := bits d 320 320, action := bits d 640 128, valid := true } ∧
      (∀ k, k ≠ i → look u.eth.rules k = look s1.eth.rules k) ∧ u.rd O.RULES_VALID = u.rulesValid))) ∧
  (∀ (s : State) (t : Tick) (r : Req), s.takes t r O.RULE_COMMAND 1 2 = true → Completes (.ruleInvalidate t r) s (fun u =>
    let s1 := s.heard t r
    let i := s1.rdReq r O.RULE_INDEX
    (8191 < i → u.rdReq r O.RULE_RESULT = 1 ∧ u.eth = s1.eth) ∧
    (i ≤ 8191 → u.rdReq r O.RULE_RESULT = 0 ∧ (∀ x, look u.eth.rules i = some x → x.valid = false) ∧
      (∀ k, k ≠ i → look u.eth.rules k = look s1.eth.rules k)))) ∧
  (∀ (s : State) (t : Tick) (r : Req), s.takes t r O.RULE_COMMAND 1 3 = true → Completes (.ruleRead t r) s (fun u =>
    let s1 := s.heard t r
    let i := s1.rdReq r O.RULE_INDEX
    (∀ x, i ≤ 8191 → look s1.eth.rules i = some x → u.rdReq r O.RULE_RESULT = 0 ∧ u.rdReq r O.RULE_DATA = x.data ∧
      u.rdReq r O.RULE_VALID_NOW = (if x.valid then 1 else 0)) ∧
    (i ≤ 8191 → look s1.eth.rules i = none → u.rdReq r O.RULE_RESULT = 0 ∧ u.rdReq r O.RULE_VALID_NOW = 0) ∧
    (8191 < i → u.rdReq r O.RULE_RESULT = 1) ∧ u.eth = s1.eth)) ∧
  (∀ (s : State) (t : Tick) (r : Req), s.takes t r O.RULE_COMMAND 1 4 = true → Completes (.ruleClearHits t r) s (fun u =>
    let s1 := s.heard t r
    let i := s1.rdReq r O.RULE_INDEX
    (8191 < i → u.rdReq r O.RULE_RESULT = 1 ∧ u.rd O.RULE_HITS = s1.rd O.RULE_HITS) ∧
    (i ≤ 8191 → u.rdReq r O.RULE_RESULT = 0 ∧ bits (u.rd O.RULE_HITS) (128 * i) 128 = 0 ∧
      (∀ k, k ≠ i → bits (u.rd O.RULE_HITS) (128 * k) 128 = bits (s1.rd O.RULE_HITS) (128 * k) 128)) ∧ u.eth = s1.eth)) ∧
  (∀ (s : State) (t : Tick), Completes (.frameClassify t) s (fun u =>
    let s1 := s.tickTo t
    (s1.eth.parse = [] → u = s1) ∧
    (∀ f, nextParse s1.eth.parse = some f → (∀ e ∈ s1.eth.past, e.1 ≤ f.at_) →
      let s2 := s1.onEth (fun e => { e with parse := e.parse.filter (fun x => x.num != f.num) })
      let w := s2.parseFrame f
      (w.zero = true → Counted s1 u O.LEN_ZERO ∧ ∀ x ∈ u.eth.parse, x.num ≠ f.num) ∧
      (∀ i x, w.zero = false → w.conflict = false → w.deep = false → s2.ruleFor (keyOf f w) = some (i, x) → bitAt x.action 3 = true →
        Counted s1 u O.RULE_DROPPED)))) ∧
  (∀ (s : State) (t : Tick) (r : Req) (v : Nat), s.takes t r O.HOST_TAIL 4 v = true → v < 2 ^ 32 → Completes (.hostTailWrite t r v) s (fun u =>
    let s1 := s.heard t r
    let size := s1.rd O.HOST_RING_SIZE
    u.rd O.HOST_TAIL = v ∧ u.rd O.HOST_RING_SIZE = size ∧
    (size = 0 ∨ s1.rd O.HOST_HEAD % size = v % size → SameObjects s1 u [O.HOST_TAIL, O.CAN_TX] ∧ OnlyParts (answers []) s1 u) ∧
    (size ≠ 0 → size ≤ 65536 → u.rd O.HOST_HEAD % size = v % size)))

/-- PPS_PULSE, PPS_MISSED, PPS_NEXT_S_WRITE, SWITCH_HOLD_EXPIRE, HOLDOVER_EXPIRE and TS_POP (R364 to R366, R374). -/
def Obligations.TimeFollowsItsSources : Prop :=
  (∀ (s : State) (t : Tick) (falling : Bool) (frac : Fin 8), Completes (.ppsPulse t falling frac) s (fun u =>
    let s1 := s.tickTo t
    let seen : Bool := s1.timeUp && s1.flag O.PPS_ENABLE && (s1.rd O.PPS_EDGE == 1) == falling
    (seen = false → u = s1) ∧
    (seen = true → (∀ a, s1.tim.ppsAt = some a → s1.now < a + 180000000 → Counted s1 u O.PPS_REJECTED ∧ OnlyParts [.objs] s1 u) ∧
      ((∀ a, s1.tim.ppsAt = some a → a + 180000000 ≤ s1.now) → u.tim.ppsAt = some s1.now ∧ u.tim.ppsNext = none ∧
        u.rd O.PPS_REJECTED = s1.rd O.PPS_REJECTED)))) ∧
  (∀ (s : State) (t : Tick), Completes (.ppsMissed t) s (fun u =>
    let s1 := s.tickTo t
    (s1.timeUp = false ∨ s1.tim.ppsAt = none → u = s1) ∧
    (∀ a, s1.timeUp = true → s1.tim.ppsAt = some a → (s1.now < a + 220000000 + s1.tim.ppsRow * secTk → u = s1) ∧
      (a + 220000000 + s1.tim.ppsRow * secTk ≤ s1.now → u.tim.ppsRow = s1.tim.ppsRow + 1 ∧
        (s1.flag O.PPS_ENABLE = true → s1.tim.ppsCount = true → Counted s1 u O.PPS_MISSED))))) ∧
  (∀ (s : State) (t : Tick) (r : Req) (v : Nat), s.takes t r O.PPS_NEXT_S 8 v = true → v < 2 ^ 64 → Completes (.ppsNextSWrite t r v) s (fun u =>
    u.tim.ppsNext = some v ∧ OnlyParts (answers [.tim]) (s.heard t r) u ∧ SameObjects (s.heard t r) u [O.CAN_TX])) ∧
  (∀ (s : State) (t : Tick) (k : Fin 4), Completes (.switchHoldExpire t k) s (fun u =>
    let s1 := s.tickTo t
    (s1.timeUp = false ∨ (s1.source k.val).qualified = false ∨ s1.now < (s1.source k.val).qualAt + s1.rd O.SWITCH_HOLD_S * secTk → u = s1) ∧
    (s1.timeUp = true → (s1.source k.val).qualified = true → (s1.source k.val).qualAt + s1.rd O.SWITCH_HOLD_S * secTk ≤ s1.now →
      s1.timeState = 2 → s1.sourceRank k.val < s1.sourceRank (s1.rd O.SOURCE_NOW) →
      u.rd O.SOURCE_NOW = k.val ∧ Counted s1 u O.SOURCE_SWITCHES))) ∧
  (∀ (s : State) (t : Tick), Completes (.holdoverExpire t) s (fun u =>
    let s1 := s.tickTo t
    (s1.timeState ≠ 3 ∨ s1.holdErr ≤ s1.rd O.HOLDOVER_MAX_NS → u = s1) ∧
    (s1.timeState = 3 → s1.rd O.HOLDOVER_MAX_NS < s1.holdErr → u.timeState = 0 ∧ u.rd O.SOURCE_NOW = 0 ∧ Counted s1 u O.HOLDOVER_EXPIRIES))) ∧
  (∀ (s : State) (t : Tick) (r : Req) (p : Fin 4) (v : Nat), s.takes t r (O.TS_POP p.val) 4 v = true → v < 2 ^ 32 →
    Completes (.tsPop t r p v) s (fun u =>
      let s1 := s.heard t r
      (s1.tsq p.val = [] → RefusedWith s1 u .valueRange) ∧
      (∀ e l, s1.tsq p.val = e :: l → (bits e 16 32 = v → u.tsq p.val = l ∧ u.rd (O.TS_DEPTH p.val) = l.length ∧ u.rd (O.TS_HEAD p.val) = l.headD 0) ∧
        (bits e 16 32 ≠ v → RefusedWith s1 u .valueRange))))

/-- PTP_SYNC_TIMER, PTP_ANNOUNCE_TIMER, PTP_DELAY_REQ_TIMER and PTP_ANNOUNCE_TIMEOUT (R368); the Delay_Req interval is a presumption of the model. -/
def Obligations.PtpPortsKeepTheirTimers : Prop :=
  (∀ (s : State) (t : Tick) (p : Fin 4), Completes (.ptpSyncTimer t p) s (fun u =>
    let s1 := s.tickTo t
    (s1.ptpOn p.val = false ∨ s1.ptpState p.val ≠ 6 ∨ s1.now < (s1.ptp p.val).syncAt + s1.syncTk p.val → u = s1) ∧
    (s1.ptpOn p.val = true → s1.ptpState p.val = 6 → (s1.ptp p.val).syncAt + s1.syncTk p.val ≤ s1.now →
      (u.ptp p.val).syncAt = s1.now ∧ (u.ptp p.val).syncSeq = ((s1.ptp p.val).syncSeq + 1) % 65536))) ∧
  (∀ (s : State) (t : Tick) (p : Fin 4), Completes (.ptpAnnounceTimer t p) s (fun u =>
    let s1 := s.tickTo t
    (s1.ptpOn p.val = false ∨ s1.ptpState p.val ≠ 6 ∨ s1.now < (s1.ptp p.val).announceAt + s1.announceTk p.val → u = s1) ∧
    (s1.ptpOn p.val = true → s1.ptpState p.val = 6 → (s1.ptp p.val).announceAt + s1.announceTk p.val ≤ s1.now →
      (u.ptp p.val).announceAt = s1.now ∧ (u.ptp p.val).announceSeq = ((s1.ptp p.val).announceSeq + 1) % 65536))) ∧
  (∀ (s : State) (t : Tick) (p : Fin 4), Completes (.ptpDelayReqTimer t p) s (fun u =>
    let s1 := s.tickTo t
    let role : Bool := s1.rd (O.DELAY_MECH p.val) == 1 || s1.ptpState p.val == 8 || s1.ptpState p.val == 9
    (s1.ptpOn p.val = false ∨ role = false ∨ s1.now < (s1.ptp p.val).reqAt + s1.syncTk p.val → u = s1) ∧
    (s1.ptpOn p.val = true → role = true → (s1.ptp p.val).reqAt + s1.syncTk p.val ≤ s1.now →
      (u.ptp p.val).reqAt = s1.now ∧ (u.ptp p.val).reqSeq = ((s1.ptp p.val).reqSeq + 1) % 65536))) ∧
  (∀ (s : State) (t : Tick) (p : Fin 4), Completes (.ptpAnnounceTimeout t p) s (fun u =>
    let s1 := s.tickTo t
    let old := fun (a : Nat) => decide (a + s1.rd (O.ANNOUNCE_TIMEOUT p.val) * s1.announceTk p.val ≤ s1.now)
    let foreign := (s1.ptp p.val).foreign
    let lapsed : Bool := if foreign = [] then old (s1.ptp p.val).since else foreign.any (fun f => old f.at_)
    (s1.ptpOn p.val = false ∨ lapsed = false → u = s1) ∧
    (s1.ptpOn p.val = true → lapsed = true → (u.ptp p.val).foreign = foreign.filter (fun f => !old f.at_))))

/-- HART_START (R388). -/
def Obligations.HartStartStartsParkedHarts : Prop :=
  ∀ (s : State) (t : Tick) (r : Req) (mask : Nat), s.takes t r O.HART_START 2 mask = true → mask < 2 ^ 16 →
    Completes (.hartStart t r mask) s (fun u =>
      let s1 := s.heard t r
      (∀ h, h < 16 → bitAt mask h = true → s1.hartState h = 1 →
        u.hartState h = 2 ∧ (u.hart h).pc = s1.rd O.HART_ENTRY ∧ (u.hart h).priv = 3 ∧ (u.hart h).a0 = h) ∧
      (∀ h, h < 16 → bitAt mask h = false ∨ s1.hartState h ≠ 1 → u.hartState h = s1.hartState h ∧ u.hart h = s1.hart h) ∧
      OnlyParts (answers [.cores]) s1 u ∧ SameObjects s1 u [O.HART_STATE, O.CAN_TX])

/-- TASK_GET, TASK_DONE, TASK_ENQ_ARG, TASK_ENQ, TASK_FORWARD, TASK_FREE, CANCEL_SEQ_READ and SERVICE_LIMIT_EXCEEDED. -/
def Obligations.TaskPortServesItems : Prop :=
  (∀ (s : State) (t : Tick) (h : Fin 16), Completes (.taskGet t h) s (fun u =>
    let s1 := s.tickTo t
    (s1.hartRuns h.val = false → u = s1) ∧
    (s1.hartRuns h.val = true → 8 ≤ (s1.held h.val).length ∨ s1.nextItem h.val = none → u = s1.emit (.csrData h.val 0)) ∧
    (∀ i stolen win, s1.hartRuns h.val = true → (s1.held h.val).length < 8 → s1.nextItem h.val = some (i, stolen, win) →
      u.out = [.csrData h.val (itemWord { i with c0 := win })] ∧ (∀ j ∈ u.cores.queued, j.seq ≠ i.seq) ∧
      ∃ x ∈ u.cores.serving, x.hart = h.val ∧ x.item.seq = i.seq ∧ x.item.flow = i.flow ∧ x.since = s1.now))) ∧
  (∀ (s : State) (t : Tick) (h : Fin 16) (seq : Nat) (keep : Bool), Completes (.taskDone t h seq keep) s (fun u =>
    let s1 := s.tickTo t
    (s1.hartRuns h.val = false → u = s1) ∧
    (s1.hartRuns h.val = true → s1.heldItem h.val (seq % 2 ^ 32) = none → Counted s1 u O.DONE_INVALID ∧
      OutEvent.busError h.val 0x30000010 ∈ u.out ∧ u.jot.faults.getLast?.map (fun e => e.code) = some Abort.valueRange.code ∧ u.cores = s1.cores) ∧
    (∀ x, s1.hartRuns h.val = true → s1.heldItem h.val (seq % 2 ^ 32) = some x →
      Counted s1 u O.ITEMS_DONE ∧ ∀ y ∈ u.cores.serving, y.item.seq ≠ seq % 2 ^ 32))) ∧
  (∀ (s : State) (t : Tick) (h : Fin 16) (arg : Nat), Completes (.taskEnqArg t h arg) s (fun u =>
    let s1 := s.tickTo t
    (s1.hartRuns h.val = false → u = s1) ∧ (s1.hartRuns h.val = true → (u.hart h.val).enqArg = arg % 2 ^ 32) ∧ OnlyParts [.cores] s1 u)) ∧
  (∀ (s : State) (t : Tick) (h : Fin 16) (addr : Nat) (f : Fin 65536), Completes (.taskEnq t h addr f) s (fun u =>
    let s1 := s.tickTo t
    let e := (s1.flow f.val).entry
    (s1.hartRuns h.val = false → u = s1) ∧
    (s1.hartRuns h.val = true →
      (s1.heldCancelled h.val = true → (u.hart h.val).enqResult = 4 ∧ Counted s1 u O.DISCARDED_AFTER_CANCEL ∧ u.cores.queued = s1.cores.queued) ∧
      (s1.heldCancelled h.val = false → s1.flowC0 f.val = true → (u.hart h.val).enqResult = 5 ∧ u.cores.queued = s1.cores.queued) ∧
      (s1.heldCancelled h.val = false → s1.flowC0 f.val = false → flowDepth e = 0 → (u.hart h.val).enqResult = 1 ∧ Counted s1 u O.FLOW_DISABLED) ∧
      (s1.heldCancelled h.val = false → s1.flowC0 f.val = false → s1.flowDepthNow f.val < flowDepth e → s1.poolOpen ≠ 0 →
        (u.hart h.val).enqResult = 0 ∧ Counted s1 u O.ITEMS_QUEUED ∧
        ∃ i, u.cores.queued = s1.cores.queued ++ [i] ∧ i.seq = s1.cores.nextSeq ∧ i.flow = f.val ∧ i.addr = addr % 2 ^ 40 ∧ i.source = 0 ∧
          i.arg = (s1.hart h.val).enqArg)))) ∧
  (∀ (s : State) (t : Tick) (h : Fin 16) (seq : Nat), Completes (.taskForward t h seq) s (fun u =>
    let s1 := s.tickTo t
    (s1.hartRuns h.val = false ∨ (s1.heldCancelled h.val = false ∧ s1.heldItem h.val (seq % 2 ^ 32) = none) → u = s1) ∧
    (s1.hartRuns h.val = true → s1.heldCancelled h.val = true → u = s1.bump O.DISCARDED_AFTER_CANCEL) ∧
    (∀ x n, s1.hartRuns h.val = true → s1.heldCancelled h.val = false → s1.heldItem h.val (seq % 2 ^ 32) = some x → x.item.frame = some n →
      ∀ y ∈ u.cores.serving, y.item.seq = seq % 2 ^ 32 → y.forwarded = true))) ∧
  (∀ (s : State) (t : Tick) (h : Fin 16) (addr : Nat), Completes (.taskFree t h addr) s (fun u =>
    let s1 := s.tickTo t
    (s1.hartRuns h.val = false ∨ (∀ b ∈ s1.cores.kept, b.1 ≠ addr % 2 ^ 40) → u = s1) ∧
    (s1.hartRuns h.val = true → ∀ b ∈ u.cores.kept, b.1 ≠ addr % 2 ^ 40) ∧ OnlyParts [.cores, .eth, .cph] s1 u)) ∧
  (∀ (s : State) (t : Tick) (h : Fin 16), Completes (.cancelSeqRead t h) s (fun u =>
    let s1 := s.tickTo t
    (s1.hartRuns h.val = false → u = s1) ∧
    (s1.hartRuns h.val = true → (u.hart h.val).cancelPending = false ∧ u.out = [.csrData h.val (s1.hart h.val).cancelSeq]) ∧
    OnlyParts [.cores, .out] s1 u)) ∧
  (∀ (s : State) (t : Tick) (seq : Nat), Completes (.serviceLimitExceeded t seq) s (fun u =>
    let s1 := s.tickTo t
    let limit := s1.rd O.SERVICE_LIMIT_US * 200
    ∀ x, s1.cores.serving.find? (fun x => x.item.seq == seq) = some x →
      (limit = 0 ∨ s1.now ≤ x.since + limit ∨ x.limitCounted = true → u = s1) ∧
      (limit ≠ 0 → x.since + limit < s1.now → x.limitCounted = false → Counted s1 u O.SERVICE_LIMIT ∧
        ∀ y ∈ u.cores.serving, y.item.seq = seq → y.limitCounted = true)))

/-- The FLOW_COMMAND rows (R391, R393, R398). -/
def Obligations.FlowCommandsKeepTheContexts : Prop :=
  (∀ (s : State) (t : Tick) (r : Req), s.takes t r O.FLOW_COMMAND 1 1 = true → Completes (.flowWrite t r) s (fun u =>
    let s1 := s.heard t r
    let f := s1.rdReq r O.FLOW_INDEX
    let e := s1.rdReq r O.FLOW_ENTRY
    (flowClass e = 0 ∨ flowMask e = 0 → u.rdReq r O.FLOW_RESULT = 2 ∧ u.cores = s1.cores) ∧
    (flowClass e ≠ 0 → flowMask e ≠ 0 → s1.flowC0 f = false → u.rdReq r O.FLOW_RESULT = 0 ∧ (u.flow f).entry = setBits e 40 24 0 ∧
      (s1.hartUp (flowHome e) = true → bitAt (flowMask e) (flowHome e) = true → (u.flow f).home = flowHome e) ∧
      (∀ k, k ≠ f → u.flow k = s1.flow k) ∧ OnlyParts (answers [.cores, .preq]) s1 u) ∧
    (flowClass e ≠ 0 → flowMask e ≠ 0 → s1.flowC0 f = true → flowClass e ≠ flowClass (s1.flow f).entry → u.rdReq r O.FLOW_RESULT = 3))) ∧
  (∀ (s : State) (t : Tick) (r : Req), s.takes t r O.FLOW_COMMAND 1 2 = true → Completes (.flowRead t r) s (fun u =>
    let s1 := s.heard t r
    u.rdReq r O.FLOW_RESULT = 0 ∧ u.rdReq r O.FLOW_ENTRY = (s1.flow (s1.rdReq r O.FLOW_INDEX)).entry ∧ OnlyParts (answers [.preq]) s1 u)) ∧
  (∀ (s : State) (t : Tick) (r : Req), s.takes t r O.FLOW_COMMAND 1 3 = true → Completes (.flowCancel t r) s (fun u =>
    let s1 := s.heard t r
    let f := s1.rdReq r O.FLOW_INDEX
    (∀ i ∈ s1.cores.queued, i.flow = f → i.frame = none) →
      u.rdReq r O.FLOW_RESULT = 0 ∧ (∀ i ∈ u.cores.queued, i.flow ≠ f) ∧ (∀ x ∈ u.cores.serving, x.item.flow = f → x.cancelled = true) ∧
      Counted s1 u O.CANCELLED_QUEUED (s1.cores.queued.filter (fun i => i.flow == f)).length ∧
      Counted s1 u O.CANCELLED_IN_SERVICE (s1.cores.serving.filter (fun x => x.item.flow == f && !x.cancelled)).length)) ∧
  (∀ (s : State) (t : Tick) (r : Req), s.takes t r O.FLOW_COMMAND 1 4 = true → Completes (.flowStatus t r) s (fun u =>
    let s1 := s.heard t r
    u.rdReq r O.FLOW_RESULT = 0 ∧ u.rdReq r O.FLOW_STATUS = s1.flowStatus (s1.rdReq r O.FLOW_INDEX) ∧ OnlyParts (answers [.preq]) s1 u))

/-- BOOT_ROM_START, RECOVERY_IMAGE, HART_TIMER_FIRE, HART_SIP_WRITE, WDT_KICK, WDT_PRETIMEOUT, WDT_EXPIRE, WIN_RETURN, HART_LOAD_REFRESH and JTAG_DEBUG_REQUEST. -/
def Obligations.HartsBootAndAreWatched : Prop :=
  (∀ (s : State) (t : Tick) (a b : BootImage), Completes (.bootRomStart t a b) s (fun u =>
    let s1 := s.tickTo t
    (s1.bootReady = false → u = s1) ∧
    (s1.bootReady = true → u.pwr.boot = false ∧
      (s1.bootResult a = 0 → u.rd O.BOOT_STATUS = 0 ∧ (u.hart 0).pc = a.entry ∧ (u.hart 0).priv = 3) ∧
      (s1.bootResult a ≠ 0 → s1.bootResult b = 0 → u.rd O.BOOT_STATUS = 1 + s1.bootResult a * 16 ∧ (u.hart 0).pc = b.entry ∧ (u.hart 0).priv = 3) ∧
      (s1.bootResult a ≠ 0 → s1.bootResult b ≠ 0 →
        u.rd O.BOOT_STATUS = 3 + s1.bootResult a * 16 + s1.bootResult b * 256 ∧ u.cores = s1.cores)))) ∧
  (∀ (s : State) (t : Tick) (r : Req) (b : BootImage) (d : ObjDesc), (s.tickTo t).reaches r = true →
    (s.heard t r).writeCheck r (O.RECOVERY_IMAGE / 256) (O.RECOVERY_IMAGE % 256) b.length = .ok d →
    Completes (.recoveryImage t r b) s (fun u =>
      let s1 := s.heard t r
      let good : Bool := s1.bootWaits && s1.bootResult { b with readable := true, length := 0 } == 0
      (good = true → (u.hart 0).pc = b.entry ∧ (u.hart 0).priv = 3 ∧ u.rd O.BOOT_STATUS % 4 = 2) ∧
      (good = false → u.cores = s1.cores ∧ u.rd O.BOOT_STATUS = s1.rd O.BOOT_STATUS))) ∧
  (∀ (s : State) (t : Tick) (h : Fin 16) (cmp : Nat), Completes (.hartTimerFire t h cmp) s (fun u =>
    let s1 := s.tickTo t
    let v := cmp % 2 ^ 64
    (u.hart h.val).cmp = v ∧ u.timerPending h.val = decide (v ≤ s1.timeNow) ∧
    u.hartFired h.val = (if v ≤ s1.timeNow ∧ s1.timerPending h.val = false then s1.timeNow else s1.hartFired h.val) ∧
    OnlyParts [.cores] s1 u)) ∧
  (∀ (s : State) (t : Tick) (h : Fin 16) (val : Nat), Completes (.hartSipWrite t h val) s (fun u =>
    (u.hart h.val).sip = val % 2 ∧ OnlyParts [.cores] (s.tickTo t) u)) ∧
  (∀ (s : State) (t : Tick) (r : Req) (v : Nat), s.takes t r O.WDT_KICK 4 v = true → v < 2 ^ 32 → Completes (.wdtKick t r v) s (fun u =>
    let s1 := s.heard t r
    (v = 0x5A5A → u.cores.wdtAt = (s.tickTo t).now ∧ u.cores.wdtWarned = false ∧ OnlyParts (answers [.cores]) s1 u) ∧
    (v ≠ 0x5A5A → RefusedWith s1 u .valueRange))) ∧
  (∀ (s : State) (t : Tick), Completes (.wdtPretimeout t) s (fun u =>
    let s1 := s.tickTo t
    (s1.wdtTk = 0 ∨ s1.cores.wdtWarned = true ∨ 2 * s1.now < 2 * s1.cores.wdtAt + s1.wdtTk → u = s1) ∧
    (s1.wdtTk ≠ 0 → s1.cores.wdtWarned = false → 2 * s1.cores.wdtAt + s1.wdtTk ≤ 2 * s1.now →
      u.cores.wdtWarned = true ∧ Counted s1 u O.WDT_PRETIMEOUTS ∧ bitAt (u.rd O.FAULT_N_LATCH) 7 = true))) ∧
  (∀ (s : State) (t : Tick), Completes (.wdtExpire t) s (fun u =>
    let s1 := s.tickTo t
    (s1.wdtTk = 0 ∨ s1.now < s1.cores.wdtAt + s1.wdtTk → u = s1) ∧
    (s1.wdtTk ≠ 0 → s1.cores.wdtAt + s1.wdtTk ≤ s1.now → bitAt (u.rd O.RESET_CAUSE) 2 = true ∧ u.resetAt = s1.now ∧
      ∀ n, 1 ≤ n → n < 16 → u.domain n = 3))) ∧
  (∀ (s : State) (t : Tick) (h : Fin 16), Completes (.winReturn t h) s (fun u =>
    let s1 := s.tickTo t
    ((s1.hart h.val).active = false → u = s1) ∧
    ((s1.hart h.val).active = true → (s1.hart h.val).deferred = none →
      (u.hart h.val).pc = (s1.hart h.val).winEpc ∧ (u.hart h.val).priv = (s1.hart h.val).winStatus ∧ (u.hart h.val).active = false ∧
      OnlyParts [.cores] s1 u))) ∧
  (∀ (s : State) (t : Tick), Completes (.hartLoadRefresh t) s (fun u =>
    let s1 := s.tickTo t
    (s1.now < s1.cores.loadAt + 100 * msTk → u = s1) ∧
    (s1.cores.loadAt + 100 * msTk ≤ s1.now → u.cores.loadAt = s1.now ∧ (∀ h, h < 16 → (u.hart h).done = 0 ∧ (u.hart h).waitCnt = 0 ∧
      bits (u.hart h).load 32 32 = (s1.hart h).done % 2 ^ 32) ∧ OnlyParts [.cores, .free] s1 u))) ∧
  (∀ (s : State) (t : Tick) (h : Fin 16) (halt : Bool), Completes (.jtagDebugRequest t h halt) s (fun u =>
    let s1 := s.tickTo t
    (s1.jtagOpen = false ∨ s1.idPowered (0x420 + h.val) = false → u = s1) ∧
    (s1.jtagOpen = true → s1.idPowered (0x420 + h.val) = true →
      (halt = true → 1 ≤ s1.hartState h.val → s1.hartState h.val ≤ 3 → u.hartState h.val = 4 ∧ (u.hart h.val).back = s1.hartState h.val) ∧
      (halt = false → s1.hartState h.val = 4 → (s1.hart h.val).deferred = none ∨ (s1.hart h.val).active = true →
        u.hartState h.val = (s1.hart h.val).back % 256)) ∧ OnlyParts [.cores, .objs, .out, .free] s1 u))

/-- MEMORY_READ, MEMORY_PARTIAL_WRITE, SCRUB_READ, PAN_INIT_DONE and PAN_RETAIN_REQ. -/
def Obligations.MemoryIsReadAndWritten : Prop :=
  (∀ (s : State) (t : Tick) (source addr flips : Nat), Completes (.memoryRead t source addr flips (.block .other)) s (fun u =>
    let s1 := s.tickTo t
    let a := addr / 16 * 16
    (s1.blockServed addr = false → u = s1) ∧
    (s1.memQuiet → s1.memServed addr = true → flips = 0 → OutEvent.memData source a (s1.memRead a 16) ∈ u.out) ∧
    (s1.memQuiet → s1.memServed addr = true → (s1.wordJudge a flips).1 = .bad → Counted s1 u O.UE_CONSUMED))) ∧
  (∀ (s : State) (t : Tick) (source addr flips : Nat) (h : Fin 16), (eccJudge false false flips).1 = .bad →
    Completes (.memoryRead t source addr flips (.cache h .clean)) s (fun u =>
      Counted (s.tickTo t) u O.CACHE_UNCORRECTED ∧ OnlyParts [.objs] (s.tickTo t) u)) ∧
  (∀ (s : State) (t : Tick) (source a len val flips : Nat), 20 ≤ source → Completes (.memoryPartialWrite t source a len val flips) s (fun u =>
    let s1 := s.tickTo t
    let w := a / 16 * 16
    ((∀ k, k < len → s1.blockServed (a + k) = false) → OnlyParts [.cores] s1 u) ∧
    (s1.memQuiet → flips = 0 → (∀ k, k < len → s1.memServed (a + k) = true) →
      OnlyParts [.mem, .cores, .objs] s1 u ∧
      (∀ x, x < a ∨ a + len ≤ x → u.memByte x = s1.memByte x) ∧
      (∀ k, k < len → u.memByte (a + k) = (octets val len).getD k 0)) ∧
    (∀ p o, whereIs a = .brine p o → s1.memServed a = true → 1 ≤ len → len < 16 → a + len ≤ w + 16 → s1.memQuiet →
      (s1.wordJudge w flips).1 = .bad →
      w ∈ u.mem.poison ∧ ∃ e, u.mem.errors.getLast? = some e ∧ e.kind = 4 ∧ e.addr = w))) ∧
  (∀ (s : State) (t : Tick) (m : Fin 3) (flips : Nat), Completes (.scrubRead t m flips) s (fun u =>
    let s1 := s.tickTo t
    let i := lookD s1.mem.scrub m.val 0
    let c := m.val - 1
    let j := if 16 * i < s1.fittedCap c then i else 0
    let held := s1.rankHeld c (s1.memOf (chanBase c + 16 * j)).2
    (m.val = 0 → s1.rd O.MEM_SCRUB_PERIOD_S = 0 → u = s1) ∧
    (∀ n, m.val = 0 → s1.rd O.MEM_SCRUB_PERIOD_S ≠ 0 → s1.scrubNext i 17 = some n → lookD u.mem.scrub 0 0 = n + 1) ∧
    (m.val ≠ 0 → s1.rd (O.CH_SCRUB_PERIOD_S c) = 0 ∨ s1.chState c ≠ 4 ∨ held = true → u = s1) ∧
    (m.val ≠ 0 → s1.rd (O.CH_SCRUB_PERIOD_S c) ≠ 0 → s1.chState c = 4 → held = false → lookD u.mem.scrub m.val 0 = j + 1))) ∧
  (∀ (s : State) (t : Tick) (p : Fin 16), Completes (.panInitDone t p) s (fun u =>
    let s1 := s.tickTo t
    (s1.oct O.PAN_POWER p.val ≠ 1 → u = s1) ∧
    (s1.oct O.PAN_POWER p.val = 1 → u.oct O.PAN_POWER p.val = 2 ∧
      (s1.pan p.val = 0 ∨ s1.pan p.val = 6 → u.pan p.val = (if s1.flag O.PAN_RESERVE p.val then 2 else 1)) ∧ OnlyParts [.objs, .plc] s1 u))) ∧
  (∀ (s : State) (t : Tick) (r : Req) (v : Nat), s.takes t r O.PAN_RETAIN_REQ 2 v = true → v < 2 ^ 16 → Completes (.panRetainReq t r v) s (fun u =>
    let s1 := s.heard t r
    ((∃ p, p < 16 ∧ bitAt v p = true ∧ s1.flag O.PAN_RESERVE p = false) → RefusedWith s1 u .valueRange) ∧
    ((∀ p, p < 16 → bitAt v p = true → s1.flag O.PAN_RESERVE p = true) → u.rd O.PAN_RETAIN_REQ = v ∧
      ∀ p, p < 16 → u.oct O.PAN_POWER p = (if s1.flag O.PAN_RESERVE p && bitAt v p && s1.oct O.PAN_POWER p == 2 then 3
        else if s1.flag O.PAN_RESERVE p && !bitAt v p && s1.oct O.PAN_POWER p == 3 then 2 else s1.oct O.PAN_POWER p))))

/-- CH_INIT, CH_MARK_READY, CH_RESET, CH_FREQ_CHANGE, FREQ_CHANGE_DONE, CH_INIT_DONE, SR_IDLE_ENTRY, SR_EXIT and ZQ_OVERDUE. -/
def Obligations.DramChannelsChangeState : Prop :=
  (∀ (s : State) (t : Tick) (r : Req) (c : Fin 2), s.takes t r (O.CH_COMMAND c.val) 4 1 = true → Completes (.chInit t r c) s (fun u =>
    let s1 := s.heard t r
    u.rdReq r (O.CH_RESULT c.val) = (if s1.chState c.val = 1 then 0 else 1) ∧
    u.chState c.val = (if s1.chState c.val = 1 then 2 else s1.chState c.val))) ∧
  (∀ (s : State) (t : Tick) (r : Req) (c : Fin 2), s.takes t r (O.CH_COMMAND c.val) 4 2 = true → Completes (.chMarkReady t r c) s (fun u =>
    let s1 := s.heard t r
    let ok := s1.trained c.val (s1.rd (O.RATE_NOW c.val))
    u.rdReq r (O.CH_RESULT c.val) = (if s1.chState c.val ≠ 3 then 1 else if ok then 0 else 2) ∧
    u.chState c.val = (if s1.chState c.val = 3 ∧ ok = true then 4 else s1.chState c.val))) ∧
  (∀ (s : State) (t : Tick) (r : Req) (c : Fin 2), s.takes t r (O.CH_COMMAND c.val) 4 4 = true → Completes (.chReset t r c) s (fun u =>
    let s1 := s.heard t r
    u.rdReq r (O.CH_RESULT c.val) = (if s1.chState c.val = 0 then 1 else 0) ∧ u.chState c.val = (if s1.chState c.val = 0 then 0 else 1))) ∧
  (∀ (s : State) (t : Tick) (r : Req) (c : Fin 2) (rate : Fin 4) (abort : Bool),
    s.takes t r (O.CH_COMMAND c.val) 4 (3 + rate.val * 2 ^ 8 + (if abort then 2 ^ 10 else 0)) = true →
    Completes (.chFreqChange t r c rate abort) s (fun u =>
      let s1 := s.heard t r
      let st := s1.chState c.val
      (st ≠ 3 → st ≠ 4 → u.rdReq r (O.CH_RESULT c.val) = (if st = 5 then 4 else 1) ∧ u.mem = s1.mem) ∧
      (st = 3 ∨ st = 4 → (s1.chan c.val).training = none →
        (rate.val = 3 ∨ rate.val = s1.rd (O.RATE_NOW c.val) → u.rdReq r (O.CH_RESULT c.val) = 5 ∧ u.mem = s1.mem) ∧
        (rate.val ≠ 3 → rate.val ≠ s1.rd (O.RATE_NOW c.val) → u.rdReq r (O.CH_RESULT c.val) = 0 ∧ u.chState c.val = 6 ∧
          Counted s1 u (O.FREQ_CHANGES c.val) ∧ (u.chan c.val).change = some (rate.val, false))))) ∧
  (∀ (s : State) (t : Tick) (c : Fin 2), Completes (.freqChangeDone t c) s (fun u =>
    let s1 := s.tickTo t
    (s1.chState c.val ≠ 6 → u = s1) ∧
    (∀ rate, s1.chState c.val = 6 → (s1.chan c.val).change = some (rate, false) →
      u.rd (O.RATE_NOW c.val) = rate ∧ (u.chan c.val).change = none ∧ u.chState c.val = (if s1.trained c.val rate then 4 else 3)))) ∧
  (∀ (s : State) (t : Tick) (c : Fin 2) (ok : Bool), Completes (.chInitDone t c ok) s (fun u =>
    let s1 := s.tickTo t
    (s1.chState c.val ≠ 2 → u = s1) ∧
    (s1.chState c.val = 2 → u.chState c.val = (if ok then 3 else 1) ∧ (ok = false → Counted s1 u (O.INIT_FAIL c.val))))) ∧
  (∀ (s : State) (t : Tick) (c : Fin 2), Completes (.srIdleEntry t c) s (fun u =>
    let s1 := s.tickTo t
    let ns := s1.rd (O.SR_IDLE_NS c.val)
    let x := s1.chan c.val
    (ns = 0 ∨ s1.chState c.val ≠ 4 ∨ x.rq ≠ [] ∨ x.wq ≠ [] ∨ x.input ≠ [] ∨ s1.now < x.lastRequest + ceilDiv ns 5 → u = s1) ∧
    (ns ≠ 0 → s1.chState c.val = 4 → x.rq = [] → x.wq = [] → x.input = [] → x.lastRequest + ceilDiv ns 5 ≤ s1.now →
      u.chState c.val = 5 ∧ (u.chan c.val).idle = true ∧ Counted s1 u (O.SR_ENTRIES c.val)))) ∧
  (∀ (s : State) (t : Tick) (c : Fin 2), Completes (.srExit t c) s (fun u =>
    let s1 := s.tickTo t
    (s1.chState c.val ≠ 5 ∨ (s1.chan c.val).idle = false → u = s1) ∧
    (s1.chState c.val = 5 → (s1.chan c.val).idle = true → u.chState c.val = 4 ∧ (u.chan c.val).idle = false ∧
      (s1.now < (s1.chan c.val).srAt + 5 → Counted s1 u (O.SR_LATE_REQUEST c.val))))) ∧
  (∀ (s : State) (t : Tick) (k : Fin 4), Completes (.zqOverdue t k) s (fun u =>
    let s1 := s.tickTo t
    let c := k.val / 2
    let x := (s1.chan c).rank (k.val % 2)
    let past := x.lastZq + 2 * (x.overdue + 1) * s1.rd (O.ZQ_PERIOD_MS c) * msTk
    (s1.chState c < 3 ∨ 4 < s1.chState c ∨ s1.now < past → u = s1) ∧
    (3 ≤ s1.chState c → s1.chState c ≤ 4 → past ≤ s1.now → Counted s1 u (O.ZQ_OVERDUE c) ∧ OnlyParts [.objs, .mem] s1 u ∧
      (k.val % 2 < (s1.chan c).ranks.length → ((u.chan c).rank (k.val % 2)).overdue = x.overdue + 1))))

/-- TRAIN_COMMAND (R432), TRAIN_RUN_DONE (R431) and TRAIN_TABLE_WRITE (R433). -/
def Obligations.TrainingRunsUntilTwoAgree : Prop :=
  (∀ (s : State) (t : Tick) (r : Req) (v : Nat), s.takes t r O.TRAIN_COMMAND 4 v = true → v < 2 ^ 32 → Completes (.trainCommand t r v) s (fun u =>
    let s1 := s.heard t r
    let c := bits v 0 1
    let rank := bits v 1 1
    let step := bits v 4 4
    let why := if (s1.chan c).training.isSome then 1 else if s1.chShed c then 3 else if s1.chState c ≠ 3 ∧ s1.chState c ≠ 4 then 2
      else if step = 0 ∨ 6 < step ∨ s1.rankCount c ≤ rank then 4 else 0
    u.rdReq r O.TRAIN_REFUSE = why ∧ (why ≠ 0 → u.mem = s1.mem) ∧
    (why = 0 → ∃ x, (u.chan c).training = some x ∧ x.rank = rank ∧ x.step = step ∧ x.runs = []))) ∧
  (∀ (s : State) (t : Tick) (c : Fin 2) (run : List (Nat × Nat)), Completes (.trainRunDone t c run) s (fun u =>
    let s1 := s.tickTo t
    ((s1.chan c.val).training = none → u = s1) ∧
    (∀ k, (s1.chan c.val).training = some k →
      let runs : Bool := k.gathering && s1.trainOpen c.val k.rank && run.length == stepValues k.step
      (runs = false → u = s1) ∧
      (runs = true → k.runs = [] → (u.chan c.val).training = some { k with runs := [run] }) ∧
      (∀ prev, runs = true → k.runs.getLast? = some prev →
        (runsAgree k.step prev run = true → (u.chan c.val).training = none ∧ Counted s1 u O.TRAIN_STEPS) ∧
        (runsAgree k.step prev run = false → k.runs.length = 4 → (u.chan c.val).training = none ∧ Counted s1 u O.TRAIN_FAILS) ∧
        (runsAgree k.step prev run = false → k.runs.length ≠ 4 → (u.chan c.val).training = some { k with runs := k.runs ++ [run] }))))) ∧
  (∀ (s : State) (t : Tick) (r : Req) (c : Fin 2) (es : List TrainEntry) (d : ObjDesc), (s.tickTo t).reaches r = true →
    (s.heard t r).writeCheck r (O.TRAIN_TABLE c.val / 256) (O.TRAIN_TABLE c.val % 256) 1536 = .ok d →
    Completes (.trainTableWrite t r c es) s (fun u =>
      let s1 := s.heard t r
      let bad := fun (e : TrainEntry) => (e.rate = s1.rd (O.RATE_NOW c.val) ∧ s1.chState c.val ≠ 3) ∨ 2 < e.rate ∨ 1 < e.rank ∨ e.step = 0 ∨ 6 < e.step
      ((∃ e ∈ es, bad e) → WriteRefused s1 u r (O.TRAIN_TABLE c.val) 1536 .valueRange) ∧
      ((∀ e ∈ es, ¬ bad e) → (u.chan c.val).results = es.foldl putResult (s1.chan c.val).results)))

/-- DOMAIN_REQ_ON, DOMAIN_REQ_IDLE, DOMAIN_REQ_DOZE, DOMAIN_REQ_OFF, FAULT_CLEAR and SLEEP_REQ, and the SLOW edge that carries them out. Code 0x0E of SLEEP_LAY and CLK as the place it is counted are the model's reading (notes/assumptions/37.md). -/
def Obligations.PowerRequestsWaitForTheEdge : Prop :=
  (∀ (s : State) (t : Tick) (r : Req) (n : Fin 16),
    (s.stages t r O.DOMAIN_REQ 2 n.val = true →
      Completes (.domainReqOn t r n) s (fun u => u = (s.heard t r).staged r O.DOMAIN_REQ 2 n.val)) ∧
    (s.stages t r O.DOMAIN_REQ 2 (n.val + 256) = true →
      Completes (.domainReqIdle t r n) s (fun u => u = (s.heard t r).staged r O.DOMAIN_REQ 2 (n.val + 256))) ∧
    (s.stages t r O.DOMAIN_REQ 2 (n.val + 512) = true →
      Completes (.domainReqDoze t r n) s (fun u => u = (s.heard t r).staged r O.DOMAIN_REQ 2 (n.val + 512))) ∧
    (s.stages t r O.DOMAIN_REQ 2 (n.val + 768) = true →
      Completes (.domainReqOff t r n) s (fun u => u = (s.heard t r).staged r O.DOMAIN_REQ 2 (n.val + 768)))) ∧
  (∀ (s : State) (t : Tick) (r : Req) (v : Nat),
    (s.stages t r O.FAULT_CLEAR 2 v = true →
      Completes (.faultClear t r v) s (fun u => u = (s.heard t r).staged r O.FAULT_CLEAR 2 v)) ∧
    (s.stages t r O.SLEEP_REQ 1 v = true →
      Completes (.sleepReq t r v) s (fun u => u = (s.heard t r).staged r O.SLEEP_REQ 1 v))) ∧
  (∀ (s : State) (t : Tick) (r : Req) (n target : Nat), n < 16 → target < 4 → s.appliesAt t r O.DOMAIN_REQ 2 (n + 256 * target) →
    Completes (.slowCopyApply t) s (fun u =>
      let s1 := s.tickTo t
      (n ≤ 1 → RefusedWith s1 u .valueRange) ∧
      (2 ≤ n → look s1.pwr.entering n = none → look s1.pwr.wakes n = none → n ∉ s1.pwr.queue →
        (s1.domain n ≤ 1 → target = 0 → u.oct O.REQ_RESULT n = 0 ∧ u.domain n = 0) ∧
        (∀ c, s1.domain n ≤ 1 → 2 ≤ target → s1.offRefused n = some c → u.oct O.REQ_RESULT n = 2 ∧ u.domain n = s1.domain n ∧
          bits (u.rd O.REFUSALS) (128 * n + 64) 16 = c + 256 * target) ∧
        (s1.domain n ≤ 1 → 2 ≤ target → s1.offRefused n = none → u.oct O.REQ_RESULT n = 1 ∧ u.domain n = 5 ∧
          look u.pwr.entering n = some { target := target, origin := s1.domain n }) ∧
        (∀ c, 2 ≤ s1.domain n → target ≤ 1 → s1.wakeRefused n = some c → u.oct O.REQ_RESULT n = 2 ∧ u.domain n = s1.domain n ∧
          bits (u.rd O.REFUSALS) (128 * n + 64) 16 = c + 256 * target) ∧
        (2 ≤ s1.domain n → target ≤ 1 → s1.wakeRefused n = none → s1.domainUp 1 = true → s1.prereqsUp n = true →
          u.oct O.REQ_RESULT n = 1 ∧ u.domain n = 4 ∧ ∃ w, look u.pwr.wakes n = some w ∧ w.attempt = 1 ∧ w.at_ = s1.now)))) ∧
  (∀ (s : State) (t : Tick) (r : Req) (v : Nat), v < 2 ^ 16 → bitAt v 1 = false → s.appliesAt t r O.FAULT_CLEAR 2 v →
    Completes (.slowCopyApply t) s (fun u =>
      let s1 := s.tickTo t
      ∀ n, n < 16 → (bitAt v n = true → u.domain n = (if s1.domain n = 6 then 3 else s1.domain n) ∧ bitAt (u.rd O.FAULT_DOMAINS) n = false) ∧
        (bitAt v n = false → u.domain n = s1.domain n ∧ bitAt (u.rd O.FAULT_DOMAINS) n = bitAt (s1.rd O.FAULT_DOMAINS) n))) ∧
  (∀ (s : State) (t : Tick) (r : Req) (v : Nat), v < 2 ^ 8 → s.appliesAt t r O.SLEEP_REQ 1 v →
    (s.tickTo t).pwr.sleepAt = none → (s.tickTo t).pwr.hold = none → (s.tickTo t).pwr.s5 = none →
    Completes (.slowCopyApply t) s (fun u =>
      let s1 := s.tickTo t
      (v = 0 → u.pwr = s1.pwr ∧ ∀ n, n < 16 → u.domain n = s1.domain n) ∧
      (v ≠ 0 → s1.rd O.RUNNING_SECTION ≠ 5 → u.pwr = s1.pwr ∧ (∀ n, n < 16 → u.domain n = s1.domain n) ∧
        bits (u.rd O.REFUSALS) (128 + 64) 16 = 0x0E + 256 * 3) ∧
      (v ≠ 0 → s1.rd O.RUNNING_SECTION = 5 → u.pwr.sleepAt = some s1.now ∧ ∀ n, 1 ≤ n → n < 16 → u.domain n = 3 ∨ u.domain n = 6)))

/-- DOMAIN_IDLE_TIMER, DOMAIN_IDLE_WAKE, DOMAIN_DOZE_TIMER, DOMAIN_SWITCH_OPEN, WAKE_STEP_READY, WAKE_STEP_TIMEOUT, WAKE_RETRY and PMIC_PG_LOST. A domain whose idle condition the block's own state cannot show is left to the sender (notes/assumptions/36.md). -/
def Obligations.DomainsMoveByTheirTable : Prop :=
  (∀ (s : State) (t : Tick) (n : Fin 16), Completes (.domainIdleTimer t n) s (fun u =>
    let s1 := s.tickTo t
    let due : Prop := s1.domain n.val = 0 ∧ n.val ∉ [0, 1, 8] ∧ (s1.idleUs n.val ≠ 0 ∨ look s1.pwr.pendingReq n.val = some 1) ∧
      s1.domainBusy n.val = false ∧ s1.laySoon n.val = false
    (¬ due → u = s1) ∧
    (due → u.domain n.val = 1 ∧ look u.pwr.idleAt n.val = some s1.now ∧ OnlyParts [.objs, .pwr] s1 u ∧
      SameObjects s1 u [O.DOMAIN_STATE, O.REQ_RESULT] ∧ ∀ m, m < 16 → m ≠ n.val → u.domain m = s1.domain m))) ∧
  (∀ (s : State) (t : Tick) (n : Fin 16), Completes (.domainIdleWake t n) s (fun u =>
    let s1 := s.tickTo t
    (s1.domain n.val ≠ 1 → u = s1) ∧
    (s1.domain n.val = 1 → u.domain n.val = 0 ∧ look u.pwr.idleAt n.val = none ∧ OnlyParts [.objs, .pwr] s1 u ∧
      SameObjects s1 u [O.DOMAIN_STATE, O.WAKES] ∧
      bits (u.rd O.WAKES) (32 * n.val) 32 = (bits (s1.rd O.WAKES) (32 * n.val) 32 + 1) % 2 ^ 32))) ∧
  (∀ (s : State) (t : Tick) (n : Fin 16) (a : Nat), look (s.tickTo t).pwr.idleAt n.val = some a →
    Completes (.domainDozeTimer t n) s (fun u =>
      let s1 := s.tickTo t
      let due : Prop := s1.domain n.val = 1 ∧ s1.dozeMs n.val ≠ 0 ∧ a + s1.dozeMs n.val * 200000 ≤ s1.now
      (¬ due → u = s1) ∧
      (∀ c, due → s1.offRefused n.val = some c → u.domain n.val = 1 ∧ bits (u.rd O.REFUSALS) (128 * n.val + 64) 16 = c + 256 * 2 ∧
        bits (u.rd O.REFUSALS) (128 * n.val) 32 = (bits (s1.rd O.REFUSALS) (128 * n.val) 32 + 1) % 2 ^ 32 ∧ look u.pwr.idleAt n.val = none) ∧
      (due → s1.offRefused n.val = none → u.domain n.val = 5 ∧ look u.pwr.entering n.val = some { target := 2, origin := 1 }))) ∧
  (∀ (s : State) (t : Tick) (n : Fin 16), Completes (.domainSwitchOpen t n) s (fun u =>
    let s1 := s.tickTo t
    (look s1.pwr.entering n.val = none → u = s1) ∧
    (∀ e, look s1.pwr.entering n.val = some e → e.target = 2 ∨ e.target = 3 → look s1.pwr.pendingReq n.val = none → s1.pwr.queue = [] →
      u.domain n.val = e.target ∧ u.oct O.REQ_RESULT n.val = 0 ∧ look u.pwr.entering n.val = none))) ∧
  (∀ (s : State) (t : Tick) (n : Fin 16) (sub : Option (Fin 16)) (w : Wake), look (s.tickTo t).pwr.wakes (unitKey n.val sub) = some w →
    (s.tickTo t).pwr.relock = false →
    Completes (.wakeStepReady t n sub) s (fun u =>
      let s1 := s.tickTo t
      let k := unitKey n.val sub
      (w.waiting = true → u = s1) ∧
      (∀ x, w.waiting = false → (wakeSteps (unitDomain k)).find? (fun x => decide (w.step < x)) = some x →
        look u.pwr.wakes k = some { w with step := x, attempt := 1, at_ := s1.now } ∧ OnlyParts [.pwr] s1 u) ∧
      (w.waiting = false → (wakeSteps (unitDomain k)).find? (fun x => decide (w.step < x)) = none →
        look s1.pwr.pendingReq k = none → s1.pwr.queue = [] → u.unitState k = 0 ∧ look u.pwr.wakes k = none))) ∧
  (∀ (s : State) (t : Tick) (n : Fin 16) (sub : Option (Fin 16)), Completes (.wakeStepTimeout t n sub) s (fun u =>
    let s1 := s.tickTo t
    let k := unitKey n.val sub
    (look s1.pwr.wakes k = none → u = s1) ∧
    (∀ w, look s1.pwr.wakes k = some w →
      (w.waiting = true ∨ s1.now < w.at_ + stepTk w.step → u = s1) ∧
      (w.waiting = false → w.at_ + stepTk w.step ≤ s1.now → w.attempt < 3 →
        look u.pwr.wakes k = some { w with waiting := true, at_ := s1.now } ∧ OnlyParts [.pwr] s1 u) ∧
      (w.waiting = false → w.at_ + stepTk w.step ≤ s1.now → 3 ≤ w.attempt → w.step < 256 →
        u.unitState k = 6 ∧ bitAt (u.rd O.FAULT_DOMAINS) (unitDomain k) = true ∧ octet (u.rd O.FAULT_RECORD) 0 = unitDomain k ∧
        octet (u.rd O.FAULT_RECORD) 2 = w.step ∧ octet (u.rd O.FAULT_RECORD) 3 = 0 ∧ octet (u.rd O.FAULT_RECORD) 4 = 3)))) ∧
  (∀ (s : State) (t : Tick) (n : Fin 16) (sub : Option (Fin 16)), Completes (.wakeRetry t n sub) s (fun u =>
    let s1 := s.tickTo t
    let k := unitKey n.val sub
    (look s1.pwr.wakes k = none → u = s1) ∧
    (∀ w, look s1.pwr.wakes k = some w →
      (w.waiting = false ∨ s1.now < w.at_ + 20000 → u = s1) ∧
      (w.waiting = true → w.at_ + 20000 ≤ s1.now →
        look u.pwr.wakes k = some { w with waiting := false, attempt := w.attempt + 1, at_ := s1.now } ∧ OnlyParts [.pwr] s1 u)))) ∧
  (∀ (s : State) (t : Tick) (n : Fin 16), Completes (.pmicPgLost t n) s (fun u =>
    let s1 := s.tickTo t
    let spared : Prop := n.val = 0 ∨ s1.domain n.val = 3 ∨ s1.domain n.val = 6 ∨ ∃ w, look s1.pwr.wakes n.val = some w ∧ w.step = 1
    (spared → u = s1) ∧
    (¬ spared → u.domain n.val = 6 ∧ bitAt (u.rd O.FAULT_DOMAINS) n.val = true ∧ octet (u.rd O.FAULT_RECORD) 0 = n.val ∧
      octet (u.rd O.FAULT_RECORD) 3 = 1)))

/-- SLEEP_WAKE, SLEEP_WAKE_TIMER, ROOT_PLL_UNLOCK, XTAL_START_FAIL, SUPPLY_EVAL, DYING_GASP, S5_JOURNAL_WRITTEN, S5_POWER_OFF, RESTART_HOLD_END and PMBUS_READ. -/
def Obligations.SupplyAndSleepFollowTheInput : Prop :=
  (∀ (s : State) (t : Tick) (src : Fin 4), Completes (.sleepWake t src) s (fun u =>
    let s1 := s.tickTo t
    let due : Prop := src.val ≠ 2 ∧ s1.flag O.WAKE_MASK src.val = true ∧ (src.val = 3 → s1.pwr.shallower = true) ∧
      s1.pwr.sleepAt.isSome = true ∧ s1.domain 1 = 3
    (¬ due → u = s1) ∧ (due → u.pwr.sleepAt = none ∧ u.pwr.boot = true))) ∧
  (∀ (s : State) (t : Tick) (a : Nat), (s.tickTo t).pwr.sleepAt = some a → Completes (.sleepWakeTimer t) s (fun u =>
    let s1 := s.tickTo t
    let due : Prop := s1.flag O.WAKE_MASK 2 = true ∧ s1.rd O.WAKE_AFTER_S ≠ 0 ∧ a + s1.rd O.WAKE_AFTER_S * 200000000 ≤ s1.now ∧
      s1.domain 1 = 3
    (¬ due → u = s1) ∧ (due → u.pwr.sleepAt = none ∧ u.pwr.boot = true))) ∧
  (∀ (s : State) (t : Tick), Completes (.rootPllUnlock t) s (fun u =>
    let s1 := s.tickTo t
    (1 < s1.domain 1 → u = s1) ∧
    (s1.domain 1 ≤ 1 → Counted s1 u O.ROOT_UNLOCKS ∧ u.pwr.relock = true ∧ u.pwr.boot = false ∧
      ∀ n, 2 ≤ n → n < 16 → u.domain n = 3 ∨ u.domain n = 6))) ∧
  (∀ (s : State) (t : Tick), Completes (.xtalStartFail t) s (fun u =>
    let s1 := s.tickTo t
    (s1.pins.starting = none → u = s1) ∧
    (∀ a, s1.pins.starting = some a → (s1.now < a + 3040000 → u = s1) ∧
      (a + 3040000 ≤ s1.now → u.rd O.XTAL_OK = 0 ∧ u.pwr.xtalFail = true ∧ bitAt (u.rd O.POWER_FAULT) 2 = true ∧
        OnlyParts [.objs, .pwr, .pins] s1 u ∧ SameObjects s1 u [O.XTAL_OK, O.POWER_FAULT])))) ∧
  (∀ (s : State) (t : Tick) (code : Fin 4096), Completes (.supplyEval t code) s (fun u =>
    let s1 := s.tickTo t
    let s2 := s1.onPwr (fun p => { p with samples := (code.val :: p.samples).take 64 })
    let v := s2.inputMv
    let deep := max (s2.deepest v) (s1.rd O.STAGE_FORCE)
    (s1.pins.powered = false ∨ s1.now % slowTk ≠ 0 → u = s1) ∧
    (s1.pins.powered = true → s1.now % slowTk = 0 →
      u.rd O.VIN_MV = v ∧ u.rd O.VIN_MIN_MV = min v (s1.rd O.VIN_MIN_MV) ∧
      (s1.stage < deep → u.stage = deep) ∧ (s1.stage = deep → u.stage = deep) ∧ s1.stage ≤ u.stage + 1))) ∧
  (∀ (s : State) (t : Tick), Completes (.dyingGasp t) s (fun u =>
    let s1 := s.tickTo t
    (s1.pwr.s5 = none → u = s1) ∧
    (∀ x, s1.pwr.s5 = some x →
      (x.due ≤ x.sent ∨ (s1.port 0).tx.isSome = true ∨ (0 < x.sent ∧ s1.now < x.lastAt + 200000) → u = s1) ∧
      (x.sent < x.due → (s1.port 0).tx = none → x.sent = 0 ∨ x.lastAt + 200000 ≤ s1.now →
        (∃ y, u.pwr.s5 = some y ∧ y.sent = x.sent + 1 ∧ y.lastAt = s1.now) ∧
        (s1.isUp 0 = true → Counted s1 u O.GASPS_SENT ∧ u.out.length = 1) ∧ (s1.isUp 0 = false → Counted s1 u O.GASPS_NOT_SENT ∧ u.out = [])))) ) ∧
  (∀ (s : State) (t : Tick), Completes (.s5JournalWritten t) s (fun u =>
    let s1 := s.tickTo t
    ((∀ x, s1.pwr.s5 = some x → x.journal = false) → u = s1) ∧
    (∀ x, s1.pwr.s5 = some x → x.journal = true →
      u.pwr.s5 = some { x with journal := false } ∧ bitAt (u.rd O.STAGE_EVENTS) 2 = true ∧ OnlyParts [.objs, .pwr] s1 u ∧
      SameObjects s1 u [O.STAGE_EVENTS] ∧
      (s1.pwr.flash = [] → u.pwr.flash = [(s1.rd O.JOURNAL_BASE, 1, s1.journalRecord x 1)])))) ∧
  (∀ (s : State) (t : Tick), Completes (.s5PowerOff t) s (fun u =>
    let s1 := s.tickTo t
    (s1.pwr.s5 = none → u = s1) ∧
    (∀ x, s1.pwr.s5 = some x →
      (s1.now < x.at_ + 2000000 → x.journal = true ∨ x.sent < x.due → u = s1) ∧
      (x.at_ + 2000000 ≤ s1.now ∨ (x.journal = false ∧ x.due ≤ x.sent) →
        u.pwr.s5 = none ∧ u.pwr.hold = some { afterS5 := true, since := none } ∧ Counted s1 u O.GASPS_NOT_SENT (x.due - x.sent) ∧
        ∀ n, n ∈ [11, 8, 1] → u.domain n = 3 ∨ u.domain n = 6)))) ∧
  (∀ (s : State) (t : Tick), Completes (.restartHoldEnd t) s (fun u =>
    let s1 := s.tickTo t
    (s1.holdOver = false → u = s1) ∧
    (∀ h, s1.pwr.hold = some h → s1.holdOver = true → u.pwr.hold = none ∧ (s1.pins.testEn = false → u.pwr.boot = true) ∧
      (h.afterS5 = false → u.stage = max (s1.deepest (s1.rd O.VIN_MV)) (s1.rd O.STAGE_FORCE)) ∧
      (h.afterS5 = true → Counted s1 u O.SUP_RESTARTS ∧ bitAt (u.rd O.RESET_CAUSE) 3 = true)))) ∧
  (∀ (s : State) (t : Tick) (vin : Option (Fin 65536)), Completes (.pmbusRead t vin) s (fun u =>
    let s1 := s.tickTo t
    (s1.alive = false ∨ s1.flag O.PMBUS_ENABLE = false → u = s1) ∧
    (s1.alive = true → s1.flag O.PMBUS_ENABLE = true → (∀ w, vin = some w → u.pwr.pmbus = some (linear11 w.val, s1.now) ∧ u.pwr.pmbusFails = 0 ∧
        u.objs = s1.objs) ∧
      (vin = none → Counted s1 u O.PMBUS_ERRORS ∧ u.pwr.pmbus = s1.pwr.pmbus ∧ u.pwr.pmbusFails = s1.pwr.pmbusFails + 1))))

/-- POWER_ON, RESET_N_ASSERT, RESET_N_RELEASE, VDD_AON_REMOVED and MGMT_PHY_POLL. -/
def Obligations.PowerOnAndResetStartAnew : Prop :=
  (∀ (s : State) (t : Tick) (xtal qspi testEn : Bool), Completes (.powerOn t xtal qspi testEn) s (fun u =>
    let s1 := s.tickTo t
    (∀ n, 1 ≤ n → n < 16 → u.domain n = 3) ∧ u.pins.powered = true ∧ u.pins.xtal = xtal ∧ u.pins.qspi = qspi ∧ u.pins.testEn = testEn ∧
    u.pwr.sleepAt = none ∧ u.pwr.s5 = none ∧ u.pwr.hold = some { afterS5 := false, since := none } ∧ bitAt (u.rd O.RESET_CAUSE) 0 = true ∧
    u.pwr.flash = s1.pwr.flash ∧ u.resetAt = s1.now ∧ u.jot.svc.holder = none)) ∧
  (∀ (s : State) (t : Tick) (ns : Nat), Completes (.resetNAssert t ns) s (fun u =>
    let s1 := s.tickTo t
    (s1.pins.powered = false ∨ s1.pins.low.isSome = true ∨ ns < 100 → u = s1) ∧
    (s1.pins.powered = true → s1.pins.low = none →
      (1000 ≤ ns → u.pins.low = some s1.now ∧ u.pwr.hold = some { afterS5 := false, since := none } ∧
        ∀ n, 1 ≤ n → n < 16 → u.domain n = 3 ∨ u.domain n = 6) ∧
      (100 ≤ ns → ns < 1000 → u = { s1 with freeCtr := s1.freeCtr + 1 } ∨
        (bitAt (u.rd O.RESET_CAUSE) 1 = true ∧ ∀ n, 1 ≤ n → n < 16 → u.domain n = 3))))) ∧
  (∀ (s : State) (t : Tick), Completes (.resetNRelease t) s (fun u =>
    let s1 := s.tickTo t
    (s1.pins.low = none → u = s1) ∧
    (s1.pins.low.isSome = true → u.pins.low = none ∧ u.resetAt = s1.now ∧ bitAt (u.rd O.RESET_CAUSE) 1 = true ∧
      (∀ n, 1 ≤ n → n < 16 → u.domain n = 3) ∧ (∀ k, k ∈ keptObjects → u.rd k = s1.rd k) ∧ u.pwr.flash = s1.pwr.flash ∧
      u.jot.svc.holder = none))) ∧
  (∀ (s : State) (t : Tick), Completes (.vddAonRemoved t) s (fun u =>
    let s1 := s.tickTo t
    u.pins.powered = false ∧ u.otp = s1.otpCut.otp ∧ u.pwr.flash = s1.pwr.flash ∧ u.jot.svc.holder = none ∧
    ∀ n, 1 ≤ n → n < 16 → u.domain n = 3)) ∧
  (∀ (s : State) (t : Tick) (link : Bool), Completes (.mgmtPhyPoll t link) s (fun u =>
    let s1 := s.tickTo t
    (s1.domainUp 1 = false → u = s1) ∧
    (s1.domainUp 1 = true → u.pins.mgmtUp = link ∧ OnlyParts [.pins] s1 u)))

/-- SNAPSHOT, COUNTER_CLEAR, SNAPSHOT_AND_CLEAR, EXPORT_TIMER, TEST_REQUEST, TEST_VERDICT and REINITIALIZATION_COMPLETE. -/
def Obligations.CountersSnapAndTestsEnd : Prop :=
  (∀ (s : State) (t : Tick) (r : Req), s.takes t r O.SNAP_COMMAND 1 1 = true → Completes (.snapshot t r) s (fun u =>
    let s1 := (s.heard t r).countAll (s.tickTo t).now
    u.rd O.HOLD = s1.counters ∧ bits (u.rd O.HOLD_INFO) 0 32 = (s1.ctr.snapSeq + 1) % 2 ^ 32 ∧ bits (u.rd O.HOLD_INFO) 32 32 = 1 ∧
    u.ctr.snapSeq = s1.ctr.snapSeq + 1 ∧ OnlyParts (answers []) s1 u)) ∧
  (∀ (s : State) (t : Tick) (r : Req), s.takes t r O.SNAP_COMMAND 1 2 = true → Completes (.counterClear t r) s (fun u =>
    let s1 := s.heard t r
    u = s1.countersClear.endWrite r false (O.SNAP_COMMAND / 256) (O.SNAP_COMMAND % 256) none ∧ s1.countersClear.counters = 0)) ∧
  (∀ (s : State) (t : Tick) (r : Req), s.takes t r O.SNAP_COMMAND 1 3 = true → Completes (.snapshotAndClear t r) s (fun u =>
    let s1 := s.heard t r
    u = (s1.snapshot 1).countersClear.endWrite r false (O.SNAP_COMMAND / 256) (O.SNAP_COMMAND % 256) none ∧
    u.rd O.HOLD = (s1.countAll s1.now).counters)) ∧
  (∀ (s : State) (t : Tick), Completes (.exportTimer t) s (fun u =>
    let s1 := s.tickTo t
    let p := s1.rd O.EXPORT_PERIOD_MS * 200000
    let due : Prop := p ≠ 0 ∧ s1.ctr.exportAt + p ≤ s1.now ∧ s1.domainUp 8 = true
    (¬ due → u = s1) ∧
    (due → u.ctr.exportAt = s1.ctr.exportAt + p ∧ OnlyParts [.objs, .ctr] s1 u ∧
      (1 ≤ s1.stage → Counted s1 u O.EXPORT_SKIPPED ∧ u.ctr.ring = s1.ctr.ring) ∧
      (s1.stage = 0 → u.ctr.snapSeq = s1.ctr.snapSeq + 1 ∧ bitAt (u.rd O.COUNTER_EVENTS) 2 = true ∧
        (s1.ctr.ring.length < 16 → u.ctr.ring.length = s1.ctr.ring.length + 1))))) ∧
  (∀ (s : State) (t : Tick) (r : Req) (v : Nat), s.takes t r O.TEST_REQUEST 4 v = true → v < 2 ^ 32 →
    Completes (.testRequest t r v) s (fun u =>
      let s1 := s.heard t r
      let why := s1.requestResult r (bits v 0 12) (bits v 16 8)
      u.rdReq r O.REQUEST_RESULT = why ∧ (why ≠ 0 → OnlyParts (answers [.preq]) s1 u ∧ u.ctr.tests = s1.ctr.tests) ∧
      (why = 0 → ∃ x, u.ctr.tests = s1.ctr.tests ++ [x] ∧ x.member = bits v 0 12 ∧ x.test = bits v 16 8 ∧ x.request = true ∧
        x.judged = false))) ∧
  (∀ (s : State) (t : Tick) (member : Nat) (code : Fin 7), Completes (.testVerdict t member code) s (fun u =>
    let s1 := s.tickTo t
    ((∀ x ∈ s1.ctr.tests, x.member = member → x.judged = true) → u = s1) ∧
    (∀ x, s1.ctr.tests.find? (fun x => x.member == member && !x.judged) = some x →
      Counted s1 u (outcomeKey (if code.val = 0 then 0 else 1)) ∧ u.ctr.logCount = s1.ctr.logCount + 1 ∧
      ∀ y ∈ u.ctr.tests, y.member = member → y.judged = true))) ∧
  (∀ (s : State) (t : Tick) (member : Nat), Completes (.reinitializationComplete t member) s (fun u =>
    let s1 := s.tickTo t
    ((∀ x ∈ s1.ctr.reinit, x.member ≠ member) → u = s1) ∧
    ((∃ x ∈ s1.ctr.reinit, x.member = member) → ∀ y ∈ u.ctr.reinit, y.member ≠ member)))

/-- NODE_ID_WRITE, REGION_PROFILE_WRITE, ROOT_ROTATE, LIFECYCLE_PROVISION, LIFECYCLE_DEPLOY, LIFECYCLE_RETIRE, BOOT_KEY_HASH_WRITE and OTP_RECORD_PROGRAMMED, and the SLOW edge. -/
def Obligations.OtpWritesProgramOrAreRefused : Prop :=
  (∀ (s : State) (t : Tick) (r : Req) (v : Nat), (s.writable t r O.NODE_ID 1 v).isSome = true → v < 256 →
    Completes (.nodeIdWrite t r v) s (fun u =>
      let s1 := s.heard t r
      (v = s1.rd O.NODE_ID → Answered s1 u) ∧
      (v ≠ s1.rd O.NODE_ID → OtpOutcome s1 u r O.NODE_ID 1 1 (s1.lifecycle == 4) (s1.otpLeft 1 == 0) .limitExhausted
        (fun j => j.value = v ∧ j.who = some (r, O.NODE_ID, false) ∧ j.then_ = [])))) ∧
  (∀ (s : State) (t : Tick) (r : Req) (len v : Nat),
    (s.stages t r O.REGION_PROFILE len v = true →
      Completes (.regionProfileWrite t r len v) s (fun u => u = (s.heard t r).staged r O.REGION_PROFILE len v)) ∧
    (s.stages t r O.ROOT_ROTATE 1 v = true →
      Completes (.rootRotate t r v) s (fun u => u = (s.heard t r).staged r O.ROOT_ROTATE 1 v)) ∧
    (s.stages t r O.LIFECYCLE 1 2 = true → Completes (.lifecycleProvision t r) s (fun u => u = (s.heard t r).staged r O.LIFECYCLE 1 2)) ∧
    (s.stages t r O.LIFECYCLE 1 3 = true → Completes (.lifecycleDeploy t r) s (fun u => u = (s.heard t r).staged r O.LIFECYCLE 1 3)) ∧
    (s.stages t r O.LIFECYCLE 1 4 = true → Completes (.lifecycleRetire t r) s (fun u => u = (s.heard t r).staged r O.LIFECYCLE 1 4)) ∧
    (s.stages t r O.BOOT_KEY_HASH 32 v = true →
      Completes (.bootKeyHashWrite t r v) s (fun u => u = (s.heard t r).staged r O.BOOT_KEY_HASH 32 v))) ∧
  (∀ (s : State) (t : Tick) (r : Req) (len v : Nat), v < 2 ^ (8 * len) → s.appliesAt t r O.REGION_PROFILE len v →
    Completes (.slowCopyApply t) s (fun u =>
      let s1 := s.tickTo t
      (len ≠ 1556 → WriteRefused s1 u r O.REGION_PROFILE len .lengthMismatch) ∧
      (len = 1556 → regionOk v = false → WriteRefused s1 u r O.REGION_PROFILE len .valueRange) ∧
      (len = 1556 → regionOk v = true → s1.otpNewest 2 = some (regionKept v) → Answered (s1.edgeCopy O.REGION_PROFILE) u) ∧
      (len = 1556 → regionOk v = true → s1.otpNewest 2 ≠ some (regionKept v) →
        OtpOutcome s1 u r O.REGION_PROFILE len 2 (s1.lifecycle == 4) (s1.otpLeft 2 == 0) .limitExhausted (fun j => j.value = regionKept v ∧ j.then_ = [])))) ∧
  (∀ (s : State) (t : Tick) (r : Req) (v : Nat), v < 256 → s.appliesAt t r O.ROOT_ROTATE 1 v →
    Completes (.slowCopyApply t) s (fun u =>
      let s1 := s.tickTo t
      (v = s1.rootGen → Answered (s1.edgeCopy O.ROOT_ROTATE) u) ∧
      (v ≠ s1.rootGen → v ≠ s1.rootGen + 1 ∨ s1.cph.rewrapFrom.isSome = true → RefusedWith s1 u .valueRange) ∧
      (v = s1.rootGen + 1 → s1.cph.rewrapFrom = none →
        OtpOutcome s1 u r O.ROOT_ROTATE 1 3 (s1.lifecycle == 1 || s1.lifecycle == 4) (s1.otpLeft 3 == 0) .limitExhausted (fun j => j.then_ = [])))) ∧
  (∀ (s : State) (t : Tick) (r : Req), s.appliesAt t r O.LIFECYCLE 1 2 → Completes (.slowCopyApply t) s (fun u =>
    let s1 := s.tickTo t
    let fresh := (s1.otpValid 3).isEmpty
    (s1.lifecycle = 2 → Answered (s1.edgeCopy O.LIFECYCLE) u) ∧ (2 < s1.lifecycle → RefusedWith s1 u .valueRange) ∧
    (s1.lifecycle = 1 → OtpOutcome s1 u r O.LIFECYCLE 1 (if fresh then 3 else 4) (s1.otpValid 0).isEmpty (s1.otpLeft 4 == 0) .limitExhausted
      (fun j => j.then_ = (if fresh then [(4, 2)] else []))))) ∧
  (∀ (s : State) (t : Tick) (r : Req), s.appliesAt t r O.LIFECYCLE 1 3 → Completes (.slowCopyApply t) s (fun u =>
    let s1 := s.tickTo t
    (s1.lifecycle = 3 → Answered (s1.edgeCopy O.LIFECYCLE) u) ∧ (s1.lifecycle ≠ 2 → s1.lifecycle ≠ 3 → RefusedWith s1 u .valueRange) ∧
    (s1.lifecycle = 2 → OtpOutcome s1 u r O.LIFECYCLE 1 4 false (s1.otpLeft 4 == 0) .limitExhausted (fun j => j.value = 3 ∧ j.then_ = [])))) ∧
  (∀ (s : State) (t : Tick) (r : Req), s.appliesAt t r O.LIFECYCLE 1 4 → Completes (.slowCopyApply t) s (fun u =>
    let s1 := s.tickTo t
    (s1.lifecycle = 4 → Answered (s1.edgeCopy O.LIFECYCLE) u) ∧
    (s1.lifecycle ≤ 3 → OtpOutcome s1 u r O.LIFECYCLE 1 4 false (s1.otpLeft 4 == 0) .limitExhausted (fun j => j.value = 4 ∧ j.then_ = [])))) ∧
  (∀ (s : State) (t : Tick) (r : Req) (v : Nat), v < 2 ^ 256 → s.appliesAt t r O.BOOT_KEY_HASH 32 v →
    Completes (.slowCopyApply t) s (fun u =>
      let s1 := s.tickTo t
      (v = s1.rd O.BOOT_KEY_HASH → Answered (s1.edgeCopy O.BOOT_KEY_HASH) u) ∧
      (v ≠ s1.rd O.BOOT_KEY_HASH → OtpOutcome s1 u r O.BOOT_KEY_HASH 32 0 (s1.lifecycle != 1) (s1.otpLeft 0 == 0) .writeRo (fun j => j.value = v)))) ∧
  (∀ (s : State) (t : Tick) (good : Bool), Completes (.otpRecordProgrammed t good) s (fun u =>
    let s1 := s.tickTo t
    (s1.otp.job = none → u = s1) ∧
    (∀ j, s1.otp.job = some j →
      (good = true → j.then_ = [] → u.otp.job = none ∧ Counted s1 u O.OTP_PROGRAMS ∧ bitAt (u.rd O.OTP_STATUS) 0 = true ∧
        u.otpRecs j.area = s1.otpRecs j.area ++ [{ value := j.value, valid := true, blank := false, retired := false }]) ∧
      (good = false → bitAt (u.rd O.OTP_STATUS) 1 = true ∧
        u.otpRecs j.area = s1.otpRecs j.area ++ [{ value := j.value, valid := false, blank := false, retired := false }] ∧
        ((s1.otpRecs j.area).length + 1 < otpRoom j.area → ∃ k, u.otp.job = some k ∧ k.value = j.value ∧ k.area = j.area)))))
end

