-- ==== Sys2Proof/Laws/State.lean ====
section
/-!
SUPPORT. What each update of the state does to each field: one lemma a field and update, so that no proof unfolds a record update.
-/
namespace Sys2Proof.Machine

/-! ## onCtr -/

@[simp] theorem State.onCtr_pending (s : State) (f : Ctr → Ctr) : (s.onCtr f).pending = s.pending := rfl
@[simp] theorem State.onCtr_now (s : State) (f : Ctr → Ctr) : (s.onCtr f).now = s.now := rfl
@[simp] theorem State.onCtr_resetAt (s : State) (f : Ctr → Ctr) : (s.onCtr f).resetAt = s.resetAt := rfl
@[simp] theorem State.onCtr_objs (s : State) (f : Ctr → Ctr) : (s.onCtr f).objs = s.objs := rfl
@[simp] theorem State.onCtr_objsEdge (s : State) (f : Ctr → Ctr) : (s.onCtr f).objsEdge = s.objsEdge := rfl
@[simp] theorem State.onCtr_lens (s : State) (f : Ctr → Ctr) : (s.onCtr f).lens = s.lens := rfl
@[simp] theorem State.onCtr_shadow (s : State) (f : Ctr → Ctr) : (s.onCtr f).shadow = s.shadow := rfl
@[simp] theorem State.onCtr_shadowLens (s : State) (f : Ctr → Ctr) : (s.onCtr f).shadowLens = s.shadowLens := rfl
@[simp] theorem State.onCtr_preq (s : State) (f : Ctr → Ctr) : (s.onCtr f).preq = s.preq := rfl
@[simp] theorem State.onCtr_groups (s : State) (f : Ctr → Ctr) : (s.onCtr f).groups = s.groups := rfl
@[simp] theorem State.onCtr_out (s : State) (f : Ctr → Ctr) : (s.onCtr f).out = s.out := rfl
@[simp] theorem State.onCtr_freeCtr (s : State) (f : Ctr → Ctr) : (s.onCtr f).freeCtr = s.freeCtr := rfl
@[simp] theorem State.onCtr_jot (s : State) (f : Ctr → Ctr) : (s.onCtr f).jot = s.jot := rfl
@[simp] theorem State.onCtr_lay (s : State) (f : Ctr → Ctr) : (s.onCtr f).lay = s.lay := rfl
@[simp] theorem State.onCtr_plc (s : State) (f : Ctr → Ctr) : (s.onCtr f).plc = s.plc := rfl
@[simp] theorem State.onCtr_radio (s : State) (f : Ctr → Ctr) : (s.onCtr f).radio = s.radio := rfl
@[simp] theorem State.onCtr_rx (s : State) (f : Ctr → Ctr) : (s.onCtr f).rx = s.rx := rfl
@[simp] theorem State.onCtr_mac (s : State) (f : Ctr → Ctr) : (s.onCtr f).mac = s.mac := rfl
@[simp] theorem State.onCtr_cph (s : State) (f : Ctr → Ctr) : (s.onCtr f).cph = s.cph := rfl
@[simp] theorem State.onCtr_eth (s : State) (f : Ctr → Ctr) : (s.onCtr f).eth = s.eth := rfl
@[simp] theorem State.onCtr_tim (s : State) (f : Ctr → Ctr) : (s.onCtr f).tim = s.tim := rfl
@[simp] theorem State.onCtr_cores (s : State) (f : Ctr → Ctr) : (s.onCtr f).cores = s.cores := rfl
@[simp] theorem State.onCtr_mem (s : State) (f : Ctr → Ctr) : (s.onCtr f).mem = s.mem := rfl
@[simp] theorem State.onCtr_pwr (s : State) (f : Ctr → Ctr) : (s.onCtr f).pwr = s.pwr := rfl
@[simp] theorem State.onCtr_ctr (s : State) (f : Ctr → Ctr) : (s.onCtr f).ctr = f s.ctr := rfl
@[simp] theorem State.onCtr_otp (s : State) (f : Ctr → Ctr) : (s.onCtr f).otp = s.otp := rfl
@[simp] theorem State.onCtr_pins (s : State) (f : Ctr → Ctr) : (s.onCtr f).pins = s.pins := rfl

/-! ## onLay -/

@[simp] theorem State.onLay_pending (s : State) (f : Lay → Lay) : (s.onLay f).pending = s.pending := rfl
@[simp] theorem State.onLay_now (s : State) (f : Lay → Lay) : (s.onLay f).now = s.now := rfl
@[simp] theorem State.onLay_resetAt (s : State) (f : Lay → Lay) : (s.onLay f).resetAt = s.resetAt := rfl
@[simp] theorem State.onLay_objs (s : State) (f : Lay → Lay) : (s.onLay f).objs = s.objs := rfl
@[simp] theorem State.onLay_objsEdge (s : State) (f : Lay → Lay) : (s.onLay f).objsEdge = s.objsEdge := rfl
@[simp] theorem State.onLay_lens (s : State) (f : Lay → Lay) : (s.onLay f).lens = s.lens := rfl
@[simp] theorem State.onLay_shadow (s : State) (f : Lay → Lay) : (s.onLay f).shadow = s.shadow := rfl
@[simp] theorem State.onLay_shadowLens (s : State) (f : Lay → Lay) : (s.onLay f).shadowLens = s.shadowLens := rfl
@[simp] theorem State.onLay_preq (s : State) (f : Lay → Lay) : (s.onLay f).preq = s.preq := rfl
@[simp] theorem State.onLay_groups (s : State) (f : Lay → Lay) : (s.onLay f).groups = s.groups := rfl
@[simp] theorem State.onLay_out (s : State) (f : Lay → Lay) : (s.onLay f).out = s.out := rfl
@[simp] theorem State.onLay_freeCtr (s : State) (f : Lay → Lay) : (s.onLay f).freeCtr = s.freeCtr := rfl
@[simp] theorem State.onLay_jot (s : State) (f : Lay → Lay) : (s.onLay f).jot = s.jot := rfl
@[simp] theorem State.onLay_lay (s : State) (f : Lay → Lay) : (s.onLay f).lay = f s.lay := rfl
@[simp] theorem State.onLay_plc (s : State) (f : Lay → Lay) : (s.onLay f).plc = s.plc := rfl
@[simp] theorem State.onLay_radio (s : State) (f : Lay → Lay) : (s.onLay f).radio = s.radio := rfl
@[simp] theorem State.onLay_rx (s : State) (f : Lay → Lay) : (s.onLay f).rx = s.rx := rfl
@[simp] theorem State.onLay_mac (s : State) (f : Lay → Lay) : (s.onLay f).mac = s.mac := rfl
@[simp] theorem State.onLay_cph (s : State) (f : Lay → Lay) : (s.onLay f).cph = s.cph := rfl
@[simp] theorem State.onLay_eth (s : State) (f : Lay → Lay) : (s.onLay f).eth = s.eth := rfl
@[simp] theorem State.onLay_tim (s : State) (f : Lay → Lay) : (s.onLay f).tim = s.tim := rfl
@[simp] theorem State.onLay_cores (s : State) (f : Lay → Lay) : (s.onLay f).cores = s.cores := rfl
@[simp] theorem State.onLay_mem (s : State) (f : Lay → Lay) : (s.onLay f).mem = s.mem := rfl
@[simp] theorem State.onLay_pwr (s : State) (f : Lay → Lay) : (s.onLay f).pwr = s.pwr := rfl
@[simp] theorem State.onLay_ctr (s : State) (f : Lay → Lay) : (s.onLay f).ctr = s.ctr := rfl
@[simp] theorem State.onLay_otp (s : State) (f : Lay → Lay) : (s.onLay f).otp = s.otp := rfl
@[simp] theorem State.onLay_pins (s : State) (f : Lay → Lay) : (s.onLay f).pins = s.pins := rfl

/-! ## onPlc -/

@[simp] theorem State.onPlc_pending (s : State) (f : Place → Place) : (s.onPlc f).pending = s.pending := rfl
@[simp] theorem State.onPlc_now (s : State) (f : Place → Place) : (s.onPlc f).now = s.now := rfl
@[simp] theorem State.onPlc_resetAt (s : State) (f : Place → Place) : (s.onPlc f).resetAt = s.resetAt := rfl
@[simp] theorem State.onPlc_objs (s : State) (f : Place → Place) : (s.onPlc f).objs = s.objs := rfl
@[simp] theorem State.onPlc_objsEdge (s : State) (f : Place → Place) : (s.onPlc f).objsEdge = s.objsEdge := rfl
@[simp] theorem State.onPlc_lens (s : State) (f : Place → Place) : (s.onPlc f).lens = s.lens := rfl
@[simp] theorem State.onPlc_shadow (s : State) (f : Place → Place) : (s.onPlc f).shadow = s.shadow := rfl
@[simp] theorem State.onPlc_shadowLens (s : State) (f : Place → Place) : (s.onPlc f).shadowLens = s.shadowLens := rfl
@[simp] theorem State.onPlc_preq (s : State) (f : Place → Place) : (s.onPlc f).preq = s.preq := rfl
@[simp] theorem State.onPlc_groups (s : State) (f : Place → Place) : (s.onPlc f).groups = s.groups := rfl
@[simp] theorem State.onPlc_out (s : State) (f : Place → Place) : (s.onPlc f).out = s.out := rfl
@[simp] theorem State.onPlc_freeCtr (s : State) (f : Place → Place) : (s.onPlc f).freeCtr = s.freeCtr := rfl
@[simp] theorem State.onPlc_jot (s : State) (f : Place → Place) : (s.onPlc f).jot = s.jot := rfl
@[simp] theorem State.onPlc_lay (s : State) (f : Place → Place) : (s.onPlc f).lay = s.lay := rfl
@[simp] theorem State.onPlc_plc (s : State) (f : Place → Place) : (s.onPlc f).plc = f s.plc := rfl
@[simp] theorem State.onPlc_radio (s : State) (f : Place → Place) : (s.onPlc f).radio = s.radio := rfl
@[simp] theorem State.onPlc_rx (s : State) (f : Place → Place) : (s.onPlc f).rx = s.rx := rfl
@[simp] theorem State.onPlc_mac (s : State) (f : Place → Place) : (s.onPlc f).mac = s.mac := rfl
@[simp] theorem State.onPlc_cph (s : State) (f : Place → Place) : (s.onPlc f).cph = s.cph := rfl
@[simp] theorem State.onPlc_eth (s : State) (f : Place → Place) : (s.onPlc f).eth = s.eth := rfl
@[simp] theorem State.onPlc_tim (s : State) (f : Place → Place) : (s.onPlc f).tim = s.tim := rfl
@[simp] theorem State.onPlc_cores (s : State) (f : Place → Place) : (s.onPlc f).cores = s.cores := rfl
@[simp] theorem State.onPlc_mem (s : State) (f : Place → Place) : (s.onPlc f).mem = s.mem := rfl
@[simp] theorem State.onPlc_pwr (s : State) (f : Place → Place) : (s.onPlc f).pwr = s.pwr := rfl
@[simp] theorem State.onPlc_ctr (s : State) (f : Place → Place) : (s.onPlc f).ctr = s.ctr := rfl
@[simp] theorem State.onPlc_otp (s : State) (f : Place → Place) : (s.onPlc f).otp = s.otp := rfl
@[simp] theorem State.onPlc_pins (s : State) (f : Place → Place) : (s.onPlc f).pins = s.pins := rfl

/-! ## onPwr -/

@[simp] theorem State.onPwr_pending (s : State) (f : Power → Power) : (s.onPwr f).pending = s.pending := rfl
@[simp] theorem State.onPwr_now (s : State) (f : Power → Power) : (s.onPwr f).now = s.now := rfl
@[simp] theorem State.onPwr_resetAt (s : State) (f : Power → Power) : (s.onPwr f).resetAt = s.resetAt := rfl
@[simp] theorem State.onPwr_objs (s : State) (f : Power → Power) : (s.onPwr f).objs = s.objs := rfl
@[simp] theorem State.onPwr_objsEdge (s : State) (f : Power → Power) : (s.onPwr f).objsEdge = s.objsEdge := rfl
@[simp] theorem State.onPwr_lens (s : State) (f : Power → Power) : (s.onPwr f).lens = s.lens := rfl
@[simp] theorem State.onPwr_shadow (s : State) (f : Power → Power) : (s.onPwr f).shadow = s.shadow := rfl
@[simp] theorem State.onPwr_shadowLens (s : State) (f : Power → Power) : (s.onPwr f).shadowLens = s.shadowLens := rfl
@[simp] theorem State.onPwr_preq (s : State) (f : Power → Power) : (s.onPwr f).preq = s.preq := rfl
@[simp] theorem State.onPwr_groups (s : State) (f : Power → Power) : (s.onPwr f).groups = s.groups := rfl
@[simp] theorem State.onPwr_out (s : State) (f : Power → Power) : (s.onPwr f).out = s.out := rfl
@[simp] theorem State.onPwr_freeCtr (s : State) (f : Power → Power) : (s.onPwr f).freeCtr = s.freeCtr := rfl
@[simp] theorem State.onPwr_jot (s : State) (f : Power → Power) : (s.onPwr f).jot = s.jot := rfl
@[simp] theorem State.onPwr_lay (s : State) (f : Power → Power) : (s.onPwr f).lay = s.lay := rfl
@[simp] theorem State.onPwr_plc (s : State) (f : Power → Power) : (s.onPwr f).plc = s.plc := rfl
@[simp] theorem State.onPwr_radio (s : State) (f : Power → Power) : (s.onPwr f).radio = s.radio := rfl
@[simp] theorem State.onPwr_rx (s : State) (f : Power → Power) : (s.onPwr f).rx = s.rx := rfl
@[simp] theorem State.onPwr_mac (s : State) (f : Power → Power) : (s.onPwr f).mac = s.mac := rfl
@[simp] theorem State.onPwr_cph (s : State) (f : Power → Power) : (s.onPwr f).cph = s.cph := rfl
@[simp] theorem State.onPwr_eth (s : State) (f : Power → Power) : (s.onPwr f).eth = s.eth := rfl
@[simp] theorem State.onPwr_tim (s : State) (f : Power → Power) : (s.onPwr f).tim = s.tim := rfl
@[simp] theorem State.onPwr_cores (s : State) (f : Power → Power) : (s.onPwr f).cores = s.cores := rfl
@[simp] theorem State.onPwr_mem (s : State) (f : Power → Power) : (s.onPwr f).mem = s.mem := rfl
@[simp] theorem State.onPwr_pwr (s : State) (f : Power → Power) : (s.onPwr f).pwr = f s.pwr := rfl
@[simp] theorem State.onPwr_ctr (s : State) (f : Power → Power) : (s.onPwr f).ctr = s.ctr := rfl
@[simp] theorem State.onPwr_otp (s : State) (f : Power → Power) : (s.onPwr f).otp = s.otp := rfl
@[simp] theorem State.onPwr_pins (s : State) (f : Power → Power) : (s.onPwr f).pins = s.pins := rfl

/-! ## onMem -/

@[simp] theorem State.onMem_pending (s : State) (f : Mem → Mem) : (s.onMem f).pending = s.pending := rfl
@[simp] theorem State.onMem_now (s : State) (f : Mem → Mem) : (s.onMem f).now = s.now := rfl
@[simp] theorem State.onMem_resetAt (s : State) (f : Mem → Mem) : (s.onMem f).resetAt = s.resetAt := rfl
@[simp] theorem State.onMem_objs (s : State) (f : Mem → Mem) : (s.onMem f).objs = s.objs := rfl
@[simp] theorem State.onMem_objsEdge (s : State) (f : Mem → Mem) : (s.onMem f).objsEdge = s.objsEdge := rfl
@[simp] theorem State.onMem_lens (s : State) (f : Mem → Mem) : (s.onMem f).lens = s.lens := rfl
@[simp] theorem State.onMem_shadow (s : State) (f : Mem → Mem) : (s.onMem f).shadow = s.shadow := rfl
@[simp] theorem State.onMem_shadowLens (s : State) (f : Mem → Mem) : (s.onMem f).shadowLens = s.shadowLens := rfl
@[simp] theorem State.onMem_preq (s : State) (f : Mem → Mem) : (s.onMem f).preq = s.preq := rfl
@[simp] theorem State.onMem_groups (s : State) (f : Mem → Mem) : (s.onMem f).groups = s.groups := rfl
@[simp] theorem State.onMem_out (s : State) (f : Mem → Mem) : (s.onMem f).out = s.out := rfl
@[simp] theorem State.onMem_freeCtr (s : State) (f : Mem → Mem) : (s.onMem f).freeCtr = s.freeCtr := rfl
@[simp] theorem State.onMem_jot (s : State) (f : Mem → Mem) : (s.onMem f).jot = s.jot := rfl
@[simp] theorem State.onMem_lay (s : State) (f : Mem → Mem) : (s.onMem f).lay = s.lay := rfl
@[simp] theorem State.onMem_plc (s : State) (f : Mem → Mem) : (s.onMem f).plc = s.plc := rfl
@[simp] theorem State.onMem_radio (s : State) (f : Mem → Mem) : (s.onMem f).radio = s.radio := rfl
@[simp] theorem State.onMem_rx (s : State) (f : Mem → Mem) : (s.onMem f).rx = s.rx := rfl
@[simp] theorem State.onMem_mac (s : State) (f : Mem → Mem) : (s.onMem f).mac = s.mac := rfl
@[simp] theorem State.onMem_cph (s : State) (f : Mem → Mem) : (s.onMem f).cph = s.cph := rfl
@[simp] theorem State.onMem_eth (s : State) (f : Mem → Mem) : (s.onMem f).eth = s.eth := rfl
@[simp] theorem State.onMem_tim (s : State) (f : Mem → Mem) : (s.onMem f).tim = s.tim := rfl
@[simp] theorem State.onMem_cores (s : State) (f : Mem → Mem) : (s.onMem f).cores = s.cores := rfl
@[simp] theorem State.onMem_mem (s : State) (f : Mem → Mem) : (s.onMem f).mem = f s.mem := rfl
@[simp] theorem State.onMem_pwr (s : State) (f : Mem → Mem) : (s.onMem f).pwr = s.pwr := rfl
@[simp] theorem State.onMem_ctr (s : State) (f : Mem → Mem) : (s.onMem f).ctr = s.ctr := rfl
@[simp] theorem State.onMem_otp (s : State) (f : Mem → Mem) : (s.onMem f).otp = s.otp := rfl
@[simp] theorem State.onMem_pins (s : State) (f : Mem → Mem) : (s.onMem f).pins = s.pins := rfl

/-! ## onCores -/

@[simp] theorem State.onCores_pending (s : State) (f : Cores → Cores) : (s.onCores f).pending = s.pending := rfl
@[simp] theorem State.onCores_now (s : State) (f : Cores → Cores) : (s.onCores f).now = s.now := rfl
@[simp] theorem State.onCores_resetAt (s : State) (f : Cores → Cores) : (s.onCores f).resetAt = s.resetAt := rfl
@[simp] theorem State.onCores_objs (s : State) (f : Cores → Cores) : (s.onCores f).objs = s.objs := rfl
@[simp] theorem State.onCores_objsEdge (s : State) (f : Cores → Cores) : (s.onCores f).objsEdge = s.objsEdge := rfl
@[simp] theorem State.onCores_lens (s : State) (f : Cores → Cores) : (s.onCores f).lens = s.lens := rfl
@[simp] theorem State.onCores_shadow (s : State) (f : Cores → Cores) : (s.onCores f).shadow = s.shadow := rfl
@[simp] theorem State.onCores_shadowLens (s : State) (f : Cores → Cores) : (s.onCores f).shadowLens = s.shadowLens := rfl
@[simp] theorem State.onCores_preq (s : State) (f : Cores → Cores) : (s.onCores f).preq = s.preq := rfl
@[simp] theorem State.onCores_groups (s : State) (f : Cores → Cores) : (s.onCores f).groups = s.groups := rfl
@[simp] theorem State.onCores_out (s : State) (f : Cores → Cores) : (s.onCores f).out = s.out := rfl
@[simp] theorem State.onCores_freeCtr (s : State) (f : Cores → Cores) : (s.onCores f).freeCtr = s.freeCtr := rfl
@[simp] theorem State.onCores_jot (s : State) (f : Cores → Cores) : (s.onCores f).jot = s.jot := rfl
@[simp] theorem State.onCores_lay (s : State) (f : Cores → Cores) : (s.onCores f).lay = s.lay := rfl
@[simp] theorem State.onCores_plc (s : State) (f : Cores → Cores) : (s.onCores f).plc = s.plc := rfl
@[simp] theorem State.onCores_radio (s : State) (f : Cores → Cores) : (s.onCores f).radio = s.radio := rfl
@[simp] theorem State.onCores_rx (s : State) (f : Cores → Cores) : (s.onCores f).rx = s.rx := rfl
@[simp] theorem State.onCores_mac (s : State) (f : Cores → Cores) : (s.onCores f).mac = s.mac := rfl
@[simp] theorem State.onCores_cph (s : State) (f : Cores → Cores) : (s.onCores f).cph = s.cph := rfl
@[simp] theorem State.onCores_eth (s : State) (f : Cores → Cores) : (s.onCores f).eth = s.eth := rfl
@[simp] theorem State.onCores_tim (s : State) (f : Cores → Cores) : (s.onCores f).tim = s.tim := rfl
@[simp] theorem State.onCores_cores (s : State) (f : Cores → Cores) : (s.onCores f).cores = f s.cores := rfl
@[simp] theorem State.onCores_mem (s : State) (f : Cores → Cores) : (s.onCores f).mem = s.mem := rfl
@[simp] theorem State.onCores_pwr (s : State) (f : Cores → Cores) : (s.onCores f).pwr = s.pwr := rfl
@[simp] theorem State.onCores_ctr (s : State) (f : Cores → Cores) : (s.onCores f).ctr = s.ctr := rfl
@[simp] theorem State.onCores_otp (s : State) (f : Cores → Cores) : (s.onCores f).otp = s.otp := rfl
@[simp] theorem State.onCores_pins (s : State) (f : Cores → Cores) : (s.onCores f).pins = s.pins := rfl

/-! ## onJot -/

@[simp] theorem State.onJot_pending (s : State) (f : Jot → Jot) : (s.onJot f).pending = s.pending := rfl
@[simp] theorem State.onJot_now (s : State) (f : Jot → Jot) : (s.onJot f).now = s.now := rfl
@[simp] theorem State.onJot_resetAt (s : State) (f : Jot → Jot) : (s.onJot f).resetAt = s.resetAt := rfl
@[simp] theorem State.onJot_objs (s : State) (f : Jot → Jot) : (s.onJot f).objs = s.objs := rfl
@[simp] theorem State.onJot_objsEdge (s : State) (f : Jot → Jot) : (s.onJot f).objsEdge = s.objsEdge := rfl
@[simp] theorem State.onJot_lens (s : State) (f : Jot → Jot) : (s.onJot f).lens = s.lens := rfl
@[simp] theorem State.onJot_shadow (s : State) (f : Jot → Jot) : (s.onJot f).shadow = s.shadow := rfl
@[simp] theorem State.onJot_shadowLens (s : State) (f : Jot → Jot) : (s.onJot f).shadowLens = s.shadowLens := rfl
@[simp] theorem State.onJot_preq (s : State) (f : Jot → Jot) : (s.onJot f).preq = s.preq := rfl
@[simp] theorem State.onJot_groups (s : State) (f : Jot → Jot) : (s.onJot f).groups = s.groups := rfl
@[simp] theorem State.onJot_out (s : State) (f : Jot → Jot) : (s.onJot f).out = s.out := rfl
@[simp] theorem State.onJot_freeCtr (s : State) (f : Jot → Jot) : (s.onJot f).freeCtr = s.freeCtr := rfl
@[simp] theorem State.onJot_jot (s : State) (f : Jot → Jot) : (s.onJot f).jot = f s.jot := rfl
@[simp] theorem State.onJot_lay (s : State) (f : Jot → Jot) : (s.onJot f).lay = s.lay := rfl
@[simp] theorem State.onJot_plc (s : State) (f : Jot → Jot) : (s.onJot f).plc = s.plc := rfl
@[simp] theorem State.onJot_radio (s : State) (f : Jot → Jot) : (s.onJot f).radio = s.radio := rfl
@[simp] theorem State.onJot_rx (s : State) (f : Jot → Jot) : (s.onJot f).rx = s.rx := rfl
@[simp] theorem State.onJot_mac (s : State) (f : Jot → Jot) : (s.onJot f).mac = s.mac := rfl
@[simp] theorem State.onJot_cph (s : State) (f : Jot → Jot) : (s.onJot f).cph = s.cph := rfl
@[simp] theorem State.onJot_eth (s : State) (f : Jot → Jot) : (s.onJot f).eth = s.eth := rfl
@[simp] theorem State.onJot_tim (s : State) (f : Jot → Jot) : (s.onJot f).tim = s.tim := rfl
@[simp] theorem State.onJot_cores (s : State) (f : Jot → Jot) : (s.onJot f).cores = s.cores := rfl
@[simp] theorem State.onJot_mem (s : State) (f : Jot → Jot) : (s.onJot f).mem = s.mem := rfl
@[simp] theorem State.onJot_pwr (s : State) (f : Jot → Jot) : (s.onJot f).pwr = s.pwr := rfl
@[simp] theorem State.onJot_ctr (s : State) (f : Jot → Jot) : (s.onJot f).ctr = s.ctr := rfl
@[simp] theorem State.onJot_otp (s : State) (f : Jot → Jot) : (s.onJot f).otp = s.otp := rfl
@[simp] theorem State.onJot_pins (s : State) (f : Jot → Jot) : (s.onJot f).pins = s.pins := rfl

/-! ## onCph -/

@[simp] theorem State.onCph_pending (s : State) (f : Cph → Cph) : (s.onCph f).pending = s.pending := rfl
@[simp] theorem State.onCph_now (s : State) (f : Cph → Cph) : (s.onCph f).now = s.now := rfl
@[simp] theorem State.onCph_resetAt (s : State) (f : Cph → Cph) : (s.onCph f).resetAt = s.resetAt := rfl
@[simp] theorem State.onCph_objs (s : State) (f : Cph → Cph) : (s.onCph f).objs = s.objs := rfl
@[simp] theorem State.onCph_objsEdge (s : State) (f : Cph → Cph) : (s.onCph f).objsEdge = s.objsEdge := rfl
@[simp] theorem State.onCph_lens (s : State) (f : Cph → Cph) : (s.onCph f).lens = s.lens := rfl
@[simp] theorem State.onCph_shadow (s : State) (f : Cph → Cph) : (s.onCph f).shadow = s.shadow := rfl
@[simp] theorem State.onCph_shadowLens (s : State) (f : Cph → Cph) : (s.onCph f).shadowLens = s.shadowLens := rfl
@[simp] theorem State.onCph_preq (s : State) (f : Cph → Cph) : (s.onCph f).preq = s.preq := rfl
@[simp] theorem State.onCph_groups (s : State) (f : Cph → Cph) : (s.onCph f).groups = s.groups := rfl
@[simp] theorem State.onCph_out (s : State) (f : Cph → Cph) : (s.onCph f).out = s.out := rfl
@[simp] theorem State.onCph_freeCtr (s : State) (f : Cph → Cph) : (s.onCph f).freeCtr = s.freeCtr := rfl
@[simp] theorem State.onCph_jot (s : State) (f : Cph → Cph) : (s.onCph f).jot = s.jot := rfl
@[simp] theorem State.onCph_lay (s : State) (f : Cph → Cph) : (s.onCph f).lay = s.lay := rfl
@[simp] theorem State.onCph_plc (s : State) (f : Cph → Cph) : (s.onCph f).plc = s.plc := rfl
@[simp] theorem State.onCph_radio (s : State) (f : Cph → Cph) : (s.onCph f).radio = s.radio := rfl
@[simp] theorem State.onCph_rx (s : State) (f : Cph → Cph) : (s.onCph f).rx = s.rx := rfl
@[simp] theorem State.onCph_mac (s : State) (f : Cph → Cph) : (s.onCph f).mac = s.mac := rfl
@[simp] theorem State.onCph_cph (s : State) (f : Cph → Cph) : (s.onCph f).cph = f s.cph := rfl
@[simp] theorem State.onCph_eth (s : State) (f : Cph → Cph) : (s.onCph f).eth = s.eth := rfl
@[simp] theorem State.onCph_tim (s : State) (f : Cph → Cph) : (s.onCph f).tim = s.tim := rfl
@[simp] theorem State.onCph_cores (s : State) (f : Cph → Cph) : (s.onCph f).cores = s.cores := rfl
@[simp] theorem State.onCph_mem (s : State) (f : Cph → Cph) : (s.onCph f).mem = s.mem := rfl
@[simp] theorem State.onCph_pwr (s : State) (f : Cph → Cph) : (s.onCph f).pwr = s.pwr := rfl
@[simp] theorem State.onCph_ctr (s : State) (f : Cph → Cph) : (s.onCph f).ctr = s.ctr := rfl
@[simp] theorem State.onCph_otp (s : State) (f : Cph → Cph) : (s.onCph f).otp = s.otp := rfl
@[simp] theorem State.onCph_pins (s : State) (f : Cph → Cph) : (s.onCph f).pins = s.pins := rfl

/-! ## onEth -/

@[simp] theorem State.onEth_pending (s : State) (f : Eth → Eth) : (s.onEth f).pending = s.pending := rfl
@[simp] theorem State.onEth_now (s : State) (f : Eth → Eth) : (s.onEth f).now = s.now := rfl
@[simp] theorem State.onEth_resetAt (s : State) (f : Eth → Eth) : (s.onEth f).resetAt = s.resetAt := rfl
@[simp] theorem State.onEth_objs (s : State) (f : Eth → Eth) : (s.onEth f).objs = s.objs := rfl
@[simp] theorem State.onEth_objsEdge (s : State) (f : Eth → Eth) : (s.onEth f).objsEdge = s.objsEdge := rfl
@[simp] theorem State.onEth_lens (s : State) (f : Eth → Eth) : (s.onEth f).lens = s.lens := rfl
@[simp] theorem State.onEth_shadow (s : State) (f : Eth → Eth) : (s.onEth f).shadow = s.shadow := rfl
@[simp] theorem State.onEth_shadowLens (s : State) (f : Eth → Eth) : (s.onEth f).shadowLens = s.shadowLens := rfl
@[simp] theorem State.onEth_preq (s : State) (f : Eth → Eth) : (s.onEth f).preq = s.preq := rfl
@[simp] theorem State.onEth_groups (s : State) (f : Eth → Eth) : (s.onEth f).groups = s.groups := rfl
@[simp] theorem State.onEth_out (s : State) (f : Eth → Eth) : (s.onEth f).out = s.out := rfl
@[simp] theorem State.onEth_freeCtr (s : State) (f : Eth → Eth) : (s.onEth f).freeCtr = s.freeCtr := rfl
@[simp] theorem State.onEth_jot (s : State) (f : Eth → Eth) : (s.onEth f).jot = s.jot := rfl
@[simp] theorem State.onEth_lay (s : State) (f : Eth → Eth) : (s.onEth f).lay = s.lay := rfl
@[simp] theorem State.onEth_plc (s : State) (f : Eth → Eth) : (s.onEth f).plc = s.plc := rfl
@[simp] theorem State.onEth_radio (s : State) (f : Eth → Eth) : (s.onEth f).radio = s.radio := rfl
@[simp] theorem State.onEth_rx (s : State) (f : Eth → Eth) : (s.onEth f).rx = s.rx := rfl
@[simp] theorem State.onEth_mac (s : State) (f : Eth → Eth) : (s.onEth f).mac = s.mac := rfl
@[simp] theorem State.onEth_cph (s : State) (f : Eth → Eth) : (s.onEth f).cph = s.cph := rfl
@[simp] theorem State.onEth_eth (s : State) (f : Eth → Eth) : (s.onEth f).eth = f s.eth := rfl
@[simp] theorem State.onEth_tim (s : State) (f : Eth → Eth) : (s.onEth f).tim = s.tim := rfl
@[simp] theorem State.onEth_cores (s : State) (f : Eth → Eth) : (s.onEth f).cores = s.cores := rfl
@[simp] theorem State.onEth_mem (s : State) (f : Eth → Eth) : (s.onEth f).mem = s.mem := rfl
@[simp] theorem State.onEth_pwr (s : State) (f : Eth → Eth) : (s.onEth f).pwr = s.pwr := rfl
@[simp] theorem State.onEth_ctr (s : State) (f : Eth → Eth) : (s.onEth f).ctr = s.ctr := rfl
@[simp] theorem State.onEth_otp (s : State) (f : Eth → Eth) : (s.onEth f).otp = s.otp := rfl
@[simp] theorem State.onEth_pins (s : State) (f : Eth → Eth) : (s.onEth f).pins = s.pins := rfl

/-! ## onMac -/

@[simp] theorem State.onMac_pending (s : State) (f : Mac → Mac) : (s.onMac f).pending = s.pending := rfl
@[simp] theorem State.onMac_now (s : State) (f : Mac → Mac) : (s.onMac f).now = s.now := rfl
@[simp] theorem State.onMac_resetAt (s : State) (f : Mac → Mac) : (s.onMac f).resetAt = s.resetAt := rfl
@[simp] theorem State.onMac_objs (s : State) (f : Mac → Mac) : (s.onMac f).objs = s.objs := rfl
@[simp] theorem State.onMac_objsEdge (s : State) (f : Mac → Mac) : (s.onMac f).objsEdge = s.objsEdge := rfl
@[simp] theorem State.onMac_lens (s : State) (f : Mac → Mac) : (s.onMac f).lens = s.lens := rfl
@[simp] theorem State.onMac_shadow (s : State) (f : Mac → Mac) : (s.onMac f).shadow = s.shadow := rfl
@[simp] theorem State.onMac_shadowLens (s : State) (f : Mac → Mac) : (s.onMac f).shadowLens = s.shadowLens := rfl
@[simp] theorem State.onMac_preq (s : State) (f : Mac → Mac) : (s.onMac f).preq = s.preq := rfl
@[simp] theorem State.onMac_groups (s : State) (f : Mac → Mac) : (s.onMac f).groups = s.groups := rfl
@[simp] theorem State.onMac_out (s : State) (f : Mac → Mac) : (s.onMac f).out = s.out := rfl
@[simp] theorem State.onMac_freeCtr (s : State) (f : Mac → Mac) : (s.onMac f).freeCtr = s.freeCtr := rfl
@[simp] theorem State.onMac_jot (s : State) (f : Mac → Mac) : (s.onMac f).jot = s.jot := rfl
@[simp] theorem State.onMac_lay (s : State) (f : Mac → Mac) : (s.onMac f).lay = s.lay := rfl
@[simp] theorem State.onMac_plc (s : State) (f : Mac → Mac) : (s.onMac f).plc = s.plc := rfl
@[simp] theorem State.onMac_radio (s : State) (f : Mac → Mac) : (s.onMac f).radio = s.radio := rfl
@[simp] theorem State.onMac_rx (s : State) (f : Mac → Mac) : (s.onMac f).rx = s.rx := rfl
@[simp] theorem State.onMac_mac (s : State) (f : Mac → Mac) : (s.onMac f).mac = f s.mac := rfl
@[simp] theorem State.onMac_cph (s : State) (f : Mac → Mac) : (s.onMac f).cph = s.cph := rfl
@[simp] theorem State.onMac_eth (s : State) (f : Mac → Mac) : (s.onMac f).eth = s.eth := rfl
@[simp] theorem State.onMac_tim (s : State) (f : Mac → Mac) : (s.onMac f).tim = s.tim := rfl
@[simp] theorem State.onMac_cores (s : State) (f : Mac → Mac) : (s.onMac f).cores = s.cores := rfl
@[simp] theorem State.onMac_mem (s : State) (f : Mac → Mac) : (s.onMac f).mem = s.mem := rfl
@[simp] theorem State.onMac_pwr (s : State) (f : Mac → Mac) : (s.onMac f).pwr = s.pwr := rfl
@[simp] theorem State.onMac_ctr (s : State) (f : Mac → Mac) : (s.onMac f).ctr = s.ctr := rfl
@[simp] theorem State.onMac_otp (s : State) (f : Mac → Mac) : (s.onMac f).otp = s.otp := rfl
@[simp] theorem State.onMac_pins (s : State) (f : Mac → Mac) : (s.onMac f).pins = s.pins := rfl

/-! ## onOtp -/

@[simp] theorem State.onOtp_pending (s : State) (f : Otp → Otp) : (s.onOtp f).pending = s.pending := rfl
@[simp] theorem State.onOtp_now (s : State) (f : Otp → Otp) : (s.onOtp f).now = s.now := rfl
@[simp] theorem State.onOtp_resetAt (s : State) (f : Otp → Otp) : (s.onOtp f).resetAt = s.resetAt := rfl
@[simp] theorem State.onOtp_objs (s : State) (f : Otp → Otp) : (s.onOtp f).objs = s.objs := rfl
@[simp] theorem State.onOtp_objsEdge (s : State) (f : Otp → Otp) : (s.onOtp f).objsEdge = s.objsEdge := rfl
@[simp] theorem State.onOtp_lens (s : State) (f : Otp → Otp) : (s.onOtp f).lens = s.lens := rfl
@[simp] theorem State.onOtp_shadow (s : State) (f : Otp → Otp) : (s.onOtp f).shadow = s.shadow := rfl
@[simp] theorem State.onOtp_shadowLens (s : State) (f : Otp → Otp) : (s.onOtp f).shadowLens = s.shadowLens := rfl
@[simp] theorem State.onOtp_preq (s : State) (f : Otp → Otp) : (s.onOtp f).preq = s.preq := rfl
@[simp] theorem State.onOtp_groups (s : State) (f : Otp → Otp) : (s.onOtp f).groups = s.groups := rfl
@[simp] theorem State.onOtp_out (s : State) (f : Otp → Otp) : (s.onOtp f).out = s.out := rfl
@[simp] theorem State.onOtp_freeCtr (s : State) (f : Otp → Otp) : (s.onOtp f).freeCtr = s.freeCtr := rfl
@[simp] theorem State.onOtp_jot (s : State) (f : Otp → Otp) : (s.onOtp f).jot = s.jot := rfl
@[simp] theorem State.onOtp_lay (s : State) (f : Otp → Otp) : (s.onOtp f).lay = s.lay := rfl
@[simp] theorem State.onOtp_plc (s : State) (f : Otp → Otp) : (s.onOtp f).plc = s.plc := rfl
@[simp] theorem State.onOtp_radio (s : State) (f : Otp → Otp) : (s.onOtp f).radio = s.radio := rfl
@[simp] theorem State.onOtp_rx (s : State) (f : Otp → Otp) : (s.onOtp f).rx = s.rx := rfl
@[simp] theorem State.onOtp_mac (s : State) (f : Otp → Otp) : (s.onOtp f).mac = s.mac := rfl
@[simp] theorem State.onOtp_cph (s : State) (f : Otp → Otp) : (s.onOtp f).cph = s.cph := rfl
@[simp] theorem State.onOtp_eth (s : State) (f : Otp → Otp) : (s.onOtp f).eth = s.eth := rfl
@[simp] theorem State.onOtp_tim (s : State) (f : Otp → Otp) : (s.onOtp f).tim = s.tim := rfl
@[simp] theorem State.onOtp_cores (s : State) (f : Otp → Otp) : (s.onOtp f).cores = s.cores := rfl
@[simp] theorem State.onOtp_mem (s : State) (f : Otp → Otp) : (s.onOtp f).mem = s.mem := rfl
@[simp] theorem State.onOtp_pwr (s : State) (f : Otp → Otp) : (s.onOtp f).pwr = s.pwr := rfl
@[simp] theorem State.onOtp_ctr (s : State) (f : Otp → Otp) : (s.onOtp f).ctr = s.ctr := rfl
@[simp] theorem State.onOtp_otp (s : State) (f : Otp → Otp) : (s.onOtp f).otp = f s.otp := rfl
@[simp] theorem State.onOtp_pins (s : State) (f : Otp → Otp) : (s.onOtp f).pins = s.pins := rfl

/-! ## onRadio -/

@[simp] theorem State.onRadio_pending (s : State) (f : Radio → Radio) : (s.onRadio f).pending = s.pending := rfl
@[simp] theorem State.onRadio_now (s : State) (f : Radio → Radio) : (s.onRadio f).now = s.now := rfl
@[simp] theorem State.onRadio_resetAt (s : State) (f : Radio → Radio) : (s.onRadio f).resetAt = s.resetAt := rfl
@[simp] theorem State.onRadio_objs (s : State) (f : Radio → Radio) : (s.onRadio f).objs = s.objs := rfl
@[simp] theorem State.onRadio_objsEdge (s : State) (f : Radio → Radio) : (s.onRadio f).objsEdge = s.objsEdge := rfl
@[simp] theorem State.onRadio_lens (s : State) (f : Radio → Radio) : (s.onRadio f).lens = s.lens := rfl
@[simp] theorem State.onRadio_shadow (s : State) (f : Radio → Radio) : (s.onRadio f).shadow = s.shadow := rfl
@[simp] theorem State.onRadio_shadowLens (s : State) (f : Radio → Radio) : (s.onRadio f).shadowLens = s.shadowLens := rfl
@[simp] theorem State.onRadio_preq (s : State) (f : Radio → Radio) : (s.onRadio f).preq = s.preq := rfl
@[simp] theorem State.onRadio_groups (s : State) (f : Radio → Radio) : (s.onRadio f).groups = s.groups := rfl
@[simp] theorem State.onRadio_out (s : State) (f : Radio → Radio) : (s.onRadio f).out = s.out := rfl
@[simp] theorem State.onRadio_freeCtr (s : State) (f : Radio → Radio) : (s.onRadio f).freeCtr = s.freeCtr := rfl
@[simp] theorem State.onRadio_jot (s : State) (f : Radio → Radio) : (s.onRadio f).jot = s.jot := rfl
@[simp] theorem State.onRadio_lay (s : State) (f : Radio → Radio) : (s.onRadio f).lay = s.lay := rfl
@[simp] theorem State.onRadio_plc (s : State) (f : Radio → Radio) : (s.onRadio f).plc = s.plc := rfl
@[simp] theorem State.onRadio_radio (s : State) (f : Radio → Radio) : (s.onRadio f).radio = f s.radio := rfl
@[simp] theorem State.onRadio_rx (s : State) (f : Radio → Radio) : (s.onRadio f).rx = s.rx := rfl
@[simp] theorem State.onRadio_mac (s : State) (f : Radio → Radio) : (s.onRadio f).mac = s.mac := rfl
@[simp] theorem State.onRadio_cph (s : State) (f : Radio → Radio) : (s.onRadio f).cph = s.cph := rfl
@[simp] theorem State.onRadio_eth (s : State) (f : Radio → Radio) : (s.onRadio f).eth = s.eth := rfl
@[simp] theorem State.onRadio_tim (s : State) (f : Radio → Radio) : (s.onRadio f).tim = s.tim := rfl
@[simp] theorem State.onRadio_cores (s : State) (f : Radio → Radio) : (s.onRadio f).cores = s.cores := rfl
@[simp] theorem State.onRadio_mem (s : State) (f : Radio → Radio) : (s.onRadio f).mem = s.mem := rfl
@[simp] theorem State.onRadio_pwr (s : State) (f : Radio → Radio) : (s.onRadio f).pwr = s.pwr := rfl
@[simp] theorem State.onRadio_ctr (s : State) (f : Radio → Radio) : (s.onRadio f).ctr = s.ctr := rfl
@[simp] theorem State.onRadio_otp (s : State) (f : Radio → Radio) : (s.onRadio f).otp = s.otp := rfl
@[simp] theorem State.onRadio_pins (s : State) (f : Radio → Radio) : (s.onRadio f).pins = s.pins := rfl

/-! ## onRx -/

@[simp] theorem State.onRx_pending (s : State) (f : Rx → Rx) : (s.onRx f).pending = s.pending := rfl
@[simp] theorem State.onRx_now (s : State) (f : Rx → Rx) : (s.onRx f).now = s.now := rfl
@[simp] theorem State.onRx_resetAt (s : State) (f : Rx → Rx) : (s.onRx f).resetAt = s.resetAt := rfl
@[simp] theorem State.onRx_objs (s : State) (f : Rx → Rx) : (s.onRx f).objs = s.objs := rfl
@[simp] theorem State.onRx_objsEdge (s : State) (f : Rx → Rx) : (s.onRx f).objsEdge = s.objsEdge := rfl
@[simp] theorem State.onRx_lens (s : State) (f : Rx → Rx) : (s.onRx f).lens = s.lens := rfl
@[simp] theorem State.onRx_shadow (s : State) (f : Rx → Rx) : (s.onRx f).shadow = s.shadow := rfl
@[simp] theorem State.onRx_shadowLens (s : State) (f : Rx → Rx) : (s.onRx f).shadowLens = s.shadowLens := rfl
@[simp] theorem State.onRx_preq (s : State) (f : Rx → Rx) : (s.onRx f).preq = s.preq := rfl
@[simp] theorem State.onRx_groups (s : State) (f : Rx → Rx) : (s.onRx f).groups = s.groups := rfl
@[simp] theorem State.onRx_out (s : State) (f : Rx → Rx) : (s.onRx f).out = s.out := rfl
@[simp] theorem State.onRx_freeCtr (s : State) (f : Rx → Rx) : (s.onRx f).freeCtr = s.freeCtr := rfl
@[simp] theorem State.onRx_jot (s : State) (f : Rx → Rx) : (s.onRx f).jot = s.jot := rfl
@[simp] theorem State.onRx_lay (s : State) (f : Rx → Rx) : (s.onRx f).lay = s.lay := rfl
@[simp] theorem State.onRx_plc (s : State) (f : Rx → Rx) : (s.onRx f).plc = s.plc := rfl
@[simp] theorem State.onRx_radio (s : State) (f : Rx → Rx) : (s.onRx f).radio = s.radio := rfl
@[simp] theorem State.onRx_rx (s : State) (f : Rx → Rx) : (s.onRx f).rx = f s.rx := rfl
@[simp] theorem State.onRx_mac (s : State) (f : Rx → Rx) : (s.onRx f).mac = s.mac := rfl
@[simp] theorem State.onRx_cph (s : State) (f : Rx → Rx) : (s.onRx f).cph = s.cph := rfl
@[simp] theorem State.onRx_eth (s : State) (f : Rx → Rx) : (s.onRx f).eth = s.eth := rfl
@[simp] theorem State.onRx_tim (s : State) (f : Rx → Rx) : (s.onRx f).tim = s.tim := rfl
@[simp] theorem State.onRx_cores (s : State) (f : Rx → Rx) : (s.onRx f).cores = s.cores := rfl
@[simp] theorem State.onRx_mem (s : State) (f : Rx → Rx) : (s.onRx f).mem = s.mem := rfl
@[simp] theorem State.onRx_pwr (s : State) (f : Rx → Rx) : (s.onRx f).pwr = s.pwr := rfl
@[simp] theorem State.onRx_ctr (s : State) (f : Rx → Rx) : (s.onRx f).ctr = s.ctr := rfl
@[simp] theorem State.onRx_otp (s : State) (f : Rx → Rx) : (s.onRx f).otp = s.otp := rfl
@[simp] theorem State.onRx_pins (s : State) (f : Rx → Rx) : (s.onRx f).pins = s.pins := rfl

/-! ## onTim -/

@[simp] theorem State.onTim_pending (s : State) (f : Tim → Tim) : (s.onTim f).pending = s.pending := rfl
@[simp] theorem State.onTim_now (s : State) (f : Tim → Tim) : (s.onTim f).now = s.now := rfl
@[simp] theorem State.onTim_resetAt (s : State) (f : Tim → Tim) : (s.onTim f).resetAt = s.resetAt := rfl
@[simp] theorem State.onTim_objs (s : State) (f : Tim → Tim) : (s.onTim f).objs = s.objs := rfl
@[simp] theorem State.onTim_objsEdge (s : State) (f : Tim → Tim) : (s.onTim f).objsEdge = s.objsEdge := rfl
@[simp] theorem State.onTim_lens (s : State) (f : Tim → Tim) : (s.onTim f).lens = s.lens := rfl
@[simp] theorem State.onTim_shadow (s : State) (f : Tim → Tim) : (s.onTim f).shadow = s.shadow := rfl
@[simp] theorem State.onTim_shadowLens (s : State) (f : Tim → Tim) : (s.onTim f).shadowLens = s.shadowLens := rfl
@[simp] theorem State.onTim_preq (s : State) (f : Tim → Tim) : (s.onTim f).preq = s.preq := rfl
@[simp] theorem State.onTim_groups (s : State) (f : Tim → Tim) : (s.onTim f).groups = s.groups := rfl
@[simp] theorem State.onTim_out (s : State) (f : Tim → Tim) : (s.onTim f).out = s.out := rfl
@[simp] theorem State.onTim_freeCtr (s : State) (f : Tim → Tim) : (s.onTim f).freeCtr = s.freeCtr := rfl
@[simp] theorem State.onTim_jot (s : State) (f : Tim → Tim) : (s.onTim f).jot = s.jot := rfl
@[simp] theorem State.onTim_lay (s : State) (f : Tim → Tim) : (s.onTim f).lay = s.lay := rfl
@[simp] theorem State.onTim_plc (s : State) (f : Tim → Tim) : (s.onTim f).plc = s.plc := rfl
@[simp] theorem State.onTim_radio (s : State) (f : Tim → Tim) : (s.onTim f).radio = s.radio := rfl
@[simp] theorem State.onTim_rx (s : State) (f : Tim → Tim) : (s.onTim f).rx = s.rx := rfl
@[simp] theorem State.onTim_mac (s : State) (f : Tim → Tim) : (s.onTim f).mac = s.mac := rfl
@[simp] theorem State.onTim_cph (s : State) (f : Tim → Tim) : (s.onTim f).cph = s.cph := rfl
@[simp] theorem State.onTim_eth (s : State) (f : Tim → Tim) : (s.onTim f).eth = s.eth := rfl
@[simp] theorem State.onTim_tim (s : State) (f : Tim → Tim) : (s.onTim f).tim = f s.tim := rfl
@[simp] theorem State.onTim_cores (s : State) (f : Tim → Tim) : (s.onTim f).cores = s.cores := rfl
@[simp] theorem State.onTim_mem (s : State) (f : Tim → Tim) : (s.onTim f).mem = s.mem := rfl
@[simp] theorem State.onTim_pwr (s : State) (f : Tim → Tim) : (s.onTim f).pwr = s.pwr := rfl
@[simp] theorem State.onTim_ctr (s : State) (f : Tim → Tim) : (s.onTim f).ctr = s.ctr := rfl
@[simp] theorem State.onTim_otp (s : State) (f : Tim → Tim) : (s.onTim f).otp = s.otp := rfl
@[simp] theorem State.onTim_pins (s : State) (f : Tim → Tim) : (s.onTim f).pins = s.pins := rfl

/-! ## wr -/

@[simp] theorem State.wr_pending (s : State) (k v : Nat) : (s.wr k v).pending = s.pending := rfl
@[simp] theorem State.wr_now (s : State) (k v : Nat) : (s.wr k v).now = s.now := rfl
@[simp] theorem State.wr_resetAt (s : State) (k v : Nat) : (s.wr k v).resetAt = s.resetAt := rfl
@[simp] theorem State.wr_objs (s : State) (k v : Nat) : (s.wr k v).objs = put s.objs k v := rfl
@[simp] theorem State.wr_objsEdge (s : State) (k v : Nat) : (s.wr k v).objsEdge = s.objsEdge := rfl
@[simp] theorem State.wr_lens (s : State) (k v : Nat) : (s.wr k v).lens = s.lens := rfl
@[simp] theorem State.wr_shadow (s : State) (k v : Nat) : (s.wr k v).shadow = s.shadow := rfl
@[simp] theorem State.wr_shadowLens (s : State) (k v : Nat) : (s.wr k v).shadowLens = s.shadowLens := rfl
@[simp] theorem State.wr_preq (s : State) (k v : Nat) : (s.wr k v).preq = s.preq := rfl
@[simp] theorem State.wr_groups (s : State) (k v : Nat) : (s.wr k v).groups = s.groups := rfl
@[simp] theorem State.wr_out (s : State) (k v : Nat) : (s.wr k v).out = s.out := rfl
@[simp] theorem State.wr_freeCtr (s : State) (k v : Nat) : (s.wr k v).freeCtr = s.freeCtr := rfl
@[simp] theorem State.wr_jot (s : State) (k v : Nat) : (s.wr k v).jot = s.jot := rfl
@[simp] theorem State.wr_lay (s : State) (k v : Nat) : (s.wr k v).lay = s.lay := rfl
@[simp] theorem State.wr_plc (s : State) (k v : Nat) : (s.wr k v).plc = s.plc := rfl
@[simp] theorem State.wr_radio (s : State) (k v : Nat) : (s.wr k v).radio = s.radio := rfl
@[simp] theorem State.wr_rx (s : State) (k v : Nat) : (s.wr k v).rx = s.rx := rfl
@[simp] theorem State.wr_mac (s : State) (k v : Nat) : (s.wr k v).mac = s.mac := rfl
@[simp] theorem State.wr_cph (s : State) (k v : Nat) : (s.wr k v).cph = s.cph := rfl
@[simp] theorem State.wr_eth (s : State) (k v : Nat) : (s.wr k v).eth = s.eth := rfl
@[simp] theorem State.wr_tim (s : State) (k v : Nat) : (s.wr k v).tim = s.tim := rfl
@[simp] theorem State.wr_cores (s : State) (k v : Nat) : (s.wr k v).cores = s.cores := rfl
@[simp] theorem State.wr_mem (s : State) (k v : Nat) : (s.wr k v).mem = s.mem := rfl
@[simp] theorem State.wr_pwr (s : State) (k v : Nat) : (s.wr k v).pwr = s.pwr := rfl
@[simp] theorem State.wr_ctr (s : State) (k v : Nat) : (s.wr k v).ctr = s.ctr := rfl
@[simp] theorem State.wr_otp (s : State) (k v : Nat) : (s.wr k v).otp = s.otp := rfl
@[simp] theorem State.wr_pins (s : State) (k v : Nat) : (s.wr k v).pins = s.pins := rfl

/-! ## wrLen -/

@[simp] theorem State.wrLen_pending (s : State) (k n v : Nat) : (s.wrLen k n v).pending = s.pending := rfl
@[simp] theorem State.wrLen_now (s : State) (k n v : Nat) : (s.wrLen k n v).now = s.now := rfl
@[simp] theorem State.wrLen_resetAt (s : State) (k n v : Nat) : (s.wrLen k n v).resetAt = s.resetAt := rfl
@[simp] theorem State.wrLen_objs (s : State) (k n v : Nat) : (s.wrLen k n v).objs = put s.objs k v := rfl
@[simp] theorem State.wrLen_objsEdge (s : State) (k n v : Nat) : (s.wrLen k n v).objsEdge = s.objsEdge := rfl
@[simp] theorem State.wrLen_lens (s : State) (k n v : Nat) : (s.wrLen k n v).lens = put s.lens k n := rfl
@[simp] theorem State.wrLen_shadow (s : State) (k n v : Nat) : (s.wrLen k n v).shadow = s.shadow := rfl
@[simp] theorem State.wrLen_shadowLens (s : State) (k n v : Nat) : (s.wrLen k n v).shadowLens = s.shadowLens := rfl
@[simp] theorem State.wrLen_preq (s : State) (k n v : Nat) : (s.wrLen k n v).preq = s.preq := rfl
@[simp] theorem State.wrLen_groups (s : State) (k n v : Nat) : (s.wrLen k n v).groups = s.groups := rfl
@[simp] theorem State.wrLen_out (s : State) (k n v : Nat) : (s.wrLen k n v).out = s.out := rfl
@[simp] theorem State.wrLen_freeCtr (s : State) (k n v : Nat) : (s.wrLen k n v).freeCtr = s.freeCtr := rfl
@[simp] theorem State.wrLen_jot (s : State) (k n v : Nat) : (s.wrLen k n v).jot = s.jot := rfl
@[simp] theorem State.wrLen_lay (s : State) (k n v : Nat) : (s.wrLen k n v).lay = s.lay := rfl
@[simp] theorem State.wrLen_plc (s : State) (k n v : Nat) : (s.wrLen k n v).plc = s.plc := rfl
@[simp] theorem State.wrLen_radio (s : State) (k n v : Nat) : (s.wrLen k n v).radio = s.radio := rfl
@[simp] theorem State.wrLen_rx (s : State) (k n v : Nat) : (s.wrLen k n v).rx = s.rx := rfl
@[simp] theorem State.wrLen_mac (s : State) (k n v : Nat) : (s.wrLen k n v).mac = s.mac := rfl
@[simp] theorem State.wrLen_cph (s : State) (k n v : Nat) : (s.wrLen k n v).cph = s.cph := rfl
@[simp] theorem State.wrLen_eth (s : State) (k n v : Nat) : (s.wrLen k n v).eth = s.eth := rfl
@[simp] theorem State.wrLen_tim (s : State) (k n v : Nat) : (s.wrLen k n v).tim = s.tim := rfl
@[simp] theorem State.wrLen_cores (s : State) (k n v : Nat) : (s.wrLen k n v).cores = s.cores := rfl
@[simp] theorem State.wrLen_mem (s : State) (k n v : Nat) : (s.wrLen k n v).mem = s.mem := rfl
@[simp] theorem State.wrLen_pwr (s : State) (k n v : Nat) : (s.wrLen k n v).pwr = s.pwr := rfl
@[simp] theorem State.wrLen_ctr (s : State) (k n v : Nat) : (s.wrLen k n v).ctr = s.ctr := rfl
@[simp] theorem State.wrLen_otp (s : State) (k n v : Nat) : (s.wrLen k n v).otp = s.otp := rfl
@[simp] theorem State.wrLen_pins (s : State) (k n v : Nat) : (s.wrLen k n v).pins = s.pins := rfl

/-! ## emit -/

@[simp] theorem State.emit_pending (s : State) (e : OutEvent) : (s.emit e).pending = s.pending := rfl
@[simp] theorem State.emit_now (s : State) (e : OutEvent) : (s.emit e).now = s.now := rfl
@[simp] theorem State.emit_resetAt (s : State) (e : OutEvent) : (s.emit e).resetAt = s.resetAt := rfl
@[simp] theorem State.emit_objs (s : State) (e : OutEvent) : (s.emit e).objs = s.objs := rfl
@[simp] theorem State.emit_objsEdge (s : State) (e : OutEvent) : (s.emit e).objsEdge = s.objsEdge := rfl
@[simp] theorem State.emit_lens (s : State) (e : OutEvent) : (s.emit e).lens = s.lens := rfl
@[simp] theorem State.emit_shadow (s : State) (e : OutEvent) : (s.emit e).shadow = s.shadow := rfl
@[simp] theorem State.emit_shadowLens (s : State) (e : OutEvent) : (s.emit e).shadowLens = s.shadowLens := rfl
@[simp] theorem State.emit_preq (s : State) (e : OutEvent) : (s.emit e).preq = s.preq := rfl
@[simp] theorem State.emit_groups (s : State) (e : OutEvent) : (s.emit e).groups = s.groups := rfl
@[simp] theorem State.emit_out (s : State) (e : OutEvent) : (s.emit e).out = s.out ++ [e] := rfl
@[simp] theorem State.emit_freeCtr (s : State) (e : OutEvent) : (s.emit e).freeCtr = s.freeCtr := rfl
@[simp] theorem State.emit_jot (s : State) (e : OutEvent) : (s.emit e).jot = s.jot := rfl
@[simp] theorem State.emit_lay (s : State) (e : OutEvent) : (s.emit e).lay = s.lay := rfl
@[simp] theorem State.emit_plc (s : State) (e : OutEvent) : (s.emit e).plc = s.plc := rfl
@[simp] theorem State.emit_radio (s : State) (e : OutEvent) : (s.emit e).radio = s.radio := rfl
@[simp] theorem State.emit_rx (s : State) (e : OutEvent) : (s.emit e).rx = s.rx := rfl
@[simp] theorem State.emit_mac (s : State) (e : OutEvent) : (s.emit e).mac = s.mac := rfl
@[simp] theorem State.emit_cph (s : State) (e : OutEvent) : (s.emit e).cph = s.cph := rfl
@[simp] theorem State.emit_eth (s : State) (e : OutEvent) : (s.emit e).eth = s.eth := rfl
@[simp] theorem State.emit_tim (s : State) (e : OutEvent) : (s.emit e).tim = s.tim := rfl
@[simp] theorem State.emit_cores (s : State) (e : OutEvent) : (s.emit e).cores = s.cores := rfl
@[simp] theorem State.emit_mem (s : State) (e : OutEvent) : (s.emit e).mem = s.mem := rfl
@[simp] theorem State.emit_pwr (s : State) (e : OutEvent) : (s.emit e).pwr = s.pwr := rfl
@[simp] theorem State.emit_ctr (s : State) (e : OutEvent) : (s.emit e).ctr = s.ctr := rfl
@[simp] theorem State.emit_otp (s : State) (e : OutEvent) : (s.emit e).otp = s.otp := rfl
@[simp] theorem State.emit_pins (s : State) (e : OutEvent) : (s.emit e).pins = s.pins := rfl

/-! ## free -/

@[simp] theorem State.free_pending (s : State) : (s.free).2.pending = s.pending := rfl
@[simp] theorem State.free_now (s : State) : (s.free).2.now = s.now := rfl
@[simp] theorem State.free_resetAt (s : State) : (s.free).2.resetAt = s.resetAt := rfl
@[simp] theorem State.free_objs (s : State) : (s.free).2.objs = s.objs := rfl
@[simp] theorem State.free_objsEdge (s : State) : (s.free).2.objsEdge = s.objsEdge := rfl
@[simp] theorem State.free_lens (s : State) : (s.free).2.lens = s.lens := rfl
@[simp] theorem State.free_shadow (s : State) : (s.free).2.shadow = s.shadow := rfl
@[simp] theorem State.free_shadowLens (s : State) : (s.free).2.shadowLens = s.shadowLens := rfl
@[simp] theorem State.free_preq (s : State) : (s.free).2.preq = s.preq := rfl
@[simp] theorem State.free_groups (s : State) : (s.free).2.groups = s.groups := rfl
@[simp] theorem State.free_out (s : State) : (s.free).2.out = s.out := rfl
@[simp] theorem State.free_freeCtr (s : State) : (s.free).2.freeCtr = s.freeCtr + 1 := rfl
@[simp] theorem State.free_jot (s : State) : (s.free).2.jot = s.jot := rfl
@[simp] theorem State.free_lay (s : State) : (s.free).2.lay = s.lay := rfl
@[simp] theorem State.free_plc (s : State) : (s.free).2.plc = s.plc := rfl
@[simp] theorem State.free_radio (s : State) : (s.free).2.radio = s.radio := rfl
@[simp] theorem State.free_rx (s : State) : (s.free).2.rx = s.rx := rfl
@[simp] theorem State.free_mac (s : State) : (s.free).2.mac = s.mac := rfl
@[simp] theorem State.free_cph (s : State) : (s.free).2.cph = s.cph := rfl
@[simp] theorem State.free_eth (s : State) : (s.free).2.eth = s.eth := rfl
@[simp] theorem State.free_tim (s : State) : (s.free).2.tim = s.tim := rfl
@[simp] theorem State.free_cores (s : State) : (s.free).2.cores = s.cores := rfl
@[simp] theorem State.free_mem (s : State) : (s.free).2.mem = s.mem := rfl
@[simp] theorem State.free_pwr (s : State) : (s.free).2.pwr = s.pwr := rfl
@[simp] theorem State.free_ctr (s : State) : (s.free).2.ctr = s.ctr := rfl
@[simp] theorem State.free_otp (s : State) : (s.free).2.otp = s.otp := rfl
@[simp] theorem State.free_pins (s : State) : (s.free).2.pins = s.pins := rfl

/-! ## draw -/

@[simp] theorem State.draw_pending (s : State) : (s.draw).2.pending = s.pending := rfl
@[simp] theorem State.draw_now (s : State) : (s.draw).2.now = s.now := rfl
@[simp] theorem State.draw_resetAt (s : State) : (s.draw).2.resetAt = s.resetAt := rfl
@[simp] theorem State.draw_objs (s : State) : (s.draw).2.objs = s.objs := rfl
@[simp] theorem State.draw_objsEdge (s : State) : (s.draw).2.objsEdge = s.objsEdge := rfl
@[simp] theorem State.draw_lens (s : State) : (s.draw).2.lens = s.lens := rfl
@[simp] theorem State.draw_shadow (s : State) : (s.draw).2.shadow = s.shadow := rfl
@[simp] theorem State.draw_shadowLens (s : State) : (s.draw).2.shadowLens = s.shadowLens := rfl
@[simp] theorem State.draw_preq (s : State) : (s.draw).2.preq = s.preq := rfl
@[simp] theorem State.draw_groups (s : State) : (s.draw).2.groups = s.groups := rfl
@[simp] theorem State.draw_out (s : State) : (s.draw).2.out = s.out := rfl
@[simp] theorem State.draw_freeCtr (s : State) : (s.draw).2.freeCtr = s.freeCtr + 1 := rfl
@[simp] theorem State.draw_jot (s : State) : (s.draw).2.jot = s.jot := rfl
@[simp] theorem State.draw_lay (s : State) : (s.draw).2.lay = s.lay := rfl
@[simp] theorem State.draw_plc (s : State) : (s.draw).2.plc = s.plc := rfl
@[simp] theorem State.draw_radio (s : State) : (s.draw).2.radio = s.radio := rfl
@[simp] theorem State.draw_rx (s : State) : (s.draw).2.rx = s.rx := rfl
@[simp] theorem State.draw_mac (s : State) : (s.draw).2.mac = s.mac := rfl
@[simp] theorem State.draw_cph (s : State) : (s.draw).2.cph = s.cph := rfl
@[simp] theorem State.draw_eth (s : State) : (s.draw).2.eth = s.eth := rfl
@[simp] theorem State.draw_tim (s : State) : (s.draw).2.tim = s.tim := rfl
@[simp] theorem State.draw_cores (s : State) : (s.draw).2.cores = s.cores := rfl
@[simp] theorem State.draw_mem (s : State) : (s.draw).2.mem = s.mem := rfl
@[simp] theorem State.draw_pwr (s : State) : (s.draw).2.pwr = s.pwr := rfl
@[simp] theorem State.draw_ctr (s : State) : (s.draw).2.ctr = s.ctr := rfl
@[simp] theorem State.draw_otp (s : State) : (s.draw).2.otp = s.otp := rfl
@[simp] theorem State.draw_pins (s : State) : (s.draw).2.pins = s.pins := rfl

/-! ## wrReq -/

@[simp] theorem State.wrReq_pending (s : State) (r : Req) (k v : Nat) : (s.wrReq r k v).pending = s.pending := rfl
@[simp] theorem State.wrReq_now (s : State) (r : Req) (k v : Nat) : (s.wrReq r k v).now = s.now := rfl
@[simp] theorem State.wrReq_resetAt (s : State) (r : Req) (k v : Nat) : (s.wrReq r k v).resetAt = s.resetAt := rfl
@[simp] theorem State.wrReq_objs (s : State) (r : Req) (k v : Nat) : (s.wrReq r k v).objs = s.objs := rfl
@[simp] theorem State.wrReq_objsEdge (s : State) (r : Req) (k v : Nat) : (s.wrReq r k v).objsEdge = s.objsEdge := rfl
@[simp] theorem State.wrReq_lens (s : State) (r : Req) (k v : Nat) : (s.wrReq r k v).lens = s.lens := rfl
@[simp] theorem State.wrReq_shadow (s : State) (r : Req) (k v : Nat) : (s.wrReq r k v).shadow = s.shadow := rfl
@[simp] theorem State.wrReq_shadowLens (s : State) (r : Req) (k v : Nat) : (s.wrReq r k v).shadowLens = s.shadowLens := rfl
@[simp] theorem State.wrReq_preq (s : State) (r : Req) (k v : Nat) :
    (s.wrReq r k v).preq = (s.preq.filter (fun e => !(e.1 == reqWho r && e.2.1 == k))) ++ [(reqWho r, k, v)] := rfl
@[simp] theorem State.wrReq_groups (s : State) (r : Req) (k v : Nat) : (s.wrReq r k v).groups = s.groups := rfl
@[simp] theorem State.wrReq_out (s : State) (r : Req) (k v : Nat) : (s.wrReq r k v).out = s.out := rfl
@[simp] theorem State.wrReq_freeCtr (s : State) (r : Req) (k v : Nat) : (s.wrReq r k v).freeCtr = s.freeCtr := rfl
@[simp] theorem State.wrReq_jot (s : State) (r : Req) (k v : Nat) : (s.wrReq r k v).jot = s.jot := rfl
@[simp] theorem State.wrReq_lay (s : State) (r : Req) (k v : Nat) : (s.wrReq r k v).lay = s.lay := rfl
@[simp] theorem State.wrReq_plc (s : State) (r : Req) (k v : Nat) : (s.wrReq r k v).plc = s.plc := rfl
@[simp] theorem State.wrReq_radio (s : State) (r : Req) (k v : Nat) : (s.wrReq r k v).radio = s.radio := rfl
@[simp] theorem State.wrReq_rx (s : State) (r : Req) (k v : Nat) : (s.wrReq r k v).rx = s.rx := rfl
@[simp] theorem State.wrReq_mac (s : State) (r : Req) (k v : Nat) : (s.wrReq r k v).mac = s.mac := rfl
@[simp] theorem State.wrReq_cph (s : State) (r : Req) (k v : Nat) : (s.wrReq r k v).cph = s.cph := rfl
@[simp] theorem State.wrReq_eth (s : State) (r : Req) (k v : Nat) : (s.wrReq r k v).eth = s.eth := rfl
@[simp] theorem State.wrReq_tim (s : State) (r : Req) (k v : Nat) : (s.wrReq r k v).tim = s.tim := rfl
@[simp] theorem State.wrReq_cores (s : State) (r : Req) (k v : Nat) : (s.wrReq r k v).cores = s.cores := rfl
@[simp] theorem State.wrReq_mem (s : State) (r : Req) (k v : Nat) : (s.wrReq r k v).mem = s.mem := rfl
@[simp] theorem State.wrReq_pwr (s : State) (r : Req) (k v : Nat) : (s.wrReq r k v).pwr = s.pwr := rfl
@[simp] theorem State.wrReq_ctr (s : State) (r : Req) (k v : Nat) : (s.wrReq r k v).ctr = s.ctr := rfl
@[simp] theorem State.wrReq_otp (s : State) (r : Req) (k v : Nat) : (s.wrReq r k v).otp = s.otp := rfl
@[simp] theorem State.wrReq_pins (s : State) (r : Req) (k v : Nat) : (s.wrReq r k v).pins = s.pins := rfl

/-! ## edgeCopy -/

@[simp] theorem State.edgeCopy_pending (s : State) (k : Nat) : (s.edgeCopy k).pending = s.pending := rfl
@[simp] theorem State.edgeCopy_now (s : State) (k : Nat) : (s.edgeCopy k).now = s.now := rfl
@[simp] theorem State.edgeCopy_resetAt (s : State) (k : Nat) : (s.edgeCopy k).resetAt = s.resetAt := rfl
@[simp] theorem State.edgeCopy_objs (s : State) (k : Nat) : (s.edgeCopy k).objs = s.objs := rfl
@[simp] theorem State.edgeCopy_objsEdge (s : State) (k : Nat) : (s.edgeCopy k).objsEdge = put s.objsEdge k (s.rd k) := rfl
@[simp] theorem State.edgeCopy_lens (s : State) (k : Nat) : (s.edgeCopy k).lens = s.lens := rfl
@[simp] theorem State.edgeCopy_shadow (s : State) (k : Nat) : (s.edgeCopy k).shadow = s.shadow := rfl
@[simp] theorem State.edgeCopy_shadowLens (s : State) (k : Nat) : (s.edgeCopy k).shadowLens = s.shadowLens := rfl
@[simp] theorem State.edgeCopy_preq (s : State) (k : Nat) : (s.edgeCopy k).preq = s.preq := rfl
@[simp] theorem State.edgeCopy_groups (s : State) (k : Nat) : (s.edgeCopy k).groups = s.groups := rfl
@[simp] theorem State.edgeCopy_out (s : State) (k : Nat) : (s.edgeCopy k).out = s.out := rfl
@[simp] theorem State.edgeCopy_freeCtr (s : State) (k : Nat) : (s.edgeCopy k).freeCtr = s.freeCtr := rfl
@[simp] theorem State.edgeCopy_jot (s : State) (k : Nat) : (s.edgeCopy k).jot = s.jot := rfl
@[simp] theorem State.edgeCopy_lay (s : State) (k : Nat) : (s.edgeCopy k).lay = s.lay := rfl
@[simp] theorem State.edgeCopy_plc (s : State) (k : Nat) : (s.edgeCopy k).plc = s.plc := rfl
@[simp] theorem State.edgeCopy_radio (s : State) (k : Nat) : (s.edgeCopy k).radio = s.radio := rfl
@[simp] theorem State.edgeCopy_rx (s : State) (k : Nat) : (s.edgeCopy k).rx = s.rx := rfl
@[simp] theorem State.edgeCopy_mac (s : State) (k : Nat) : (s.edgeCopy k).mac = s.mac := rfl
@[simp] theorem State.edgeCopy_cph (s : State) (k : Nat) : (s.edgeCopy k).cph = s.cph := rfl
@[simp] theorem State.edgeCopy_eth (s : State) (k : Nat) : (s.edgeCopy k).eth = s.eth := rfl
@[simp] theorem State.edgeCopy_tim (s : State) (k : Nat) : (s.edgeCopy k).tim = s.tim := rfl
@[simp] theorem State.edgeCopy_cores (s : State) (k : Nat) : (s.edgeCopy k).cores = s.cores := rfl
@[simp] theorem State.edgeCopy_mem (s : State) (k : Nat) : (s.edgeCopy k).mem = s.mem := rfl
@[simp] theorem State.edgeCopy_pwr (s : State) (k : Nat) : (s.edgeCopy k).pwr = s.pwr := rfl
@[simp] theorem State.edgeCopy_ctr (s : State) (k : Nat) : (s.edgeCopy k).ctr = s.ctr := rfl
@[simp] theorem State.edgeCopy_otp (s : State) (k : Nat) : (s.edgeCopy k).otp = s.otp := rfl
@[simp] theorem State.edgeCopy_pins (s : State) (k : Nat) : (s.edgeCopy k).pins = s.pins := rfl

/-! ## withPending -/

@[simp] theorem State.withPending_pending (s : State) (p : List Instr) : (s.withPending p).pending = p := rfl
@[simp] theorem State.withPending_now (s : State) (p : List Instr) : (s.withPending p).now = s.now := rfl
@[simp] theorem State.withPending_resetAt (s : State) (p : List Instr) : (s.withPending p).resetAt = s.resetAt := rfl
@[simp] theorem State.withPending_objs (s : State) (p : List Instr) : (s.withPending p).objs = s.objs := rfl
@[simp] theorem State.withPending_objsEdge (s : State) (p : List Instr) : (s.withPending p).objsEdge = s.objsEdge := rfl
@[simp] theorem State.withPending_lens (s : State) (p : List Instr) : (s.withPending p).lens = s.lens := rfl
@[simp] theorem State.withPending_shadow (s : State) (p : List Instr) : (s.withPending p).shadow = s.shadow := rfl
@[simp] theorem State.withPending_shadowLens (s : State) (p : List Instr) : (s.withPending p).shadowLens = s.shadowLens := rfl
@[simp] theorem State.withPending_preq (s : State) (p : List Instr) : (s.withPending p).preq = s.preq := rfl
@[simp] theorem State.withPending_groups (s : State) (p : List Instr) : (s.withPending p).groups = s.groups := rfl
@[simp] theorem State.withPending_out (s : State) (p : List Instr) : (s.withPending p).out = s.out := rfl
@[simp] theorem State.withPending_freeCtr (s : State) (p : List Instr) : (s.withPending p).freeCtr = s.freeCtr := rfl
@[simp] theorem State.withPending_jot (s : State) (p : List Instr) : (s.withPending p).jot = s.jot := rfl
@[simp] theorem State.withPending_lay (s : State) (p : List Instr) : (s.withPending p).lay = s.lay := rfl
@[simp] theorem State.withPending_plc (s : State) (p : List Instr) : (s.withPending p).plc = s.plc := rfl
@[simp] theorem State.withPending_radio (s : State) (p : List Instr) : (s.withPending p).radio = s.radio := rfl
@[simp] theorem State.withPending_rx (s : State) (p : List Instr) : (s.withPending p).rx = s.rx := rfl
@[simp] theorem State.withPending_mac (s : State) (p : List Instr) : (s.withPending p).mac = s.mac := rfl
@[simp] theorem State.withPending_cph (s : State) (p : List Instr) : (s.withPending p).cph = s.cph := rfl
@[simp] theorem State.withPending_eth (s : State) (p : List Instr) : (s.withPending p).eth = s.eth := rfl
@[simp] theorem State.withPending_tim (s : State) (p : List Instr) : (s.withPending p).tim = s.tim := rfl
@[simp] theorem State.withPending_cores (s : State) (p : List Instr) : (s.withPending p).cores = s.cores := rfl
@[simp] theorem State.withPending_mem (s : State) (p : List Instr) : (s.withPending p).mem = s.mem := rfl
@[simp] theorem State.withPending_pwr (s : State) (p : List Instr) : (s.withPending p).pwr = s.pwr := rfl
@[simp] theorem State.withPending_ctr (s : State) (p : List Instr) : (s.withPending p).ctr = s.ctr := rfl
@[simp] theorem State.withPending_otp (s : State) (p : List Instr) : (s.withPending p).otp = s.otp := rfl
@[simp] theorem State.withPending_pins (s : State) (p : List Instr) : (s.withPending p).pins = s.pins := rfl

end Sys2Proof.Machine
end

