-- ==== Sys2Proof/Laws/Tables.lean ====
section
/-!
SUPPORT. The sparse tables: what a look-up finds after an entry is set or removed, that both keep the keys rising, and that memory keeps
its canonical form.
-/
namespace Sys2Proof.Machine

/-! ## Look-ups -/

theorem look_put {α : Type} (t : List (Nat × α)) (k j : Nat) (v : α) :
    look (put t k v) j = if j = k then some v else look t j := by
  induction t with
  | nil =>
    by_cases h : k = j
    · subst h; simp [put, look]
    · simp [put, look, h, Ne.symm h]
  | cons e r ih =>
    obtain ⟨i, w⟩ := e
    by_cases h1 : k < i
    · by_cases h : k = j
      · subst h; simp [put, look, h1]
      · simp [put, look, h1, h, Ne.symm h]
    · by_cases h2 : i = k
      · subst h2
        by_cases h : i = j
        · subst h; simp [put, look]
        · simp [put, look, h, Ne.symm h]
      · by_cases h3 : i = j
        · subst h3; simp [put, look, h1, h2]
        · simp [put, look, h1, h2, h3, ih]

@[simp] theorem look_put_self {α : Type} (t : List (Nat × α)) (k : Nat) (v : α) : look (put t k v) k = some v := by
  simp [look_put]

theorem look_put_ne {α : Type} (t : List (Nat × α)) {k j : Nat} (v : α) (h : j ≠ k) : look (put t k v) j = look t j := by
  simp [look_put, h]

theorem look_del {α : Type} (t : List (Nat × α)) (k j : Nat) : look (del t k) j = if j = k then none else look t j := by
  induction t with
  | nil => simp [del, look]
  | cons e r ih =>
    obtain ⟨i, w⟩ := e
    unfold del at ih ⊢
    by_cases h1 : i = k
    · subst h1; by_cases h : i = j <;> simp_all [look]
    · by_cases h3 : i = j
      · subst h3; simp_all [look]
      · simp_all [look]

@[simp] theorem lookD_put_self {α : Type} (t : List (Nat × α)) (k : Nat) (v d : α) : lookD (put t k v) k d = v := by
  simp [lookD]

theorem lookD_put_ne {α : Type} (t : List (Nat × α)) {k j : Nat} (v d : α) (h : j ≠ k) : lookD (put t k v) j d = lookD t j d := by
  simp [lookD, look_put_ne t v h]

theorem lookD_del {α : Type} (t : List (Nat × α)) (k j : Nat) (d : α) : lookD (del t k) j d = if j = k then d else lookD t j d := by
  unfold lookD; rw [look_del]; split <;> rfl

@[simp] theorem lookD_modify_self {α : Type} (t : List (Nat × α)) (k : Nat) (d : α) (f : α → α) :
    lookD (modify t k d f) k d = f (lookD t k d) := by simp [modify]

theorem lookD_modify_ne {α : Type} (t : List (Nat × α)) {k j : Nat} (d : α) (f : α → α) (h : j ≠ k) :
    lookD (modify t k d f) j d = lookD t j d := lookD_put_ne t _ d h

/-! ## Rising keys -/

/-- Every key of a table is above `n`. -/
def above {α : Type} (n : Nat) (t : List (Nat × α)) : Bool := t.all (fun e => decide (n < e.1))

theorem rising_cons {α : Type} (e : Nat × α) (r : List (Nat × α)) : rising (e :: r) = (above e.1 r && rising r) := by
  induction r generalizing e with
  | nil => simp [rising, above]
  | cons x r ih =>
    obtain ⟨j, w⟩ := e
    obtain ⟨k, v⟩ := x
    have h := ih (k, v)
    simp only [rising] at h ⊢
    rw [h]
    simp only [above, List.all_cons]
    by_cases h1 : j < k
    · have : ∀ l : List (Nat × α), (l.all fun e => decide (k < e.1)) = true → (l.all fun e => decide (j < e.1)) = true := by
        intro l hl
        simp only [List.all_eq_true, decide_eq_true_eq] at hl ⊢
        intro y hy
        have := hl y hy
        omega
      cases h2 : (r.all fun e => decide (k < e.1))
      · simp
      · simp [h1, this r h2]
    · simp [h1]

theorem above_put {α : Type} (n k : Nat) (v : α) (t : List (Nat × α)) (h : n < k) (ht : above n t = true) :
    above n (put t k v) = true := by
  induction t with
  | nil => simp [put, above, h]
  | cons e r ih =>
    obtain ⟨i, w⟩ := e
    simp only [above, List.all_cons, Bool.and_eq_true, decide_eq_true_eq] at ht
    unfold put
    split
    · simp [above, h, ht.1]; simpa [above] using ht.2
    · split
      · simp [above, h]; simpa [above] using ht.2
      · simp only [above, List.all_cons, Bool.and_eq_true, decide_eq_true_eq]
        exact ⟨ht.1, ih ht.2⟩

theorem rising_put {α : Type} (t : List (Nat × α)) (k : Nat) (v : α) (h : rising t = true) : rising (put t k v) = true := by
  induction t with
  | nil => simp [put, rising]
  | cons e r ih =>
    obtain ⟨i, w⟩ := e
    rw [rising_cons, Bool.and_eq_true] at h
    unfold put
    split
    · rename_i h1
      rw [rising_cons, rising_cons]
      have : above k r = true := by
        have := h.1
        simp only [above, List.all_eq_true, decide_eq_true_eq] at this ⊢
        intro y hy; have := this y hy; omega
      simp only [Bool.and_eq_true]
      refine ⟨?_, h.1, h.2⟩
      simp only [above, List.all_cons, Bool.and_eq_true, decide_eq_true_eq]
      exact ⟨h1, this⟩
    · split
      · rename_i h1 h2
        have h2 : i = k := by simpa using h2
        subst h2
        rw [rising_cons, Bool.and_eq_true]; exact h
      · rename_i h1 h2
        rw [rising_cons, Bool.and_eq_true]
        have h2 : i ≠ k := by simpa using h2
        exact ⟨above_put _ _ _ _ (by simp; omega) h.1, ih h.2⟩

theorem rising_filter {α : Type} (t : List (Nat × α)) (p : Nat × α → Bool) (h : rising t = true) : rising (t.filter p) = true := by
  induction t with
  | nil => simp [rising]
  | cons e r ih =>
    rw [rising_cons, Bool.and_eq_true] at h
    have ih := ih h.2
    by_cases hp : p e = true
    · rw [List.filter_cons_of_pos hp, rising_cons, Bool.and_eq_true]
      refine ⟨?_, ih⟩
      have := h.1
      simp only [above, List.all_eq_true, decide_eq_true_eq] at this ⊢
      intro y hy
      exact this y (List.mem_filter.mp hy).1
    · rw [List.filter_cons_of_neg hp]; exact ih

theorem rising_del {α : Type} (t : List (Nat × α)) (k : Nat) (h : rising t = true) : rising (del t k) = true :=
  rising_filter t _ h

/-! ## Memory -/

/-- What a read finds after one octet was written. -/
theorem cellsRead_write (c : List Host.Cell) (a x : Nat) (b : Byte) :
    cellsRead (cellsWrite c a b) x = if x = a then b else cellsRead c x := by
  unfold cellsRead cellsWrite
  by_cases hb : b = 0
  · rw [if_pos hb, lookD_del, hb]
  · rw [if_neg hb]
    by_cases h : x = a
    · subst h; simp
    · rw [lookD_put_ne _ _ _ h, if_neg h]

theorem all_put {α : Type} (p : Nat × α → Bool) (t : List (Nat × α)) (k : Nat) (v : α) (hv : p (k, v) = true) (h : t.all p = true) :
    (put t k v).all p = true := by
  induction t with
  | nil => simp [put, hv]
  | cons e r ih =>
    obtain ⟨i, w⟩ := e
    simp only [List.all_cons, Bool.and_eq_true] at h
    unfold put
    split
    · simp only [List.all_cons, hv, h.1, h.2, Bool.and_self]
    · split
      · simp only [List.all_cons, hv, h.2, Bool.and_self]
      · simp only [List.all_cons, h.1, ih h.2, Bool.and_self]

theorem all_filter {α : Type} (p q : α → Bool) (t : List α) (h : t.all p = true) : (t.filter q).all p = true := by
  simp only [List.all_eq_true] at h ⊢
  intro x hx
  exact h x (List.mem_filter.mp hx).1

theorem Memory.wf_filter (c : List Host.Cell) (q : Host.Cell → Bool) (h : Memory.wf c = true) : Memory.wf (c.filter q) = true := by
  simp only [Memory.wf, Bool.and_eq_true] at h ⊢
  exact ⟨rising_filter c q h.1, all_filter _ q c h.2⟩

theorem Memory.wf_write (c : List Host.Cell) (a : Nat) (b : Byte) (h : Memory.wf c = true) : Memory.wf (cellsWrite c a b) = true := by
  unfold cellsWrite
  split
  · exact Memory.wf_filter c _ h
  · rename_i hb
    simp only [Memory.wf, Bool.and_eq_true] at h ⊢
    exact ⟨rising_put c a b h.1, all_put _ c a b (by simpa using hb) h.2⟩

theorem Memory.wf_writeAll (skip : Nat → Bool) (c : List Host.Cell) (a : Nat) (bs : List Byte) (h : Memory.wf c = true) :
    Memory.wf (cellsWriteAll skip c a bs) = true := by
  induction bs generalizing c a with
  | nil => exact h
  | cons b r ih =>
    unfold cellsWriteAll
    split
    · exact ih c (a + 1) h
    · exact ih _ (a + 1) (Memory.wf_write c a b h)

theorem Memory.wf_clear (c : List Host.Cell) (a b : Nat) (h : Memory.wf c = true) : Memory.wf (cellsClear c a b) = true :=
  Memory.wf_filter c _ h

/-- An octet outside the addresses written reads as before. -/
theorem cellsRead_writeAll_out (skip : Nat → Bool) (c : List Host.Cell) (a x : Nat) (bs : List Byte)
    (h : x < a ∨ a + bs.length ≤ x) : cellsRead (cellsWriteAll skip c a bs) x = cellsRead c x := by
  induction bs generalizing c a with
  | nil => rfl
  | cons b r ih =>
    simp only [List.length_cons] at h
    unfold cellsWriteAll
    rw [ih _ (a + 1) (by omega)]
    split
    · rfl
    · rw [cellsRead_write, if_neg (by omega)]

/-- An octet written, where no range keeps it out, reads as written. -/
theorem cellsRead_writeAll_in (skip : Nat → Bool) (c : List Host.Cell) (a i : Nat) (bs : List Byte) (b : Byte)
    (hs : ∀ x, a ≤ x → x < a + bs.length → skip x = false) (h : bs[i]? = some b) :
    cellsRead (cellsWriteAll skip c a bs) (a + i) = b := by
  induction bs generalizing c a i with
  | nil => simp at h
  | cons d r ih =>
    unfold cellsWriteAll
    cases i with
    | zero =>
      have hd : d = b := by simpa using h
      rw [cellsRead_writeAll_out _ _ _ _ _ (by omega), hs a (by omega) (by simp)]
      simp [cellsRead_write, hd]
    | succ n =>
      have := ih (if skip a = true then c else cellsWrite c a d) (a + 1) n
        (fun x h1 h2 => hs x (by omega) (by simp only [List.length_cons]; omega)) (by simpa using h)
      rw [← this]; congr 1; omega

end Sys2Proof.Machine
end

