-- ==== Sys2Proof/Laws/Objects.lean ====
section
/-!
SUPPORT. The objects: the named writes brought to the one write `State.wr`, and what a read finds after it.
-/
namespace Sys2Proof.Machine

/-! ## Every write of an object is a `wr` -/

@[simp] theorem State.wrI_eq (s : State) (k w : Nat) (v : Int) : s.wrI k w v = s.wr k (ofInt w v) := rfl
@[simp] theorem State.wrOct_eq (s : State) (k i v : Nat) : s.wrOct k i v = s.wr k (setOctet (s.rd k) i v) := rfl
@[simp] theorem State.wrBits_eq (s : State) (k lo n v : Nat) : s.wrBits k lo n v = s.wr k (setBits (s.rd k) lo n v) := rfl
@[simp] theorem State.bumpBy_eq (s : State) (k n : Nat) : s.bumpBy k n = s.wr k ((s.rd k + n) % 2 ^ 32) := rfl
@[simp] theorem State.bump_eq (s : State) (k : Nat) : s.bump k = s.wr k ((s.rd k + 1) % 2 ^ 32) := rfl
@[simp] theorem State.bump64_eq (s : State) (k n : Nat) : s.bump64 k n = s.wr k ((s.rd k + n) % 2 ^ 64) := rfl
@[simp] theorem State.bumpSat_eq (s : State) (k : Nat) : s.bumpSat k = s.wr k (min (2 ^ 32 - 1) (s.rd k + 1)) := rfl
@[simp] theorem State.raiseEv_eq (s : State) (k b : Nat) : s.raiseEv k b = s.wr k (seqEvent (s.rd k) b) := rfl
@[simp] theorem State.setSt_eq (s : State) (k lo n x : Nat) : s.setSt k lo n x = s.wr k (seqState (s.rd k) lo n x) := rfl
@[simp] theorem State.faultN_eq (s : State) (b : Nat) : s.faultN b = s.wr O.FAULT_N_LATCH (seqEvent (s.rd O.FAULT_N_LATCH) b) := rfl
@[simp] theorem State.event_eq (s : State) (n : Nat) : s.event n = s.onCtr (fun c => { c with ev := modify c.ev n 0 (· + 1) }) := rfl

/-! ## Reads after writes -/

@[simp] theorem State.rd_wr_self (s : State) (k v : Nat) : (s.wr k v).rd k = v := by simp [State.rd]

theorem State.rd_wr_ne (s : State) {k j : Nat} (v : Nat) (h : j ≠ k) : (s.wr k v).rd j = s.rd j := by
  simp [State.rd, look_put_ne _ _ h]

theorem State.rd_wr (s : State) (k v j : Nat) : (s.wr k v).rd j = if j = k then v else s.rd j := by
  split
  · subst j; simp
  · exact State.rd_wr_ne s v ‹_›

@[simp] theorem State.rd_wrLen_self (s : State) (k n v : Nat) : (s.wrLen k n v).rd k = v := by simp [State.rd]

theorem State.rd_wrLen_ne (s : State) {k j : Nat} (n v : Nat) (h : j ≠ k) : (s.wrLen k n v).rd j = s.rd j := by
  simp [State.rd, look_put_ne _ _ h]

/-- Equal objects read equally. -/
theorem State.rd_congr {s u : State} (h : u.objs = s.objs) (k : Nat) : u.rd k = s.rd k := by simp [State.rd, h]

@[simp] theorem State.rd_onCtr (s : State) (f : Ctr → Ctr) (k : Nat) : (s.onCtr f).rd k = s.rd k := rfl
@[simp] theorem State.rd_onLay (s : State) (f : Lay → Lay) (k : Nat) : (s.onLay f).rd k = s.rd k := rfl
@[simp] theorem State.rd_onPlc (s : State) (f : Place → Place) (k : Nat) : (s.onPlc f).rd k = s.rd k := rfl
@[simp] theorem State.rd_onPwr (s : State) (f : Power → Power) (k : Nat) : (s.onPwr f).rd k = s.rd k := rfl
@[simp] theorem State.rd_onMem (s : State) (f : Mem → Mem) (k : Nat) : (s.onMem f).rd k = s.rd k := rfl
@[simp] theorem State.rd_onCores (s : State) (f : Cores → Cores) (k : Nat) : (s.onCores f).rd k = s.rd k := rfl
@[simp] theorem State.rd_onJot (s : State) (f : Jot → Jot) (k : Nat) : (s.onJot f).rd k = s.rd k := rfl
@[simp] theorem State.rd_onCph (s : State) (f : Cph → Cph) (k : Nat) : (s.onCph f).rd k = s.rd k := rfl
@[simp] theorem State.rd_onEth (s : State) (f : Eth → Eth) (k : Nat) : (s.onEth f).rd k = s.rd k := rfl
@[simp] theorem State.rd_onMac (s : State) (f : Mac → Mac) (k : Nat) : (s.onMac f).rd k = s.rd k := rfl
@[simp] theorem State.rd_onOtp (s : State) (f : Otp → Otp) (k : Nat) : (s.onOtp f).rd k = s.rd k := rfl
@[simp] theorem State.rd_onRadio (s : State) (f : Radio → Radio) (k : Nat) : (s.onRadio f).rd k = s.rd k := rfl
@[simp] theorem State.rd_onRx (s : State) (f : Rx → Rx) (k : Nat) : (s.onRx f).rd k = s.rd k := rfl
@[simp] theorem State.rd_onTim (s : State) (f : Tim → Tim) (k : Nat) : (s.onTim f).rd k = s.rd k := rfl
@[simp] theorem State.rd_emit (s : State) (e : OutEvent) (k : Nat) : (s.emit e).rd k = s.rd k := rfl
@[simp] theorem State.rd_free (s : State) (k : Nat) : (s.free).2.rd k = s.rd k := rfl
@[simp] theorem State.rd_draw (s : State) (k : Nat) : (s.draw).2.rd k = s.rd k := rfl
@[simp] theorem State.rd_wrReq (s : State) (r : Req) (k v j : Nat) : (s.wrReq r k v).rd j = s.rd j := rfl
@[simp] theorem State.rd_edgeCopy (s : State) (k j : Nat) : (s.edgeCopy k).rd j = s.rd j := rfl
@[simp] theorem State.rd_withPending (s : State) (p : List Instr) (k : Nat) : (s.withPending p).rd k = s.rd k := rfl

end Sys2Proof.Machine
end

