-- ==== Sys2Proof/Machine/Balls.lean ====
section
/-!
DEFINITION. Balls (chapter 16): the ball map (R499 to R504), the off-states of the signals (R506), the AON outputs at reset (R507) and the
flash command the strap selects (R508).
-/
namespace Sys2Proof.Machine

/-! ## The ball map (§1) -/

/-- The supply rails of Table 16.1. -/
inductive Rail where
  | core | sram | aon | rf1 | rf2 | vddq | vpp | serdes | serdesH | ioA | ioB
deriving DecidableEq, Repr

/-- What a ball is: ground, a rail, reserved (R505), or a signal by name, with its index in the name's brackets where it has one. -/
inductive Ball where
  | vss
  | rsvd
  | rail (r : Rail)
  | signal (name : String) (index : Option Nat)
deriving DecidableEq, Repr

/-- The row letters in order of the row index, from 1 (R499). -/
def ballRows : List String :=
  ["A", "B", "C", "D", "E", "F", "G", "H", "J", "K", "L", "M", "N", "P", "T", "U", "V", "W", "Y", "AA", "AB", "AC", "AD", "AE", "AF", "AG",
    "AH", "AJ", "AK", "AL", "AM", "AN", "AP", "AT", "AU", "AV", "AW", "AY", "BA"]

/-- The regions of Table 16.1. -/
inductive BallRegion where
  | w | e | n | s | c
deriving DecidableEq, Repr

/-- The region of the ball at row index r and column c (Table 16.1). -/
def ballRegion (r c : Nat) : BallRegion :=
  if c ≤ 5 then .w else if 35 ≤ c then .e else if r ≤ 4 then .n else if 33 ≤ r then .s else .c

/-- Signals name[from] to name[from + n - 1]. -/
def sigs (name : String) (start n : Nat) : List Ball := (upFrom start n).map (fun i => Ball.signal name (some i))

/-- A channel's signals in the order of R501, without the prefix. -/
def ddrSignals : List Ball :=
  (List.range 18).flatMap (fun g => sigs "DQ" (4 * g) 2 ++ sigs "DQS_P" g 1 ++ sigs "DQS_N" g 1 ++ sigs "DQ" (4 * g + 2) 2) ++
    ["CK0_P", "CK0_N", "CK1_P", "CK1_N"].map (fun n => Ball.signal n none) ++
    sigs "A" 0 18 ++ sigs "BA" 0 2 ++ sigs "BG" 0 2 ++
    [.signal "ACT_N" none] ++ sigs "CS_N" 0 2 ++ [.signal "CKE" none] ++ sigs "ODT" 0 2 ++
    [.signal "RESET_N" none, .signal "VREFCA" none, .signal "ZQ" none]

/-- The supply ball at a position of region W, if it is one (R501). -/
def wSupply (r c : Nat) : Option Ball :=
  if c = 5 then some (if r = 38 then .rail .vpp else if r % 2 = 1 then .rail .vddq else .vss)
  else if c = 3 ∧ r % 3 = 0 then some (if r = 39 then .rail .vpp else .rail .vddq)
  else none

/-- The signal positions of region W before row r and column c, in the order of R501. -/
def wBefore (r c : Nat) : Nat :=
  (4 * (r - 1) - (r - 1) / 3) + (c - 1) - (if r % 3 = 0 ∧ 3 < c then 1 else 0)

/-- The ball of a channel's region at row r and column c of region W (R501). -/
def ddrBall (ch r c : Nat) : Ball :=
  match wSupply r c with
  | some b => b
  | none => match ddrSignals[wBefore r c]? with
    | some (.signal n i) => .signal ("DDR" ++ toString ch ++ "_" ++ n) i
    | _ => .rsvd

/-- The balls of a transceiver block's rows A and D (R502). -/
def trxBall (x : String) (r k : Nat) : Ball :=
  let sig (n : String) : Ball := .signal n none
  match r with
  | 1 => ([.vss, sig ("TX" ++ x ++ "_P"), sig ("TX" ++ x ++ "_N"), .vss, sig ("RX" ++ x ++ "1_P"), sig ("RX" ++ x ++ "1_N"), .vss,
      sig ("RX" ++ x ++ "2_P"), sig ("RX" ++ x ++ "2_N")] : List Ball).getD k .vss
  | 3 => if k < 6 then .rail .rf1 else .rail .rf2
  | 4 => ([sig ("PA" ++ x ++ "_EN"), sig ("SW" ++ x ++ "_TX"), sig ("TUN" ++ x ++ "_SCL"), sig ("TUN" ++ x ++ "_SDA"),
      .rail .rf2] : List Ball).getD k .vss
  | _ => .vss

/-- The balls of region N (R502). -/
def nBall (r c : Nat) : Ball :=
  if c = 15 ∨ c = 25 then .vss
  else if c < 15 then trxBall "A" r (c - 6)
  else if c < 25 then trxBall "B" r (c - 16)
  else trxBall "C" r (c - 26)

/-- The SerDes block of region S (R503). -/
def serdesBall (r c : Nat) : Ball :=
  let p := (c - 6) / 2
  let leg := if c % 2 = 0 then "_P" else "_N"
  if r = 39 then .signal ("ETH" ++ toString p ++ "_TX" ++ leg) none
  else if r = 37 then .signal ("ETH" ++ toString p ++ "_RX" ++ leg) none
  else if r = 35 ∧ c = 6 then .signal "ETH_REXT" none
  else .vss

/-- The signals of the low-speed block in columns 14 to 20 (Table 16.2). -/
def lowSpeedLeft (r : Nat) : List Ball :=
  let sig (n : String) : Ball := .signal n none
  match r with
  | 33 => [sig "MGT_TXC", sig "MGT_TX_CTL", .rail .ioA] ++ sigs "MGT_TXD" 0 2 ++ [.rail .ioA, .rail .ioA]
  | 34 => sigs "MGT_TXD" 2 2 ++ [.rail .ioA, sig "MGT_RXC", sig "MGT_RX_CTL", sig "THERM_P", sig "THERM_N"]
  | 35 => sigs "MGT_RXD" 0 4 ++ [sig "MGT_MDC", .vss, .vss]
  | 36 => [sig "MGT_MDIO", sig "QSPI_CLK", .rail .ioA, sig "QSPI_CS_N"] ++ sigs "QSPI_IO" 0 1 ++ [sig "VINSENSE", .rail .ioA]
  | 37 => sigs "QSPI_IO" 1 3 ++ [sig "UART_TXD", sig "UART_RXD", .vss, .vss]
  | 38 => [sig "JTAG_TCK", sig "JTAG_TMS", .rail .ioA, sig "JTAG_TDI", sig "JTAG_TDO", sig "XIN", sig "XOUT"]
  | _ => [sig "JTAG_TRST_N", sig "STRAP_XTAL", .rail .ioA, sig "STRAP_QSPI", sig "TEST_EN", .vss, .vss]

/-- The signals of the low-speed block in columns 21 to 34 but for 24, 28 and 32, which are VDDIO_B (Table 16.2): eleven a row. -/
def lowSpeedRight : List Ball :=
  ["CAN_TXD", "CAN_RXD", "RESET_N", "FAULT_N"].map (fun n => Ball.signal n none) ++ sigs "SHED_STAGE" 0 3 ++
    ["PPS_IN", "PMB_SCL", "PMB_SDA"].map (fun n => Ball.signal n none) ++ sigs "PMIC_EN" 0 16 ++ sigs "PMIC_PG" 0 16 ++ sigs "GPIO" 0 32 ++
    [.rsvd, .rsvd, .rsvd]

/-- The balls of region S (R503). -/
def sBall (r c : Nat) : Ball :=
  if c < 14 then serdesBall r c
  else if c < 21 then (lowSpeedLeft r).getD (c - 14) .vss
  else if c % 4 = 0 then .rail .ioB
  else lowSpeedRight.getD (11 * (r - 33) + ((c - 21) - (c - 21) / 4)) .rsvd

/-- The balls of region C (R504). -/
def cBall (r c : Nat) : Ball :=
  if (r + c) % 2 = 0 then .vss
  else if 5 ≤ r ∧ r ≤ 8 then .rail .sram
  else if (r = 27 ∨ r = 28) ∧ c ≤ 17 then .rail .serdesH
  else if 29 ≤ r ∧ c ≤ 17 then .rail .serdes
  else if (r = 31 ∧ (c = 18 ∨ c = 20)) ∨ (r = 32 ∧ (c = 19 ∨ c = 21)) then .rail .aon
  else if r = 32 ∧ 23 ≤ c ∧ c ≤ 33 then .rsvd
  else .rail .core

/-- The ball at row index r (1 to 39) and column c (1 to 39) (R500). -/
def ballAt (r c : Nat) : Ball :=
  match ballRegion r c with
  | .w => ddrBall 0 r c
  | .e => ddrBall 1 r (40 - c)
  | .n => nBall r c
  | .s => sBall r c
  | .c => cBall r c

/-- A ball's name: its row letter followed by its column (R499). -/
def ballName (r c : Nat) : String := (ballRows.getD (r - 1) "") ++ toString c

/-! ## Off-states (§2) -/

/-- The groups of output and bidirectional balls that Table 16.3 gives an off-state. -/
inductive SignalGroup where
  /-- TXx_P, TXx_N. -/
  | trxTx (x : Nat)
  /-- PAx_EN, SWx_TX, TUNx_SCL, TUNx_SDA. -/
  | trxControl (x : Nat)
  /-- DQ, DQS, clocks, addresses and commands but for CKE and RESET_N. -/
  | ddr (c : Nat)
  /-- DDRc_CKE, DDRc_RESET_N. -/
  | ddrHeld (c : Nat)
  | ddrVref (c : Nat)
  | ethTx (p : Nat)
  /-- ETHp_RX_P/N: an input. -/
  | ethRx (p : Nat)
  | mgt
deriving DecidableEq, Repr

/-- How a group's balls stand: driven by their block; not driven (ESD clamps only, or terminations removed); floating; held at the last
level by AON retention, while VDDQ is present; driven low; high impedance. -/
inductive BallState where
  | driven | undriven | floating | held | low | highImpedance
deriving DecidableEq, Repr

/-- How a group's balls stand (Table 16.3): VREFCA is driven whatever its domain does, the MGT outputs are low while CLK is not ON. -/
def State.ballState (s : State) : SignalGroup → BallState
  | .trxTx x => if s.floats (2 + x) then .undriven else .driven
  | .trxControl x => if s.floats (2 + x) then .floating else .driven
  | .ddr c => if s.floats (partKey 12 c) then .floating else .driven
  | .ddrHeld c => if s.floats (partKey 12 c) then .held else .driven
  | .ddrVref _ => .driven
  | .ethTx p => if s.floats (partKey 11 p) then .undriven else .driven
  | .ethRx p => if s.floats (partKey 11 p) then .highImpedance else .driven
  | .mgt => if s.domain 1 = 0 then .driven else .low

/-! ## The AON outputs at reset (R507) and the straps (R508) -/

/-- The levels of the AON outputs. -/
structure AonLevels where
  canTxd : Bool
  qspiCsN : Bool
  qspiClk : Bool
  uartTxd : Bool
  pmicEn : List Bool
  shedStage : Nat
  /-- FAULT_N is pulled low. -/
  faultLow : Bool
  /-- The GPIO that are outputs. -/
  gpioOut : Nat
  mgt : BallState
deriving DecidableEq, Repr

/-- The AON outputs while nothing is sent, read or driven by firmware, as from the release of the AON power-on reset and while RESET_N is
low: CAN_TXD recessive, the flash not selected, the UART idle, GPIO as inputs (R507); FAULT_N by R437 alone. -/
def State.aonIdle (s : State) : AonLevels where
  canTxd := true
  qspiCsN := true
  qspiClk := false
  uartTxd := true
  pmicEn := (List.range 16).map s.pmicEn
  shedStage := s.shedStage
  faultLow := s.faultNLow
  gpioOut := 0
  mgt := s.ballState .mgt

/-- The flash read command of the boot ROM and its clock in MHz (R508): 0x13, single I/O at 25 MHz, or 0x6C, quad output at 50 MHz. -/
def State.flashRead (s : State) : Nat × Nat := if s.pins.qspi then (0x6C, 50) else (0x13, 25)

end Sys2Proof.Machine
end

