-- ==== Sys2Proof/Tests/Slice0.lean ====
section
/-!
SUPPORT. Tests: the smoke test of WellFormed, the manual's own worked examples, and for every statement of Obligations.lean that has
hypotheses a witness `wit_<statement>`: concrete states and operands that meet them, the boundary values of a range among them.
-/
namespace Sys2Proof.Tests

-- One theorem at a time: elaborated side by side they reserve more memory than a check has.
set_option Elab.async false
open Sys2Proof Sys2Proof.Machine

/-! ## Requesters and states -/

/-- CAN FD client 1. -/
def can1 : Req := { tr := .can, src := 1, host := 0, tag := 0, dest := 127, port := 0, addr := 0 }

/-- Every domain ON, every hart RUNNING, the management port linked. -/
def up : State :=
  let s := (State.reset.wr O.DOMAIN_STATE 0).wr O.HART_STATE 0x02020202020202020202020202020202
  { s with pins := { s.pins with mgmtUp := true } }

/-- The same with the service session held by a requester. -/
def served (r : Req) : State := up.onJot (fun j => { j with svc := { j.svc with holder := some r } })

/-- Every domain ON and a sequence of objects set. -/
def upWith (l : List (Nat × Nat)) : State := l.foldl (fun s e => s.wr e.1 e.2) up

/-- A window in which the stream is silent. -/
def noCorr : Correlation := { power := 0, received := 0, reference := 0, step := 0 }

/-- A measurement of a reception, all zero. -/
def noMeasure : Measured := { rssi := 0, rssi1 := 0, rssi2 := 0, snr := 0, evm := 0 }

/-- The state that a command leaves. -/
def after (c : Instr) (s : State) : State :=
  match exec c s with
  | .next u => u
  | _ => s

/-! ## WellFormed: a well-formed command, and for each check one that it refuses -/

theorem test_wf_good : (Instr.objectWrite 7 can1 0x3120 4 1 0xFF).wf = true := by decide
theorem test_wf_req_csr : (Instr.sensorAdd 0 { can1 with tr := .csr, src := 16, dest := 0 }).wf = false := by decide
theorem test_wf_req_can_host : (Instr.sensorAdd 0 { can1 with host := 1 }).wf = false := by decide
theorem test_wf_req_udp_host : (Instr.sensorAdd 0 { can1 with tr := .udp, host := 2 ^ 144 }).wf = false := by decide
theorem test_wf_index : (Instr.objectWrite 0 can1 0x10000 4 1 0).wf = false := by decide
theorem test_wf_sub : (Instr.objectWrite 0 can1 0x3120 256 1 0).wf = false := by decide
theorem test_wf_value : (Instr.objectWrite 0 can1 0x3120 4 1 256).wf = false := by decide
theorem test_wf_window : (Instr.sluiceC0Window 5 0 0 4).wf = false := by decide
theorem test_wf_start : (Instr.rakeDetection 5 0 noCorr 6).wf = false := by decide
theorem test_wf_width : (Instr.csrAccessFault 0 0 0x400000000 24 false 0).wf = false := by decide
theorem test_wf_header : (Instr.lanePhrCheck 0 0 (.ofdm true 7 true 4)).wf = false := by decide
theorem test_wf_partial : (Instr.memoryPartialWrite 0 0 0x100000000 0 0 0).wf = false := by decide
theorem test_wf_train : (Instr.trainTableWrite 0 can1 0 [{ rate := 3, rank := 0, step := 1, values := [] }]).wf = false := by decide
theorem test_wf_import : (Instr.keyImport 0 can1 2 65536).wf = false := by decide
theorem test_wf_ply : (Instr.plyBurstEnd 0 0 (.sounding (List.replicate 4097 0)) noMeasure).wf = false := by
  rw [Instr.wf, PlyEnd.wf, List.length_replicate]; decide
theorem test_wf_psdu : (Instr.psduDelivered 0 0 (List.replicate 4096 0) noMeasure).wf = false := by
  rw [Instr.wf, List.length_replicate]; decide
theorem test_wf_use : (Instr.memoryRead 0 0 0 0 (.own 4096)).wf = false := by decide
theorem test_wf_flips : (Instr.scrubRead 0 0 (2 ^ 144)).wf = false := by decide
theorem test_wf_frame : (Instr.ethFrameReceived 0 0 [] (2 ^ 64) 0).wf = false := by decide
theorem test_wf_ask : (Instr.mgmtArpNdEcho 0 (.arp (2 ^ 32))).wf = false := by decide
theorem test_wf_mgmt : (Instr.mgmtFrameDropped 0 (.datagram (2 ^ 128) 0 0 0 true)).wf = false := by decide
theorem test_wf_image : (BootImage.wf { readable := true, formed := true, length := 4, key := 0, sig := 0, head := [], loadAddr := 0, entry := 0, bodyLen := 5, body := 0 }) = false := by
  decide +kernel

/-! ## The manual's worked examples -/

/-- The example of R82: `3120.04` lies at 0x4_0C48_0100, its shadow alias at 0x4_4C48_0100. -/
theorem test_cell_addresses : cellAddr false 0x3120 4 = 0x40C480100 ∧ cellAddr true 0x3120 4 = 0x44C480100 := by decide

/-- Table 3.13: the ticks of selected entries as stored. -/
theorem test_entry_ticks : [0x1000_0173_E010_000C, 0x1002_017E_D010_0000, 0x2100_0186_A020_8403, 0x2100_0AAE_6000_0000,
    0x3400_01E4_6040_0000, 0x3400_0B10_0800_0000].map eTick = [95200, 98000, 100000, 700000, 124000, 725000] := by decide

/-- The example of R433: edges 98 to 151 and 103 to 152 agree on 125 with an eye of 765; a centre of 129 disagrees, and a third run at 128
agrees with the second on 128. -/
theorem test_training_example :
    runsAgree 3 [(98, 151)] [(103, 152)] = true ∧ acceptedValues 3 [(98, 151)] [(103, 152)] = [125] ∧ eyeWidth (98, 151) (103, 152) = 765 ∧
    runsAgree 3 [(98, 151)] [(104, 154)] = false ∧ runsAgree 3 [(104, 154)] [(103, 153)] = true ∧
    acceptedValues 3 [(104, 154)] [(103, 153)] = [128] := by decide

/-- Table 13.11: below 11.4 V the stage is S1, at 10.48 V S3. -/
theorem test_stage_of_input : [11400, 11399, 10999, 10599, 10480].map State.reset.deepest = [0, 1, 2, 3, 3] := by decide

/-! ## Witnesses -/

theorem wit_StepRunsFrontCommand :
    (State.reset.withPending [.slotBoundary 0]).pending = [.slotBoundary 0] ∧ State.reset.pending = [] := by decide

theorem wit_StepTakesOneCommand : (State.reset.withPending [.hartSipWrite 9 3 1]).pending = [.hartSipWrite 9 3 1] := by decide

theorem wit_StepKeepsInvariant : State.reset.inv ∧ step State.reset = .next (State.reset.tickTo 1) := by
  exact ⟨by unfold State.inv; decide, rfl⟩

theorem wit_ReadIsServed : (up.tickTo 0).reaches can1 = true ∧
    ((up.heard 0 can1).readCheck can1 0x2100 1).toOption.isSome = true ∧
    (match (up.heard 0 can1).readCheck can1 0x2100 1 with
    | .ok d => decide (((up.heard 0 can1).readObj can1 0x2100 1 d false).1 ≤ 56)
    | .error _ => false) = true ∧
    (match (up.heard 0 can1).readCheck can1 (O.REFUSALS / 256) (O.REFUSALS % 256) with
    | .ok d => decide (56 < ((up.heard 0 can1).readObj can1 (O.REFUSALS / 256) (O.REFUSALS % 256) d false).1)
    | .error _ => false) = true ∧
    ((up.heard 0 can1).readCheck can1 0xFFFF 1).toOption = none := by decide

theorem wit_WriteIsRefusedOrTaken : (up.tickTo 0).reaches can1 = true ∧
    (match (up.heard 0 can1).writeCheck can1 0x2100 1 16 with
    | .error .writeRo => true
    | _ => false) = true ∧
    (match (up.heard 0 can1).writeCheck can1 0x2201 6 2 with
    | .ok _ => true
    | _ => false) = true ∧ (0x05 : Nat) ∉ [0x01, 0x02, 0x03, 0x04, 0x10, 0x11, 0x12] := by decide

theorem wit_ObjectWriteStores :
    (match up.writable 0 can1 O.HEARTBEAT_MS 2 1000 with
    | some d => decide (d.access = .rw) && !d.slow && !d.perReq && decide (d.ty ≠ .seqstat) && !otpObj O.HEARTBEAT_MS
    | none => false) = true ∧
    (match up.writable 0 can1 O.VXLAN_PORT 2 4789 with
    | some d => decide (d.access = .rws) && !d.slow && decide (d.ty ≠ .seqstat)
    | none => false) = true := by decide

theorem wit_SeqstatWriteBackClears :
    (match up.writable 0 can1 O.CIPHER_EVENTS 4 1 with
    | some d => decide (d.access = .rw) && !d.slow && decide (d.ty = .seqstat)
    | none => false) = true ∧ bits 1 16 16 = bits ((up.heard 0 can1).rd O.CIPHER_EVENTS) 16 16 ∧
    bits 65537 16 16 ≠ bits ((up.heard 0 can1).rd O.CIPHER_EVENTS) 16 16 := by decide

theorem wit_CommitChecksThenAppliesOrWaits :
    up.takes 0 can1 (recKey 0x2201 0xFE) 4 1 = true ∧ up.takes 0 can1 (recKey 0x2201 0xFE) 4 2 = true ∧
    (groupBoundary 0x2201).isSome = true ∧ rising up.shadow = true ∧
    ((up.heard 0 can1).ownGroup can1 0x2201).groupCheck 0x2201 = 0 ∧ ((up.heard 0 can1).ownGroup can1 0x2201).appliesNow 0x2201 = true ∧
    (((upWith []).heard 0 can1).ownGroup can1 0x7100).appliesNow 0x7100 = false := by decide

/-- A group owned since tick 0, PENDING since 5. -/
def owned (index : Nat) (pend : Option Nat) : State :=
  { up with groups := [(index, { owner := some can1, activeAt := 0, pendingAt := pend })] }

theorem wit_SilentOwnerLosesShadow : (groupBoundary 0x2201).isSome = true ∧
    look ((owned 0x2201 none).tickTo 2000000000).groups 0x2201 = some { owner := some can1, activeAt := 0, pendingAt := none } ∧
    0 + 10 * secTk ≤ ((owned 0x2201 none).tickTo 2000000000).now ∧ ((owned 0x2201 none).tickTo 1999999999).now < 0 + 10 * secTk := by decide

theorem wit_PendingGroupMeetsItsBoundary : (groupBoundary 0x7100).isSome = true ∧
    look ((owned 0x7100 (some 5)).tickTo 200000005).groups 0x7100 = some { owner := some can1, activeAt := 0, pendingAt := some 5 } ∧
    5 + secTk ≤ ((owned 0x7100 (some 5)).tickTo 200000005).now ∧ ((owned 0x7100 (some 5)).tickTo 200000004).now < 5 + secTk := by decide

theorem wit_SegmentedTransferOpens : (up.tickTo 0).reaches can1 = true ∧ (up.heard 0 can1).openXfers .can = 0 ∧
    ((up.heard 0 can1).writeCheck can1 (O.STANDBY_IMAGE / 256) (O.STANDBY_IMAGE % 256) 100).toOption.isSome = true ∧
    ((up.heard 0 can1).readCheck can1 (O.STANDBY_IMAGE / 256) (O.STANDBY_IMAGE % 256)).toOption.isSome = true := by decide

/-- A write of 100 octets to STANDBY_IMAGE is open. -/
def writing : State := after (.jotWriteSeg 0 can1 (O.STANDBY_IMAGE / 256) (O.STANDBY_IMAGE % 256) 4 4 1000) up

theorem wit_SegmentedTransferRuns : (writing.tickTo 1).reaches can1 = true ∧
    ((writing.tickTo 1).xferOf can1).any (fun x => x.write && x.base == 0 && x.next == 0 && x.segLen 0 == 56 && decide (1 < x.blockEnd) &&
      decide (1 ≠ x.count) && decide (1 ≠ x.base + x.block)) = true := by decide

theorem wit_ClientAbortEndsTransfer : can1.tr ≠ .csr ∧ (writing.tickTo 1).reaches can1 = true := by decide

theorem wit_OneServiceSession : (up.tickTo 0).reaches can1 = true ∧ (up.heard 0 can1).jot.svc.holder = none ∧
    (up.heard 0 can1).jot.svc.lockUntil = none ∧ ((served can1).heard 0 can1).jot.svc.holder.isSome = true ∧
    (up.tickTo 0).hartRuns 15 = true := by decide

theorem wit_SessionProofAndClose : (up.tickTo 0).reaches can1 = true ∧ (up.heard 0 can1).jot.svc.holder = none ∧
    (up.heard 0 can1).jot.svc.lockUntil = none ∧ up.takes 0 (hartReq 15) O.SVC_PROOF 16 5 = true ∧
    up.takes 0 (hartReq 0) O.SVC_CLOSE 1 1 = true ∧ ((served can1).heard 0 can1).holdsSvc can1 = true ∧
    ((served (hartReq 0)).heard 0 (hartReq 0)).holdsSvc (hartReq 0) = true := by decide

theorem wit_SessionAndLockoutEnd : ((served can1).tickTo 1).jot.svc.holder.isSome = true ∧
    ((served can1).tickTo (up.rd O.SVC_IDLE_S * secTk)).jot.svc.lastReq + up.rd O.SVC_IDLE_S * secTk ≤
      ((served can1).tickTo (up.rd O.SVC_IDLE_S * secTk)).now ∧ (up.tickTo 0).jot.busOff = false := by decide

theorem wit_HeartbeatAndIgnoredFrames :
    (up.tickTo 200000000).rd O.HEARTBEAT_MS * msTk ≠ 0 ∧ (up.tickTo 200000000).jot.heartbeatAt + (up.tickTo 200000000).rd O.HEARTBEAT_MS * msTk ≤ 200000000 ∧
    (up.tickTo 0).carries .can = true ∧ (up.tickTo 0).carries .udp = true ∧ (up.tickTo 0).ignored 0x1FFFFFFF true = true ∧
    (up.tickTo 0).mgmtDrops .foreign = true := by decide

theorem wit_CsrWindowWords : (up.tickTo 0).hartRuns 3 = true ∧
    (match findObj 0x2100 1 with
    | .ok d => !d.long && decide ((up.heard 0 (hartReq 3)).readCheck (hartReq 3) 0x2100 1 |>.toOption.isSome) && decide (d.size = 16)
    | .error _ => false) = true ∧
    (match findObj (O.HART_ENTRY / 256) (O.HART_ENTRY % 256) with
    | .ok d => !d.long && decide (d.ty = .u 64) && decide (d.access = .rw) && !d.slow && !d.perReq &&
        ((up.heard 0 (hartReq 3)).writeCheck (hartReq 3) (O.HART_ENTRY / 256) (O.HART_ENTRY % 256) d.size).toOption.isSome &&
        (up.writable 0 (hartReq 3) O.HART_ENTRY 8 (0x1000 % 2 ^ 32 + 0 % 2 ^ 32 * 2 ^ 32)).isSome
    | .error _ => false) = true ∧
    (match findObj (O.HEARTBEAT_MS / 256) (O.HEARTBEAT_MS % 256) with
    | .ok d => decide (d.size ≤ 4 ∧ 1 ≤ d.size) && (up.writable 0 (hartReq 3) O.HEARTBEAT_MS d.size (1000 % 2 ^ 32)).isSome
    | .error _ => false) = true := by decide

/-- Every pan ON. -/
def panned : State := upWith [(O.PAN_POWER, 0x02020202020202020202020202020202), (O.PAN_RESERVE, 2), (O.MEM_SCRUB_PERIOD_S, 0)]

/-- Memory is at rest where nothing is in error and no channel holds requests or windows. -/
theorem quiet_of {s : State} (hf : s.mem.flips = []) (hp : s.mem.poison = []) (hz : s.cph.zeroed = []) (hc : s.mem.chans = []) : s.memQuiet := by
  have e : ∀ c, s.chan c = Chan.reset := fun c => by unfold State.chan; rw [hc]; rfl
  refine ⟨hf, hp, hz, fun c => ?_⟩
  unfold State.rankHeld
  rw [e c]
  exact ⟨rfl, rfl, rfl, fun k => match k with
    | 0 => rfl
    | 1 => rfl
    | _ + 2 => rfl⟩

theorem panned_quiet : (panned.tickTo 0).memQuiet := quiet_of (by decide) (by decide) (by decide) (by decide)

theorem wit_TransferCells : (up.tickTo 0).hartRuns 0 = true ∧
    (match findObj (O.STANDBY_IMAGE / 256) (O.STANDBY_IMAGE % 256) with
    | .ok d => d.long
    | .error _ => false) = true ∧
    ((after (.xferControlRead 0 0 false (O.STANDBY_IMAGE / 256) (O.STANDBY_IMAGE % 256)) up).tickTo 1).jot.moves.any (fun m => m.state == 1 && m.hart == 0) = true ∧
    (panned.tickTo 0).memQuiet ∧ (panned.tickTo 0).bufferGood 0x100000000 64 = true ∧ (panned.tickTo 0).bufferGood 0x103FFFFFF 2 = false ∧
    (panned.tickTo 0).memServed 0x10000003F = true := ⟨by decide, by decide, by decide, panned_quiet, by decide, by decide, by decide⟩

theorem wit_AccessFaultsAreLogged : (up.tickTo 0).hartRuns 0 = true ∧ ((up.heard 0 (hartReq 0)).csrFault 0 0x480000000 32 false).isSome = true ∧
    (up.heard 0 (hartReq 0)).csrFault 0 (cellAddr false 0x2100 1) 32 false = none ∧
    csrPlace (cellAddr false 0x2100 1) = (0x2100, 1, 0) ∧ (up.tickTo 0).coreRefusal 0x0200F000 64 false = none ∧
    (up.tickTo 0).coreRefusal 0x02000F00 64 true = none ∧ (up.tickTo 0).coreRefusal 0x0 32 false = none ∧ (up.tickTo 0).coreRefusal 0x800000000 32 false ≠ none ∧
    (up.tickTo 0).hartRuns 15 = true := by decide

/-- A flow entry of class 1 with depth 4 on every hart, for flow 9. -/
def flowed : State := up.setFlow 9 { entry := 1 + 0xFFFF * 2 ^ 8 + 4 * 2 ^ 24, home := 3, waitMax := 0 }

/-- The same with a compiled lay running, of an empty bank. -/
def laid (l : List (Nat × Nat)) : State := upWith ((O.RUNNING_BANK, 0) :: l)

theorem wit_EntriesArePresentedOnce : (up.tickTo 0).entryAt 100000 = none ∧ (up.tickTo 6240).laySteps = true ∧
    ((up.tickTo 6240).entryAt 2).any (fun c => c.2.blk.at (up.tickTo 6240).slotPos && decide ((up.tickTo 6240).now = (up.tickTo 6240).lay.slotAt + eTick c.2.w) &&
      (up.tickTo 6240).memberOf c.2.id == some c.2.id) = true ∧ (up.tickTo 6240).lay.presented = [] ∧
    ((up.tickTo 0).entryAt (8 * bootWindows)).any (fun c => eKind c.2.w == 4 && (up.tickTo 0).memberOf c.2.id == some c.2.id &&
      !((up.tickTo 0).entryWake c.2.id).entShed c.2.id c.2) = true := by decide +kernel

/-- Every kind of resource that an entry names is in service under a compiled lay. -/
theorem wit_SluiceWindowsSetGates : [0x430, 0x433, 0x420, 0x42F, 0x400, 0x41F, 0x438, 0x43B, 0x100, 0x3FF, 0, 1, 2, 3, 8, 9, 10, 11].all (fun id =>
    ((laid []).tickTo 0).serves id (shedAt id)) = true ∧ ((laid [(O.STAGE_NOW, 4)]).tickTo 0).serves 0x430 (shedAt 0x430) = true ∧
    ((laid [(O.STAGE_NOW, 4)]).tickTo 0).serves 8 (shedAt 8) = false ∧ (up.tickTo 0).layRuns = false ∧ ((laid []).tickTo 0).layRuns = true := by decide +kernel

theorem wit_TaskWindowsOpenAndClose : ((up.tickTo 0).hart 2).active = false ∧ (up.tickTo 0).hartState 2 = 2 ∧
    (((up.onHart 2 (fun h => { h with winInfo := 2 ^ 31 })).tickTo 1).hart 2).active = true := by decide

/-- Both DRAM channels READY with one rank, nothing calibrated yet. -/
def dram : State := upWith [(O.CH_STATE 0, 4), (O.CH_STATE 1, 3), (O.DENSITY 0, 1), (O.DENSITY 1, 1)]

theorem wit_CipherAndDramEntries : (dram.tickTo 0).chState (0 / 2) = 4 ∧ (dram.tickTo 0).chState (3 / 2) = 3 ∧
    3 % 2 < ((dram.tickTo 0).chan 1).ranks.length ∧ (up.tickTo 0).chState 1 = 0 ∧ ((dram.tickTo 0).entryWake 0x43B).shedHere 0x43B (shedAt 0x43B) = false ∧
    ((dram.tickTo 400000000).chan 0 |>.rank 0).lastZq + (dram.tickTo 400000000).rd (O.ZQ_PERIOD_MS 0) * msTk ≤ (dram.tickTo 400000000).now := by
  decide

/-- Lanes 0 and 20 IDLE. -/
def lanes : State := upWith [(O.LANE_STATE, 1 + 2 ^ 160)]

theorem wit_BightsAndTestsInTheLay : (lanes.tickTo 0).laneServes 0 = true ∧ (lanes.tickTo 0).laneServes 20 = true ∧
    ((laid []).tickTo 0).memberOf 0x100 = none ∧ poolOf 0x100 = 1 ∧
    (((laid []).onPlc (fun p => { p with map := [(0x100, 0x100)] })).tickTo 0).memberOf 0x100 = some 0x100 ∧ testFits 0x20 0x100 = true ∧
    (((laid []).onPlc (fun p => { p with map := [(0x100, 0x100)] })).tickTo 0).retired 0x100 = false ∧
    ((laid []).tickTo 0).testBlocked 0x100 0x20 = none ∧ (((laid []).tickTo 0).entryWake 0x100).shedHere 0x100 (min 1 (shedAt 0x100)) = false ∧
    (up.tickTo 5).now < 6 := by decide

theorem wit_SlotBoundaryBeginsTheNextSlot : (up.tickTo 2000000).domainUp 8 = true ∧ (up.tickTo 2000000).pwr.s5 = none ∧
    (up.tickTo 2000000).nextSlotAt ≤ (up.tickTo 2000000).now ∧ (up.tickTo 1999999).now < (up.tickTo 1999999).nextSlotAt ∧
    (up.tickTo 0).mac.adopt = none ∧ (up.tickTo 0).lay.stopPending = false := by decide

/-- A bank in LOADED, VERIFIED or ARMED. -/
def bank (n : Nat) : State := up.wr O.LAY_STATUS (n * 2 ^ 12)

theorem wit_LayCommandsMoveTheBank :
    [1, 2, 3, 4, 5].all (fun v => up.takes 0 can1 O.LAY_COMMAND 4 v) = true ∧ ((bank 1).heard 0 can1).layState = 1 ∧
    ((bank 1).heard 0 can1).verifyDomains ((bank 1).heard 0 can1).standby.words = [] ∧ ((bank 3).heard 0 can1).layState = 3 ∧
    ((bank 3).heard 0 can1).rd O.SWAP_ASN = 0 ∧ ((bank 5).heard 0 can1).layState = 5 ∧ (up.heard 0 can1).lifecycle ≠ 4 ∧
    (up.heard 0 can1).bootLay = true ∧ ((upWith [(O.RUNNING_BANK, 0)]).heard 0 can1).bootLay = false ∧
    ((after (.layVerify 0 can1) (bank 1)).tickTo 1).lay.verifyAt.isSome = true ∧ (up.tickTo 0).lay.verifyAt = none := by decide

theorem wit_PlacementCommands :
    [0, 1023, 1024, 0xFFFE, 0xFFFF].all (fun v => up.takes 0 can1 O.HITCH_CLEAR 2 v) = true ∧
    [0, 815, 816, 0x3FF, 0x400, 0x40F, 0x410, 0xFFFF].all (fun v => (served can1).takes 0 can1 O.RETIRED_CLEAR 2 v) = true ∧
    bitAt (((served can1).wr O.RETIRED (2 ^ 815)).heard 0 can1 |>.rd O.RETIRED) 815 = true ∧
    up.takes 0 can1 O.WHY_QUERY 4 (2 ^ 28 + 0x100) = true ∧ whyRange 1 0x100 = true ∧ whyRange 15 0 = false ∧
    (up.tickTo 0).plc.emptiedAt = none ∧ ((owned 0x3102 (some 0)).tickTo 0).forbidClear (((owned 0x3102 (some 0)).tickTo 0).rd O.PAN_RESERVE) = true := by
  decide +kernel

/-- A sensor entry migrating from pan 0 to pan 1, its copy done. -/
def moving : State := up.onPlc (fun p => { p with
  loc := [(1 * 2 ^ 24 + 7, 0x440)]
  migrations := [{ kind := 1, obj := 7, src := 0x440, dst := 0x441, cause := 5, copied := true, due := 0, detail := 0 }] })

theorem wit_PlacementTriggers : ((upWith [(O.TRIGGER_MASK, 0xFF), (O.THERMAL_HIGH_C, 95)]).tickTo 0).triggerOn 0 = true ∧
    ((upWith [(O.TRIGGER_MASK, 0xFF), (O.THERMAL_HIGH_C, 95)]).tickTo 0).rdI O.THERMAL_HIGH_C 16 < 127 ∧ (up.tickTo 20000000).plc.loadAt + 100 * msTk ≤ (up.tickTo 20000000).now ∧
    (up.tickTo 19999999).now < 0 + 100 * msTk ∧ (up.tickTo 0).locOf 1 7 = none ∧
    ((moving.tickTo 0).plc.migrations.find? (fun m => m.kind == 1 && m.obj == 7)).isSome = true ∧
    (((moving.tickTo 0).plc.migrations.find? (fun m => m.kind == 1 && m.obj == 7)).all (fun m => m.copied && (moving.tickTo 0).objRest m)) = true ∧
    (((upWith [(O.PAN_POWER, 2), (O.PAN_STATE, 1)]).tickTo 12000000000).pan 0 = 1) ∧
    ((upWith [(O.PAN_POWER, 2), (O.PAN_STATE, 1)]).tickTo 12000000000).oct O.PAN_POWER 0 = 2 ∧
    ((upWith [(O.PAN_POWER, 2), (O.PAN_STATE, 1)]).tickTo 12000000000).panTests = false := by decide +kernel

/-- Pan 0 holding 49,153 sensor entries, one of them sensor 7, with no pan taking more and DRAM channel 0 fitted. -/
def crowded : State := (upWith [(O.TRIGGER_MASK, 0xFF), (O.DENSITY 0, 1), (O.CH_STATE 0, 4), (O.PAN_STATE, 0), (O.PAN_RESERVE, 0xFFFF)]).onPlc (fun p => { p with
  loc := List.replicate 49153 (objKey 1 7, panLoc 0) })

theorem foldl_add_replicate {α : Type} (f : α → Nat) (x : α) : ∀ n a : Nat, (List.replicate n x).foldl (fun m k => m + f k) a = a + n * f x
  | 0, a => by simp
  | n + 1, a => by
    rw [List.replicate_succ, List.foldl_cons, foldl_add_replicate f x n, Nat.succ_mul]
    omega

theorem wit_demoted_pan : (crowded.tickTo 20000000000000).panFree 0 < 0x100000 := by
  have h : (crowded.tickTo 20000000000000).plc.loc = List.replicate 49153 (objKey 1 7, panLoc 0) := rfl
  have h2 : objSize (objKey 1 7) = 64 := by decide
  unfold State.panFree State.objsAt
  rw [h, List.filter_replicate, if_pos (by decide), List.map_replicate, foldl_add_replicate, h2]
  decide

theorem wit_demoted_full : (crowded.tickTo 20000000000000).hotFits = false := by
  have h : (crowded.tickTo 20000000000000).plc.loc = List.replicate 49153 (objKey 1 7, panLoc 0) := rfl
  have h2 : objSize (objKey 1 7) = 64 := by decide
  have h3 : ((List.range 16).filter (fun p => (crowded.tickTo 20000000000000).pan p == 1 ||
      ((crowded.tickTo 20000000000000).pan p == 0 && !(crowded.tickTo 20000000000000).flag O.PAN_RESERVE p))).length = 0 := by decide +kernel
  have h4 : (crowded.tickTo 20000000000000).panTests = false := by decide +kernel
  unfold State.hotFits
  rw [h, h3, h4, foldl_add_replicate (fun e : Nat × Nat => objSize e.1), h2]
  decide

theorem wit_demoted : (crowded.tickTo 20000000000000).locOf 1 7 = some (panLoc 0) ∧ (crowded.tickTo 20000000000000).triggerOn 4 = true ∧
    (crowded.tickTo 20000000000000).forcedTier 7 = 0 ∧ (crowded.tickTo 20000000000000).hitchSensors.contains 7 = false ∧
    (crowded.tickTo 20000000000000).lastFrame 7 + (crowded.tickTo 20000000000000).rd O.DEMOTE_IDLE_S * secTk ≤ 20000000000000 ∧
    (crowded.tickTo 20000000000000).dwellPast (objKey 1 7) = true ∧ (crowded.tickTo 20000000000000).chServes 0 = true ∧
    (crowded.tickTo 20000000000000).plc.migrations = [] := by decide +kernel

/-- Transceiver 0 READY at channel 0 of 868 MHz, locked, with no window open. -/
def tuned : State := ((laid [(O.CHAN_PLAN 0, 868000000), (O.TRX_STATE 0, 4)]).onTrx 0 (fun x => { x with locked := true }))

/-- The same under a region profile that lets band 0 receive from 863 to 870 MHz. -/
def permitted : State := tuned.onRadio (fun r => { r with profile := 2 * 2 ^ (8 * 16) + 863000000 * 2 ^ (8 * 152) + 870000000 * 2 ^ (8 * 156) })

theorem wit_HopsTuneTheSynthesizer : (permitted.tickTo 0).trxState 0 ≠ 0 ∧ (permitted.tickTo 0).serves 0 (shedAt 0) = true ∧ (permitted.tickTo 0).regMasked 0 false 0 = false ∧ (permitted.tickTo 0).chanFreq 0 0 ≠ 0 ∧ (permitted.tickTo 0).chanFreq 0 1023 = 0 ∧
    (permitted.tickTo 0).calValid 0 0 false = false ∧ (up.tickTo 0).trxState 0 = 0 ∧ (served can1).takes 0 can1 (O.MANUAL_HOP 0) 4 0 = true ∧
    (served can1).takes 0 can1 (O.MANUAL_HOP 2) 4 2047 = true ∧ (served can1).takes 0 can1 (O.MANUAL_HOP 2) 4 2048 = true := by decide +kernel

/-- Transceiver 0 tuning since tick 0. -/
def tuning : State := (upWith [(O.TRX_STATE 0, 3)]).onTrx 0 (fun x => { x with
  tune := some { channel := 5, path := false, since := 0, full := false, miss := false, runs := [] } })

theorem wit_LocksAndTheirFaults : ((tuning.tickTo 2800).trx 0).tune.isSome = true ∧ (tuning.tickTo 2800).trxState 0 ≠ 0 ∧
    ((tuning.tickTo 2800).trx 0).locked = false ∧ ((tuning.onTrx 0 (fun x => { x with tune := none, seeking := true })).trx 0).seeking = true ∧ (0 + 2800 ≤ (tuning.tickTo 2800).now) ∧ ((tuning.tickTo 2799).now < 0 + 2800) ∧
    (0 + 36000 ≤ (tuning.tickTo 36000).now) ∧ ((tuned.tickTo 0).trx 0).locked = true ∧
    (((after (.rxOn 0 0) tuned).tickTo 2000).trx 0).streamsAt = some 2000 ∧ (((after (.rxOn 0 0) tuned).tickTo 2000).trx 0).rxOpen = true := by
  decide

theorem wit_WindowsOfATransceiver : [0, 1, 2, 3].all (fun id => (tuned.tickTo 0).serves id (shedAt id)) = true ∧ ((tuned.tickTo 0).trx 0).blocked = false ∧ (tuned.tickTo 0).trxState 0 ≠ 0 ∧ ((tuned.tickTo 0).trx 0).locked = true ∧ ((tuned.tickTo 0).trx 0).rxSilent = false ∧
    (tuned.tickTo 0).rd (O.PATH 0) ≠ 1 ∧ (((after (.rxOn 0 0) tuned).tickTo 1).trx 0).rxOpen = true ∧
    (((after (.txCell 0 0 0 none 9) tuned).tickTo 1).trx 0).txOpen = true := by decide

/-- Transceiver 0 sends a frame that ends at tick 100. -/
def sending : State := (upWith [(O.TRX_STATE 0, 6)]).onTrx 0 (fun x => { x with
  locked := true, txOpen := true
  tuner := { x.tuner with lastRl := some (-41) }
  tx := some { at_ := 0, ends := 100, stop := 100, cell := 0, hitch := none, ply := false, span := [0], psdu := 0, maskBad := 1,
               allWell := true, measured := false, ended := false } })

theorem wit_TransmissionsAreJudged : (tuned.tickTo 0).trxState 0 ≠ 0 ∧ ((up.tickTo 0).trx 0).locked = false ∧ ((up.tickTo 0).trx 0).blocked = false ∧
    (tuned.tickTo 0).serves 1 (shedAt 1) = true ∧ (tuned.tickTo 0).serves 1 (shedAt 0) = true ∧ ((laid [(O.STAGE_NOW, 4)]).tickTo 0).serves 9 (shedAt 9) = false ∧
    ceType ((up.tickTo 0).cell 0) ∉ [1, 2, 3, 4, 5, 6, 7] ∧ ((sending.tickTo 100).trx 0).tx.isSome = true ∧ 100 ≤ (sending.tickTo 100).now ∧
    (sending.tickTo 99).now < 100 ∧ (((sending.tickTo 0).trx 0).tx.map (fun r => (r.ended, r.maskBad, r.ply))) = some (false, 1, false) ∧ ((sending.tickTo 0).trx 0).tuner.lastRl = some (-41) ∧
    (sending.tickTo 0).maskBad 0 [] = false ∧
    (-40 : Int) < ((sending.tickTo 0).rd (O.RL_INHIBIT 0) : Int) ∧ (served can1).takes 0 can1 (O.TX_INHIBIT_CLEAR 2) 1 1 = true ∧
    (served can1).takes 0 can1 (O.TX_INHIBIT_CLEAR 0) 1 0 = true ∧ (up.tickTo secTk).radio.dutyAt + secTk ≤ (up.tickTo secTk).now ∧
    (up.tickTo (secTk - 1)).now < (up.tickTo (secTk - 1)).radio.dutyAt + secTk := by decide +kernel

/-- A calibration of kind 0 is queued, or its first run is done. -/
def calibrating (run : Bool) : State := (upWith [(O.TRX_STATE 0, 2)]).onTrx 0 (fun x =>
  let q : CalReq := { kind := 0, unit := 0, channel := 0, path := false, runs := if run then [[10]] else [], startup := false }
  if run then { x with calRun := some q } else { x with calQueue := [q] })

theorem wit_CalibrationsAreQueuedAndRun :
    [1, 2, 4, 8, 16, 32].all (fun v => up.takes 0 can1 (O.CAL_COMMAND 1) 4 v) = true ∧
    (tuned.tickTo (3600 * secTk)).trxState 0 ≠ 0 ∧ (tuned.tickTo (86400 * secTk)).rd (O.CAL_PERIOD_S 0) ≠ 0 ∧
    (tuned.tickTo (86400 * secTk)).rd (O.CAL_PERIOD_S 0) * secTk ≤ (tuned.tickTo (86400 * secTk)).now ∧
    (tuned.heard 0 can1).chanFreq 0 0 ≠ 0 ∧ (tuned.heard 0 can1).calValid 0 0 false = false ∧
    (((calibrating false).tickTo 0).trx 0).calQueue.length = 1 ∧ (((calibrating false).tickTo 0).trx 0).calRun = none ∧
    (((calibrating false).tickTo 0).now + 2 * runTk 0 + 400 ≤ min 100000 (((calibrating false).tickTo 0).gapLimit 0)) ∧ (((calibrating true).tickTo 0).trx 0).calRun.isSome = true ∧ calAgree 0 [10] [10] = true ∧
    [0, 1023, 1024, 0xFFFF].all (fun v => up.takes 0 can1 (O.CAL_INVALIDATE 0) 2 v) = true ∧
    bitAt (((upWith [(O.CAL_TABLE 0, 1)]).tickTo 0).calEntry 0 0) 0 = true ∧
    ((upWith [(O.CAL_TABLE 0, 1)]).tickTo 0).rd (O.SYNTH_STALE_C 0) ≤ ((120 : Int) - calTemp (((upWith [(O.CAL_TABLE 0, 1)]).tickTo 0).calEntry 0 0)).natAbs := by
  decide +kernel

/-- Stream 0 enabled on profile 0, a 2-FSK profile of MAX_PSDU 127 and threshold 0; lane 0 in a state, its window and reception as given. -/
def lane0 (state : Nat) (rx : Option Reception) : State :=
  (laid [(O.STREAM_TABLE, 2 ^ 35), (O.PROFILES, 127 * 2 ^ 19), (O.STREAM_VALID, 1), (O.LANE_STATE, state)]).onRx (fun r => { r with
    lanes := [(0, { role := .cell true, stream := 0, profile := 0, cell := 0, hitch := none, closes := 1000000, stays := false, rx := rx })] })

/-- A reception on stream 0 since tick 0, its SFD due at tick 90. -/
def hearing : Reception :=
  { stream := 0, metric := 5, profNo := 0, prof := 127 * 2 ^ 19, start := 0, deadline := 90, gain := 0, sfdAt := 0, freqErr := 0, snr := 0, header := none,
    captured := false, preempted := false, diversity := false, own := false }

theorem wit_LaneWindowsOpenAndClose : ((lane0 1 none).tickTo 0).laneServes 0 = true ∧ strEnable (((lane0 1 none).tickTo 0).streamEntry 0) = true ∧
    prMode (((lane0 1 none).tickTo 0).profile 0) = 0 ∧ cellMisfit (((lane0 1 none).tickTo 0).profile 0) (strWidth (((lane0 1 none).tickTo 0).streamEntry 0)) = false ∧
    ((lane0 1 none).tickTo 0).serves 0x100 (min (shedAt 0x100) (streamShedAt 0)) = true ∧ ((lane0 1 none).tickTo 0).serves 0x100 (min 2 (min (shedAt 0x100) (streamShedAt 0))) = true ∧
    ((lane0 1 none).tickTo 0).rx.gangsOut = [] ∧
    ((lane0 9 none).tickTo 0).laneServes 0 = false ∧ strEnable (((lane0 1 none).tickTo 0).streamEntry 1) = false := by decide

theorem wit_DetectionsStartReceptions : ((lane0 2 none).tickTo 50).searchProfile 0 = 0 ∧ ((lane0 2 none).tickTo 50).streamValid 0 = true ∧
    prThresh (((lane0 2 none).tickTo 50).profile 0) ≤ rakeMetric noCorr ∧ noCorr.step.natAbs ≤ bits (((lane0 2 none).tickTo 50).profile 0) 64 8 ∧
    ((lane0 2 none).tickTo 50).trackedMetric 0 = none ∧ ((laid [(O.TRIGGER_MASK, 0), (O.STREAM_TABLE, 2 ^ 35), (O.STREAM_VALID, 1)]).tickTo 0).triggerOn 2 = false ∧
    (((lane0 2 none).tickTo 50).lanesOn 0 (fun x => x.armed && x.profile == 0)).find? (fun k => ((lane0 2 none).tickTo 50).laneState k == 2) = some 0 ∧
    ((lane0 3 none).tickTo 50).laneState 0 = 3 ∧ (((lane0 3 none).tickTo 50).lane 0).isSome = true ∧
    ((lane0 5 (some hearing)).tickTo 90).laneState 0 = 5 ∧ (((lane0 5 (some hearing)).tickTo 90).lane 0).any (fun x => x.gang == none && x.rx == some hearing) = true ∧
    hearing.deadline ≤ ((lane0 5 (some hearing)).tickTo 90).now ∧ ((lane0 5 (some hearing)).tickTo 89).now < hearing.deadline := by decide +kernel

/-- A frame of lane 0 in its back end. -/
def inBack (mode : Nat) : State := up.onRx (fun r => { r with
  back := [(0, { rx := { hearing with prof := mode }, role := .cell true, cell := 0, hitch := none, endAt := 0, slotAsn := 0, slotAt := 0, segments := 0 })] })

theorem wit_FramesAreDelivered : ((lane0 6 (some hearing)).tickTo 0).laneState 0 = 6 ∧ phrFails hearing.prof (.fsk false false false false 0) = some O.LANE_LEN_ZERO ∧
    phrFails hearing.prof (.fsk false false false false 3) = some O.LANE_LEN_SHORT ∧ phrFails hearing.prof (.fsk false false false false 4) = none ∧
    phrFails hearing.prof (.fsk false true false false 5) = some O.LANE_LEN_SHORT ∧ phrFails hearing.prof (.fsk false false false false 127) = none ∧
    phrFails hearing.prof (.fsk false false false false 128) = some O.LANE_LEN_OVER ∧ ((lane0 7 (some hearing)).tickTo 0).laneState 0 = 7 ∧ codedUnknown hearing.prof (.fsk false false false false 4) = false ∧ plyHeaderBad 1 = true ∧
    (look ((inBack 0).tickTo 0).rx.back 0).any (fun f => prMode f.rx.prof == 0) = true ∧ (look ((inBack 3).tickTo 0).rx.back 0).any (fun f => prMode f.rx.prof == 3) = true ∧
    up.takes 0 can1 O.SOUND_COMMAND 1 7 = true ∧ up.takes 0 can1 O.FALLBACK_COMMAND 1 7 = true ∧ (up.heard 0 can1).plyEntry 7 = none := by decide +kernel

/-- A reassembly, a datagram and a waiting update of sensor 7; LISTENING for a parent since tick 0. -/
def macs : State := (up.wr O.RELAY_STATE 4).onMac (fun m => { m with
  reasm := [{ sensor := 7, size := 100, tag := 1, pieces := [], at_ := 0 }]
  down := [{ id := 3, sensor := 7, cls := 3, flow := 0, hitch := none, at_ := 0, expires := 50, data := [], psdus := [], total := 0, attempts := 0,
             tries := 0, aired := false }]
  updates := [(8, can1, 5)] })

theorem wit_MacTimersExpire : (∃ x ∈ (macs.tickTo (up.rd O.REASM_TIMEOUT_S * secTk)).mac.reasm, x.sensor = 7 ∧ x.size = 100 ∧ x.tag = 1 ∧
      x.at_ + (macs.tickTo (up.rd O.REASM_TIMEOUT_S * secTk)).rd O.REASM_TIMEOUT_S * secTk ≤ (macs.tickTo (up.rd O.REASM_TIMEOUT_S * secTk)).now) ∧
    ((macs.tickTo 50).mac.down.find? (fun d => d.id == 3)).any (fun d => decide (d.expires ≤ 50) && decide (49 < d.expires)) = true ∧
    ((macs.tickTo 50).mac.updates.find? (fun y => y.1 == 8)).isSome = true ∧ (macs.tickTo 50).sensorBusy 8 = false ∧
    (macs.tickTo 50).relayState = 4 := by
  refine ⟨⟨_, List.mem_singleton.mpr rfl, ?_⟩, ?_⟩ <;> decide

/-- Sensor 0 registered with EUI 9, the requester's entry naming the same. -/
def sensed : State := (up.onMac (fun m => { m with sensors := [(0, 2 ^ 80 + 9)] })).wrReq can1 O.SENSOR_ENTRY 9

theorem wit_SensorCommandsKeepTheTable : [1, 2, 3, 4, 5, 6].all (fun v => up.takes 0 can1 O.SENSOR_COMMAND 1 v) = true ∧
    (sensed.heard 0 can1).addressTaken none (sensorClean (setBit ((sensed.heard 0 can1).rdReq can1 O.SENSOR_ENTRY) 80)) = true ∧
    seValid ((sensed.heard 0 can1).sensor 0) = true ∧ seValid ((up.heard 0 can1).sensor 0) = false ∧ (sensed.heard 0 can1).hitchSensors.contains 0 = false ∧
    (sensed.heard 0 can1).sensorAt 3 (9 * 2 ^ 56) = some 0 ∧ (up.heard 0 can1).sensorAt 3 (9 * 2 ^ 56) = none ∧
    (up.heard 0 can1).addressTaken none (sensorClean (setBit ((up.heard 0 can1).rdReq can1 O.SENSOR_ENTRY) 80)) = false := by decide +kernel

/-- Channel 0 READY with 1 GiB, root key 5, the record of slot 5 sealed under it and being fetched, an import whose one entry does not unwrap
under any key waiting, a rewrap running. -/
def keyed : State :=
  let s := ((upWith [(O.CH_STATE 0, 4), (O.DENSITY 0, 1), (O.RANKS 0, 1)]).onOtp (fun o => { o with
    areas := [(3, [{ value := 5, valid := true, blank := false, retired := false }]), (4, [{ value := 2, valid := true, blank := false, retired := false }])] }))
  let r := 5459066803898384866814943880673278803639808649495231492599992095181434288048119221361084629901139240031429191965856966260739278813492926798141360410984453
  (s.memWrite (s.storeBase + 320) (octets r 64)).onCph (fun c => { c with
    fetches := [{ slot := 5, ver := 0, rec_ := r }], importLeft := [List.replicate 8 0], importPoint := List.replicate 64 0, rewrapFrom := some 0 })

theorem keyed_quiet : (keyed.tickTo 0).memQuiet := quiet_of (by decide +kernel) (by decide +kernel) (by decide +kernel) (by decide +kernel)

/-- The vector of FIPS 197 for AES-256, the cipher of the key wrap. -/
theorem test_aes :
    let k := aesKeys (List.range 32)
    let p := (List.range 16).map (17 * ·)
    let c := [0x8E, 0xA2, 0xB7, 0xCA, 0x51, 0x67, 0x45, 0xBF, 0xEA, 0xFC, 0x49, 0x90, 0x4B, 0x49, 0x60, 0x89]
    aesEnc k p = c ∧ aesDec k c = p := by decide +kernel

/-- The same with the session held by client 1. -/
def keyedSvc : State := keyed.onJot (fun j => { j with svc := { j.svc with holder := some can1 } })

/-- Whether an entry of an import unwraps rests on the device's private key, which no proof can see; what it needs beside is met here. -/
theorem wit_KeyStoreImportsAndDeletes : (keyedSvc.takes 0 can1 O.KEY_IMPORT 112 5 = true) ∧ (keyed.tickTo 0).cph.importLeft.length = 1 ∧
    ((keyed.tickTo 0).keySlot 5).seq = 1 ∧ ((keyed.tickTo 0).keySlot 5).kind = 1 ∧ (keyed.tickTo 0).chState 0 = 4 ∧ (keyed.tickTo 0).chServes 0 = true ∧
    (keyed.tickTo 0).storeBase ≠ 0 ∧ (keyed.tickTo 0).rootKey (keyed.tickTo 0).rootGen = some (octets 5 32) ∧
    keyedSvc.takes 0 can1 O.KEY_DELETE 4 5 = true ∧ keyedSvc.takes 0 can1 O.SLOT_QUERY 4 1048575 = true ∧
    ((keyed.tickTo 0).cph.fetches.find? (fun f => f.slot == 5)).any (fun f => rcKind f.rec_ == 1 && f.ver == ((keyed.tickTo 0).keyNote 5).ver) = true ∧
    (keyed.tickTo 0).cph.cache.length < (keyed.tickTo 0).rd O.CACHE_CAPACITY ∧ (keyed.tickTo 0).cached 5 = false ∧ (keyed.tickTo 0).cph.rewrapFrom = some 0 ∧
    (keyed.tickTo 0).storeSlots = [5] := by decide +kernel

theorem wit_key_record : ((keyed.tickTo 0).unsealRecord 5 ((keyed.tickTo 0).record 5)).isSome = true ∧ (keyed.tickTo 0).recordPoisoned 5 = false := by decide +kernel

/-- A job on engine 1 since tick 0: ten operations of two ticks, class 3. -/
def working : State := (up.wrOct O.ENGINE_STATE 1 2).onCph (fun c => { c with
  preempt := [(1, 7)]
  jobs := [job0 6 1 2 3 true, job0 7 99 0 0 false] })
where
  /-- A job. -/
  job0 (id engine state cls : Nat) (early : Bool) : Job :=
    { id := id, op := 0, level := 5, cls := cls, hitch := none, early := early, restarted := false, slot := 0, hdr := [], text := List.replicate 64 0, tag := [], psduLen := 0, state := state, released := 0, engine := engine, inAddr := 0, outAddr := 0, flow := 0, nonce := 0, descAddr := 0, use := .tx 0, ops := 10, done := 0, ver := 0, kind := 1, key := [], startedAt := 0, atInput := false }

theorem wit_CipherEnginesRunTheirCounts : ((working.tickTo 0).jobOn 1).any (fun j => j.early && decide (j.released + 16 < j.textLen) && decide (j.op % 2 = 0) &&
      !j.result.2 && decide (j.cls ≠ 0)) = true ∧
    ((working.tickTo 1000000).jobOn 1).any (fun j => decide (j.startedAt + (j.ops - j.done) * j.opTk ≤ 1000000) && decide (0 < j.startedAt + (j.ops - j.done) * j.opTk)) = true ∧
    (working.tickTo 0).jobOn 0 = none ∧ ((working.tickTo 0).cph.preempt.find? (fun x => x.1 == 1)).any (fun x =>
      ((working.tickTo 0).cph.jobs.find? (fun j => j.id == x.2)).isSome) = true ∧ (working.tickTo 0).engine 1 ≠ 1 := by decide

/-- A frame of a port. -/
def frame0 : EthFrame :=
  { num := 1, src := 0, hint := 1, cls := 1, data := [], oversize := false, at_ := 0, sensor := 0, hitch := none, queue := 0, enqAt := 0, paused := 0, waits := false,
    overrun := false, host := none, ptp := none, taints := [], badFcs := false, desc := none }

/-- Ports 0 and 3 UP at 10 Gb/s; port 0 sends a frame until tick 40, and priority 2 is paused until tick 30. -/
def ports : State := (upWith [(O.LINK 0, 1), (O.LINK 3, 1), (O.RATE_MBPS 0, 10000), (O.RATE_MBPS 3, 10000), (O.MODE 1, 4), (O.OAM_ENABLE 3, 1), (O.PAUSED 0, 4)]).onPort 0 (fun p => { p with
  tx := some { frame := frame0, stamp := 0, start := 0, stop := 40, wire := 64, cut := false }, pauses := [(2, (0, 30))] })

theorem wit_PortsReceiveAndSend : (ports.tickTo 1000).portPowered 0 = true ∧ (ports.tickTo 1000).isUp 3 = true ∧ (ports.tickTo 1000).isUp 1 = false ∧
    ((ports.tickTo 1000).port 3).restartAt = 0 ∧ (ports.tickTo 1000).rd (O.MODE 1) ≠ 0 ∧ (ports.tickTo 0).portPowered 1 = true ∧
    (ports.tickTo secTk).eth.oamAt + secTk ≤ (ports.tickTo secTk).now ∧ (ports.tickTo 0).flag (O.OAM_ENABLE 3) = true ∧
    ((ports.tickTo 40).port 0).tx.any (fun x => decide (x.stop ≤ 40) && decide (39 < x.stop)) = true ∧
    look ((ports.tickTo 30).port 0).pauses 2 = some (0, 30) ∧ (ports.tickTo 1000).tooLong 3 (List.replicate 60 0) = false ∧
    (let f := List.replicate 60 (0 : Byte) ++ ethFcs false (List.replicate 60 0)
     decide (f.drop (f.length - 4) = ethFcs false (f.take (f.length - 4)))) = true ∧
    0 ≤ (ports.tickTo 1000).now - bitsTk ((ports.tickTo 1000).rate 3) 512 ∧ State.reset.portPowered 0 = false := by decide +kernel

/-- The clauses of a received frame's length do not overlap: 63 octets are a runt, 64 are not; 16,383 are no jabber, 16,384 are. -/
theorem wit_frame_lengths : ¬ (63 < 63) ∧ (63 < 64) ∧ (16383 ≤ 16383) ∧ ¬ (16384 ≤ 16383) := by decide

theorem wit_RulesClassifyFrames : [1, 2, 3, 4].all (fun v => up.takes 0 can1 O.RULE_COMMAND 1 v) = true ∧
    ruleBad ((up.heard 0 can1).rdReq can1 O.RULE_DATA) = false ∧ (up.heard 0 can1).rdReq can1 O.RULE_INDEX ≤ 8191 ∧
    8191 < ((up.wrReq can1 O.RULE_INDEX 8192).heard 0 can1).rdReq can1 O.RULE_INDEX ∧ (nextParse [frame0]).isSome = true ∧ (∀ e ∈ (up.tickTo 0).eth.past, e.1 ≤ frame0.at_) ∧
    up.takes 0 can1 O.HOST_TAIL 4 5 = true ∧ (up.heard 0 can1).rd O.HOST_RING_SIZE = 0 ∧
    ((upWith [(O.HOST_RING_SIZE, 65536)]).heard 0 can1).rd O.HOST_RING_SIZE ≤ 65536 := by decide +kernel

/-- Time LOCKED to source 1, source 3 qualified since tick 0; a timestamp of hitch frame 6 waits at port 2. -/
def timed : State := (upWith [(O.TIME_STATE, 2), (O.SOURCE_NOW, 1), (O.PPS_ENABLE, 1), (O.PPS_EDGE, 0)]).onTim (fun m => { m with
  sources := [(3, { qualified := true, qualAt := 0, progress := 0, last := 0 })], ppsAt := some 0, ppsCount := true, tsq := [(2, [6 * 2 ^ 16])] })

theorem wit_TimeFollowsItsSources : (timed.tickTo 180000000).timeUp = true ∧ (timed.tickTo 180000000).flag O.PPS_ENABLE = true ∧
    (timed.tickTo 180000000).tim.ppsAt = some 0 ∧ (timed.tickTo 179999999).now < 0 + 180000000 ∧ (0 + 220000000 ≤ (timed.tickTo 220000000).now) ∧
    (timed.tickTo 0).tim.ppsRow = 0 ∧ (timed.tickTo 0).tim.ppsCount = true ∧ up.takes 0 can1 O.PPS_NEXT_S 8 (2 ^ 64 - 1) = true ∧
    ((timed.tickTo 0).source 3).qualified = true ∧ (timed.tickTo 0).timeState = 2 ∧ ((upWith [(O.TIME_STATE, 3)]).tickTo 0).timeState = 3 ∧
    timed.takes 0 can1 (O.TS_POP 2) 4 6 = true ∧ (timed.heard 0 can1).tsq 2 = [6 * 2 ^ 16] ∧ bits (6 * 2 ^ 16) 16 32 = 6 := by decide

/-- PTP runs on port 1 in a state, as master 6 or slave 9. -/
def ptp1 (st : Nat) : State := upWith [(O.LINK 1, 1), (O.PORT_STATE 1, st), (O.ENABLE 1, 1), (O.CLOCK_ROLE, 1)]

theorem wit_PtpPortsKeepTheirTimers : ((ptp1 6).tickTo secTk).ptpOn 1 = true ∧ ((ptp1 6).tickTo secTk).ptpState 1 = 6 ∧
    ((ptp1 6).tickTo (100 * secTk)).syncTk 1 ≤ 100 * secTk ∧ ((ptp1 6).tickTo (100 * secTk)).announceTk 1 ≤ 100 * secTk ∧
    ((ptp1 9).tickTo secTk).ptpState 1 = 9 ∧ ((upWith [(O.CLOCK_ROLE, 0)]).tickTo 0).ptpOn 1 = false := by decide

theorem wit_HartStartStartsParkedHarts : up.takes 0 can1 O.HART_START 2 0x8001 = true ∧
    ((upWith [(O.HART_STATE, 1)]).heard 0 can1).hartState 0 = 1 ∧ (up.heard 0 can1).hartState 15 ≠ 1 ∧ bitAt 0x8001 15 = true ∧ bitAt 0x8001 1 = false := by
  decide

/-- Item 4 of flow 9 in service with hart 3 since tick 0, and a kept buffer. -/
def serving : State := (flowed.wr O.SERVICE_LIMIT_US 1).onCores (fun c => { c with
  serving := [{ item := { seq := 4, flow := 9, addr := 0x100000000, source := 1, requeued := false, c0 := false, taints := [], arg := 0, readyOn := none,
                          readyAt := 0, frame := some 1 }, hart := 3, since := 0, cancelled := false, limitCounted := false, forwarded := false }]
  kept := [(0x100000040, [])] })

theorem wit_TaskPortServesItems : (serving.tickTo 0).hartRuns 3 = true ∧ State.reset.hartRuns 3 = false ∧ (serving.tickTo 0).nextItem 0 = none ∧
    ((serving.tickTo 0).heldItem 3 4).any (fun x => x.item.frame == some 1) = true ∧ (serving.tickTo 0).heldItem 3 5 = none ∧
    (serving.tickTo 0).heldCancelled 3 = false ∧ (serving.tickTo 0).flowC0 9 = false ∧ (serving.tickTo 0).flowDepthNow 9 < flowDepth ((serving.tickTo 0).flow 9).entry ∧
    (serving.tickTo 0).poolOpen ≠ 0 ∧ flowDepth (((flowed.setFlow 8 { entry := 1, home := 0, waitMax := 0 }).tickTo 0).flow 8).entry = 0 ∧
    (((after (.taskEnq 0 3 0x100000000 9) flowed).tickTo 1).nextItem 3).isSome = true ∧ 0 + 200 < (serving.tickTo 201).now ∧
    (serving.tickTo 200).now ≤ 0 + (serving.tickTo 200).rd O.SERVICE_LIMIT_US * 200 := by decide

theorem wit_FlowCommandsKeepTheContexts : [1, 2, 3, 4].all (fun v => up.takes 0 can1 O.FLOW_COMMAND 1 v) = true ∧
    flowClass (((up.wrReq can1 O.FLOW_ENTRY 0).heard 0 can1).rdReq can1 O.FLOW_ENTRY) = 0 ∧
    flowClass (((up.wrReq can1 O.FLOW_ENTRY 0xFFFF01).heard 0 can1).rdReq can1 O.FLOW_ENTRY) = 1 ∧ flowMask 0xFFFF01 ≠ 0 ∧
    (∀ i ∈ (up.heard 0 can1).cores.queued, i.flow = 0 → i.frame = none) := by decide

/-- The SHA-256 of the key that `image` carries. -/
def imageHash : Nat := 0x31801acfde846d0985aed2b3c39217f8b0cbc4905819aca7e35fdcf336cfc1cb

/-- A boot image of 16 zero octets, signed with the key whose private half is 12,345 and accepted under its hash. -/
def image : BootImage :=
  { readable := true, formed := true, length := 400, key := 0xe6d07258747040bf316f4b74055205e75ad24d70670c150d33bbc79cde8b239012d8daf9e921f9f9c99c645b9433f7b222913a8be18791664ae3e90ebdceef26, sig := 0x5ced5ba9ccbb0ce8aa82a6915cf4f4f950113a0891d33357c8dd8361ef99a42f8fea16fa4034c4f71b9d81705687d34999bca3a331098b0486a3e5c0dbff0e10, head := [], loadAddr := 0x100000000, entry := 0x100000000, bodyLen := 16, body := 0 }

/-- The boot key hash is `imageHash`, the pans ON, and hart 0 has yet to boot or waits for a recovery image. -/
def booting (waits : Bool) : State :=
  let s := (upWith [(O.BOOT_KEY_HASH, imageHash), (O.PAN_POWER, 0x02020202020202020202020202020202), (O.BOOT_STATUS, 3), (O.WDT_PERIOD_MS, 10)]).onOtp (fun o => { o with
    areas := [(0, [{ value := imageHash, valid := true, blank := false, retired := false }])] })
  s.onPwr (fun p => { p with boot := !waits })

theorem wit_HartsBootAndAreWatched : ((booting false).tickTo 0).bootReady = true ∧ (up.tickTo 0).bootReady = false ∧ ((booting false).tickTo 0).bootResult image = 0 ∧
    ((booting false).tickTo 0).bootResult { image with sig := image.sig + 1 } = 3 ∧ ((booting true).heard 0 can1).bootWaits = true ∧
    (((booting true).onJot (fun j => { j with svc := { j.svc with holder := some can1 } })).heard 0 can1 |>.writeCheck can1 (O.RECOVERY_IMAGE / 256) (O.RECOVERY_IMAGE % 256) image.length |>.toOption.isSome) = true ∧
    up.takes 0 can1 O.WDT_KICK 4 0x5A5A = true ∧ up.takes 0 can1 O.WDT_KICK 4 0x5A5B = true ∧ ((booting true).tickTo 1000000).wdtTk = 2000000 ∧
    2 * ((booting true).tickTo 1000000).cores.wdtAt + 2000000 ≤ 2 * ((booting true).tickTo 1000000).now ∧
    ((booting true).tickTo 2000000).cores.wdtAt + 2000000 ≤ ((booting true).tickTo 2000000).now ∧ (up.tickTo 0).wdtTk = 0 ∧
    (up.tickTo (100 * msTk)).cores.loadAt + 100 * msTk ≤ (up.tickTo (100 * msTk)).now ∧ (up.tickTo 0).jtagOpen = true ∧ (up.tickTo 0).idPowered 0x42F = true ∧
    ((up.onHart 2 (fun h => { h with winInfo := 2 ^ 31 })).tickTo 0 |>.hart 2).deferred = none := by decide +kernel

theorem wit_MemoryIsReadAndWritten : (panned.tickTo 0).memServed 0x100000000 = true ∧ (panned.tickTo 0).memServed 0x103FFFFFF = true ∧
    (panned.tickTo 0).memServed 0x104000000 = false ∧ whereIs 0x100000010 = .brine 0 0x10 ∧ (panned.tickTo 0).cph.zeroed = [] ∧
    (dram.tickTo 0).chState (1 - 1) = 4 ∧ (dram.tickTo 0).rd (O.CH_SCRUB_PERIOD_S 0) ≠ 0 ∧ (panned.tickTo 0).rd O.MEM_SCRUB_PERIOD_S = 0 ∧
    ((upWith [(O.PAN_POWER, 1)]).tickTo 0).oct O.PAN_POWER 0 = 1 ∧ ((upWith [(O.PAN_STATE, 0)]).tickTo 0).pan 0 = 0 ∧
    panned.takes 0 can1 O.PAN_RETAIN_REQ 2 2 = true ∧ panned.takes 0 can1 O.PAN_RETAIN_REQ 2 1 = true ∧ (panned.heard 0 can1).flag O.PAN_RESERVE 1 = true ∧
    (panned.heard 0 can1).flag O.PAN_RESERVE 0 = false := by decide

/-- Channel 1 in a state. -/
def chan1 (st : Nat) : State := upWith [(O.CH_STATE 1, st), (O.DENSITY 1, 1)]

theorem wit_DramChannelsChangeState : [1, 2, 4].all (fun v => up.takes 0 can1 (O.CH_COMMAND 1) 4 v) = true ∧
    up.takes 0 can1 (O.CH_COMMAND 1) 4 (3 + 1 * 2 ^ 8 + 2 ^ 10) = true ∧ [0, 1, 2, 3, 4, 5, 6].all (fun n => ((chan1 n).heard 0 can1).chState 1 == n) = true ∧
    ((chan1 4).heard 0 can1).rd (O.RATE_NOW 1) ≠ 2 ∧ (((chan1 4).heard 0 can1).chan 1).training = none ∧
    (((upWith [(O.CH_STATE 1, 4), (O.SR_IDLE_NS 1, 1000)]).tickTo 200).chan 1).lastRequest + ceilDiv 1000 5 ≤ 200 ∧
    ((((chan1 5).onChan 1 (fun c => { c with idle := true })).tickTo 0).chan 1).idle = true ∧
    ((((chan1 6).onChan 1 (fun c => { c with change := some (2, false) })).tickTo 0).chan 1).change = some (2, false) ∧
    (((chan1 4).tickTo (secTk * 1000)).chan 1 |>.rank 1).lastZq + 2 * 1 * ((chan1 4).tickTo (secTk * 1000)).rd (O.ZQ_PERIOD_MS 1) * msTk ≤ secTk * 1000 := by
  decide

/-- Channel 1 gathers a READ_EYE step whose first run found 98 and 151. -/
def training (n : Nat) : State := (chan1 4).onChan 1 (fun c => { c with
  training := some { rank := 0, step := 3, gathering := true, runs := List.replicate n [(98, 151)] } })

theorem wit_TrainingRunsUntilTwoAgree : up.takes 0 can1 O.TRAIN_COMMAND 4 0x31 = true ∧ (((training 1).tickTo 0).chan 1).training.isSome = true ∧
    (((training 4).tickTo 0).chan 1).training.any (fun k => k.gathering && decide (k.runs.length = 4) && k.runs.getLast? == some [(98, 151)]) = true ∧
    (((training 0).tickTo 0).chan 1).training.any (fun k => k.runs.isEmpty) = true ∧ runsAgree 3 [(98, 151)] [(103, 152)] = true ∧
    runsAgree 3 [(98, 151)] [(104, 154)] = false ∧ (up.tickTo 0).reaches can1 = true ∧
    ((chan1 3).heard 0 can1 |>.writeCheck can1 (O.TRAIN_TABLE 1 / 256) (O.TRAIN_TABLE 1 % 256) 1536 |>.toOption.isSome) = true := by decide

/-- A request for domain 4 waits for the SLOW edge at tick 6,250. -/
def asked (k len v : Nat) (l : List (Nat × Nat)) : State := (upWith l).onJot (fun j => { j with slow := [slowOf can1 k len v 6250] })

theorem applies_of {s : State} {t : Tick} {r : Req} {k len v due : Nat} (h : (s.tickTo t).reaches r = true)
    (h' : (s.tickTo t).jot.slow = [slowOf r k len v due]) (hd : due ≤ (s.tickTo t).now) : s.appliesAt t r k len v := ⟨h, due, h', hd⟩

theorem asked_at (k len v : Nat) (h : ((asked k len v []).tickTo 6250).reaches can1 = true)
    (h' : ((asked k len v []).tickTo 6250).jot.slow = [slowOf can1 k len v 6250]) : (asked k len v []).appliesAt 6250 can1 k len v :=
  applies_of (due := 6250) h h' (by show 6250 ≤ max _ 6250; omega)

theorem applies_domain_req : (asked O.DOMAIN_REQ 2 772 []).appliesAt 6250 can1 O.DOMAIN_REQ 2 772 :=
  asked_at _ _ _ (by decide +kernel) (by decide +kernel)

theorem applies_fault_clear : (asked O.FAULT_CLEAR 2 0x10 [(O.DOMAIN_STATE, 0x600000000)]).appliesAt 6250 can1 O.FAULT_CLEAR 2 0x10 :=
  applies_of (due := 6250) (by decide +kernel) (by decide +kernel) (by decide +kernel)

theorem applies_sleep_req : (asked O.SLEEP_REQ 1 1 []).appliesAt 6250 can1 O.SLEEP_REQ 1 1 :=
  asked_at _ _ _ (by decide +kernel) (by decide +kernel)

theorem wit_PowerRequestsWaitForTheEdge :
    (asked O.DOMAIN_REQ 2 772 []).appliesAt 6250 can1 O.DOMAIN_REQ 2 772 ∧
    (asked O.FAULT_CLEAR 2 0x10 [(O.DOMAIN_STATE, 0x600000000)]).appliesAt 6250 can1 O.FAULT_CLEAR 2 0x10 ∧
    (asked O.SLEEP_REQ 1 1 []).appliesAt 6250 can1 O.SLEEP_REQ 1 1 ∧
    [4, 260, 516, 772, 0, 15].all (fun v => up.stages 0 can1 O.DOMAIN_REQ 2 v) = true ∧
    up.stages 0 can1 O.FAULT_CLEAR 2 0x10 = true ∧
    up.stages 0 can1 O.SLEEP_REQ 1 1 = true ∧
    ((asked O.DOMAIN_REQ 2 772 []).tickTo 6250).offRefused 4 = none ∧
    ((asked O.DOMAIN_REQ 2 772 []).tickTo 6250).domain 4 ≤ 1 ∧
    ((asked O.DOMAIN_REQ 2 770 []).tickTo 6250).offRefused 5 ≠ none ∧
    ((asked O.DOMAIN_REQ 2 4 [(O.DOMAIN_STATE, 0x300000000)]).tickTo 6250).domain 4 = 3 ∧
    ((asked O.DOMAIN_REQ 2 4 [(O.DOMAIN_STATE, 0x300000000)]).tickTo 6250).wakeRefused 4 = none ∧
    ((asked O.DOMAIN_REQ 2 4 [(O.DOMAIN_STATE, 0x300000000), (O.STAGE_NOW, 2)]).tickTo 6250).wakeRefused 4 = some 1 ∧
    ((asked O.DOMAIN_REQ 2 4 [(O.DOMAIN_STATE, 0x300000000)]).tickTo 6250).prereqsUp 4 = true ∧
    ((asked O.SLEEP_REQ 1 1 []).tickTo 6250).pwr.s5 = none ∧
    ((asked O.SLEEP_REQ 1 1 []).tickTo 6250).rd O.RUNNING_SECTION = 5 :=
  ⟨applies_domain_req, applies_fault_clear, applies_sleep_req, by decide +kernel⟩

/-- Domain 4 wakes on a step since tick 0. -/
def waking (step attempt : Nat) (waiting : Bool) : State := (upWith [(O.DOMAIN_STATE, 0x400000000)]).onPwr (fun p => { p with
  wakes := [(4, { step := step, attempt := attempt, at_ := 0, waiting := waiting, origin := 3 })] })

theorem wit_DomainsMoveByTheirTable :
    ((upWith [(O.TIMERS, 5 * 2 ^ 256)]).tickTo 0).idleUs 4 = 5 ∧ ((upWith [(O.TIMERS, 5 * 2 ^ 256)]).tickTo 0).domainBusy 4 = false ∧
    ((upWith [(O.TIMERS, 5 * 2 ^ 256)]).tickTo 0).laySoon 4 = false ∧ ((upWith [(O.DOMAIN_STATE, 0x100000000)]).tickTo 0).domain 4 = 1 ∧
    (let s := (upWith [(O.DOMAIN_STATE, 0x100000000), (O.TIMERS, 5 * 2 ^ 288)]).onPwr (fun p => { p with idleAt := [(4, 0)] })
     (s.tickTo 1000000).dozeMs 4 = 5 ∧ look (s.tickTo 1000000).pwr.idleAt 4 = some 0 ∧ (s.tickTo 1000000).offRefused 4 = none) ∧
    look ((up.onPwr (fun p => { p with entering := [(4, { target := 3, origin := 0 })] })).tickTo 0).pwr.entering 4 = some { target := 3, origin := 0 } ∧
    ((waking 1 1 false).tickTo 0).pwr.relock = false ∧ (wakeSteps 4).find? (fun x => decide (1 < x)) = some 3 ∧ (wakeSteps 4).find? (fun x => decide (4 < x)) = none ∧
    (look ((waking 4 1 false).tickTo 0).pwr.wakes 4).isSome = true ∧ 0 + stepTk 1 ≤ ((waking 1 1 false).tickTo 400000).now ∧
    ((waking 1 1 false).tickTo 399999).now < 0 + stepTk 1 ∧ (look ((waking 1 3 false).tickTo 0).pwr.wakes (unitKey 4 none)).any (fun w => decide (3 ≤ w.attempt)) = true ∧
    0 + 20000 ≤ ((waking 1 1 true).tickTo 20000).now ∧ ((waking 1 1 true).tickTo 19999).now < 0 + 20000 ∧ (up.tickTo 0).domain 4 = 0 ∧
    ((waking 1 1 false).tickTo 0).domain 4 = 4 := by decide +kernel

/-- In SLEEP since tick 0 with every wake source enabled, the TIMER after 2 s. -/
def asleep : State := ((State.reset.wr O.WAKE_MASK 0xF).wr O.WAKE_AFTER_S 2).onPwr (fun p => { p with sleepAt := some 0, hold := none })

/-- The S5 sequence since tick 0, one gasp due, its journal record to be written. -/
def gasping : State := up.onPwr (fun p => { p with
  s5 := some { at_ := 0, prev := 4, due := 1, sent := 0, good := 0, lastAt := 0, vin := 8000, journal := true } })

theorem wit_SupplyAndSleepFollowTheInput : (asleep.tickTo 0).flag O.WAKE_MASK 3 = true ∧ (asleep.tickTo 0).pwr.sleepAt.isSome = true ∧ (asleep.tickTo 0).domain 1 = 3 ∧
    0 + 2 * 200000000 ≤ (asleep.tickTo 400000000).now ∧ (up.tickTo 0).domain 1 ≤ 1 ∧ 1 < State.reset.domain 1 ∧
    ({ up with pins := { up.pins with starting := some 0 } }.tickTo 3040000).pins.starting = some 0 ∧ (up.tickTo 6250).now % slowTk = 0 ∧ (up.tickTo 0).pins.powered = true ∧
    (gasping.tickTo 0).pwr.s5.any (fun x => decide (x.sent < x.due) && x.journal) = true ∧ ((gasping.tickTo 0).port 0).tx = none ∧ (gasping.tickTo 0).pwr.flash = [] ∧
    0 + 2000000 ≤ (gasping.tickTo 2000000).now ∧ (gasping.tickTo 1999999).now < 0 + 2000000 ∧
    ((State.reset.onPwr (fun p => { p with hold := some { afterS5 := false, since := some 0 } })).tickTo 2000000000).holdOver = true ∧
    ((State.reset.onPwr (fun p => { p with hold := some { afterS5 := true, since := some 0 } })).tickTo (secTk * 1000000)).holdOver = true ∧ State.reset.holdOver = false ∧
    (up.tickTo 0).alive = true ∧ ((upWith [(O.PMBUS_ENABLE, 1)]).tickTo 0).flag O.PMBUS_ENABLE = true := by decide

theorem wit_PowerOnAndResetStartAnew : (up.tickTo 0).pins.powered = true ∧ (up.tickTo 0).pins.low = none ∧ (100 : Nat) < 1000 ∧
    ((after (.resetNAssert 0 1000) State.reset).tickTo 1).pins.low.isSome = true ∧ (up.tickTo 0).domainUp 1 = true ∧ State.reset.domainUp 1 = false := by
  decide +kernel

/-- A test on lane 5 without a verdict, and engine 2 reinitializing. -/
def testing : State := up.onCtr (fun c => { c with
  tests := [{ logical := 0x105, member := 0x105, test := 0x20, at_ := 0, asn := 0, request := false, judged := false, failed := false, detail := 0, back := 0 }]
  reinit := [{ member := 0x402, test := 0x30, back := 0, at_ := 9, failed := false }] })

theorem wit_CountersSnapAndTestsEnd : [1, 2, 3].all (fun v => up.takes 0 can1 O.SNAP_COMMAND 1 v) = true ∧
    ((upWith [(O.EXPORT_PERIOD_MS, 1000)]).tickTo 200000000).rd O.EXPORT_PERIOD_MS * 200000 ≠ 0 ∧
    ((upWith [(O.EXPORT_PERIOD_MS, 1000)]).tickTo 200000000).ctr.exportAt + 200000000 ≤ ((upWith [(O.EXPORT_PERIOD_MS, 1000)]).tickTo 200000000).now ∧
    (up.tickTo 0).domainUp 8 = true ∧ (served can1).takes 0 can1 O.TEST_REQUEST 4 (0x105 + 0x20 * 2 ^ 16) = true ∧ (up.heard 0 can1).requestResult can1 0x105 0x20 = 0 ∧
    (up.heard 0 can1).requestResult can1 0x105 0x99 = 5 ∧ ((testing.tickTo 0).ctr.tests.find? (fun x => x.member == 0x105 && !x.judged)).isSome = true ∧
    (∃ x ∈ (testing.tickTo 0).ctr.reinit, x.member = 0x402) := by decide

/-- Programming of node ID 9 is under way for client 1. -/
def programming : State := (served can1).onOtp (fun o => { o with job := some { area := 1, value := 9, who := some (can1, O.NODE_ID, false), at_ := 0, then_ := [] } })

theorem wit_OtpWritesProgramOrAreRefused : ((served can1).writable 0 can1 O.NODE_ID 1 9).isSome = true ∧ 9 ≠ ((served can1).heard 0 can1).rd O.NODE_ID ∧
    ((served can1).heard 0 can1).lifecycle = 1 ∧ ((served can1).heard 0 can1).otpLeft 1 = 8 ∧ ((served can1).heard 0 can1).otp.job = none ∧
    (programming.heard 0 can1).otp.job.isSome = true ∧ (served can1).stages 0 can1 O.REGION_PROFILE 1556 0 = true ∧
    (served can1).stages 0 can1 O.ROOT_ROTATE 1 0 = true ∧ [2, 3, 4].all (fun v => (served can1).stages 0 can1 O.LIFECYCLE 1 v) = true ∧
    (∃ v, (served can1).stages 0 can1 O.BOOT_KEY_HASH 32 v = true) ∧
    (asked O.REGION_PROFILE 1556 0 []).appliesAt 6250 can1 O.REGION_PROFILE 1556 0 ∧ (asked O.REGION_PROFILE 1555 0 []).appliesAt 6250 can1 O.REGION_PROFILE 1555 0 ∧
    (asked O.ROOT_ROTATE 1 1 []).appliesAt 6250 can1 O.ROOT_ROTATE 1 1 ∧ (asked O.LIFECYCLE 1 2 []).appliesAt 6250 can1 O.LIFECYCLE 1 2 ∧
    (asked O.LIFECYCLE 1 3 []).appliesAt 6250 can1 O.LIFECYCLE 1 3 ∧ (asked O.LIFECYCLE 1 4 []).appliesAt 6250 can1 O.LIFECYCLE 1 4 ∧
    (asked O.BOOT_KEY_HASH 32 5 []).appliesAt 6250 can1 O.BOOT_KEY_HASH 32 5 ∧ ((programming.tickTo 0).otpRecs 1).length + 1 < otpRoom 1 :=
  ⟨by decide +kernel, by decide +kernel, by decide +kernel, by decide +kernel, by decide +kernel, by decide +kernel, by decide +kernel,
    by decide +kernel, by decide +kernel, ⟨5, by decide +kernel⟩, asked_at _ _ _ (by decide +kernel) (by decide +kernel),
    asked_at _ _ _ (by decide +kernel) (by decide +kernel), asked_at _ _ _ (by decide +kernel) (by decide +kernel),
    asked_at _ _ _ (by decide +kernel) (by decide +kernel), asked_at _ _ _ (by decide +kernel) (by decide +kernel),
    asked_at _ _ _ (by decide +kernel) (by decide +kernel), asked_at _ _ _ (by decide +kernel) (by decide +kernel), by decide +kernel⟩

end Sys2Proof.Tests
end

section
/-!
The access-fault log (R90) and the bus errors of a hart's accesses (Table 2.10, R37): what a logged fault leaves alone, what the clock leaves
of the outputs, and which branch of an access each of its guards takes.
-/
namespace Sys2Proof.Machine

/-! ## The access-fault log -/

/-- The entry put last into a ring is its newest, whether or not the oldest gives way. -/
@[simp] theorem getLast?_pushRing {α : Type} (n : Nat) (l : List α) (a : α) : (pushRing n l a).getLast? = some a := by
  unfold pushRing
  split <;> exact List.getLast?_concat

@[simp] theorem State.logFault_out (s : State) (code address transport access source : Nat) :
    (s.logFault code address transport access source).out = s.out := by
  unfold State.logFault
  split <;> simp

/-- A logged fault changes the objects, the event counts and the jot part at most; `State.logFault_out` holds the outputs fast. -/
theorem State.logFault_frame (s : State) (code address transport access source : Nat) :
    let u := s.logFault code address transport access source
    u = { s with out := u.out, objs := u.objs, ctr := u.ctr, jot := u.jot } := by
  unfold State.logFault
  split <;> rfl

theorem State.rd_logFault_ne (s : State) (code address transport access source : Nat) {k : Nat}
    (hs : k ≠ O.FAULT_STATUS) (hc : k ≠ O.FAULT_COUNT) : (s.logFault code address transport access source).rd k = s.rd k := by
  unfold State.logFault
  split <;> simp [State.rd_wr_ne, hs, hc]

theorem State.logFault_newest (s : State) (code address transport access source : Nat) :
    (s.logFault code address transport access source).jot.faults.getLast?.map (fun e => e.code) = some code := by
  simp [State.logFault]

/-- A fault logged and then told by one output is a refusal that changes nothing else. -/
theorem State.logFault_emit_refusedWith (s : State) (a : Abort) (address transport access source : Nat) (e : OutEvent) :
    RefusedWith s ((s.logFault a.code address transport access source).emit e) a := by
  refine ⟨?_, ?_, s.logFault_newest ..⟩
  · exact congrArg (fun u : State => u.emit e) (s.logFault_frame a.code address transport access source)
  · intro k hk
    simp only [List.mem_cons, List.not_mem_nil, or_false, not_or] at hk
    obtain ⟨-, hstatus, hcount, -⟩ := hk
    exact s.rd_logFault_ne _ _ _ _ _ hstatus hcount

/-- A hart's access of the window is refused by a bus error at its address. -/
theorem State.refuseAt_hartReq (s : State) (h cmd index sub addr : Nat) (a : Abort) :
    RefusedWith s (s.refuseAt (hartReq h) cmd index sub addr a) a ∧
      (s.refuseAt (hartReq h) cmd index sub addr a).out = s.out ++ [.busError h addr] := by
  have hb : s.refuseAt (hartReq h) cmd index sub addr a =
    (s.logFault a.code addr 2 (accessOf cmd index sub) h).emit (.busError h addr) := rfl
  rw [hb]
  exact ⟨s.logFault_emit_refusedWith .., by simp⟩

/-- A hart's access elsewhere is refused by a bus error at its address. -/
theorem State.coreError_refused (s : State) (a : Abort) (h addr access : Nat) :
    RefusedWith s (s.coreError a h addr access) a ∧ (s.coreError a h addr access).out = s.out ++ [.busError h addr] :=
  ⟨s.logFault_emit_refusedWith .., by simp [State.coreError]⟩

/-! ## The clock discards the outputs of the command before -/

@[simp] theorem State.hitchClose_out (s : State) (k : HitchKey) (a b paused : Nat) : (s.hitchClose k a b paused).out = s.out := by
  unfold State.hitchClose
  split
  · simp [State.hitchSuspend, State.onHitch]
  · dsimp only
    split <;> simp [State.onHitch]

@[simp] theorem State.judgeEnds_out (s : State) : s.judgeEnds.out = s.out := by
  unfold State.judgeEnds
  exact List.foldlRecOn _ _ rfl (motive := fun u : State => u.out = s.out) (fun u hu e _ => (u.hitchClose_out ..).trans hu)

@[simp] theorem State.tickTo_out (s : State) (t : Tick) : (s.tickTo t).out = [] := State.judgeEnds_out _

/-! ## Accesses of the dictionary window -/

/-- The window serves the accesses of a running hart once they are heard. -/
theorem State.csrAccess_of_hartRuns (s : State) (t : Tick) (h : Nat) (f : State → State) (hr : (s.tickTo t).hartRuns h = true) :
    (s.tickTo t).csrAccess h f = f (s.heard t (hartReq h)) := if_pos hr

/-- A read that is not refused is one of the object that its place names. -/
theorem State.readCheck_ok_findObj {s : State} {r : Req} {i sub : Nat} {d : ObjDesc} (h : s.readCheck r i sub = .ok d) :
    findObj i sub = .ok d := by
  unfold State.readCheck at h
  split at h
  · cases h
  · rename_i d' hd
    iterate 4 (split at h; · cases h)
    exact hd.trans h

/-- Table 2.10 serves a read of an object that has no transfer cell only where the object itself refuses none. -/
theorem State.readCheck_of_csrFault {s : State} {h addr width i sub word : Nat} {d : ObjDesc}
    (hf : s.csrFault h addr width false = none) (hp : csrPlace addr = (i, sub, word)) (hd : findObj i sub = .ok d)
    (hl : d.long = false) : s.readCheck (hartReq h) i sub = .ok d := by
  cases hc : s.readCheck (hartReq h) i sub with
  | ok d' => rw [← hd, s.readCheck_ok_findObj hc]
  | error a =>
    exfalso
    unfold State.csrFault at hf
    generalize csrPlace addr = place at hf hp
    subst hp
    simp only [hd, hl, hc, Bool.false_eq_true, if_false, false_and] at hf
    repeat' split at hf
    all_goals cases hf

/-- A hart's read of an object of up to 64 octets other than SVC_CHALLENGE, where the object refuses none. -/
theorem State.csrRead_of_readCheck {s : State} {h i sub : Nat} {shadow : Bool} {p : CsrPart} {d : ObjDesc} (hd : findObj i sub = .ok d)
    (hl : d.long = false) (hc : s.readCheck (hartReq h) i sub = .ok d) (hk : recKey i sub ≠ O.SVC_CHALLENGE) :
    s.csrRead h shadow i sub p = s.readWord h shadow i sub p d := by
  simp only [State.csrRead, hd, hl, hc]
  rw [if_neg Bool.false_ne_true, if_neg (fun hx => hk hx.1)]

/-- A read of at most a word of word 0 gives its bits; all else that it may change is the hart's latch. -/
theorem State.readWord_word0 (s : State) (h : Nat) (shadow : Bool) (i sub : Nat) {p : CsrPart} (d : ObjDesc) (hn : p.width ≠ 64)
    (hw : p.word = 0) :
    (s.readWord h shadow i sub p d).out =
        s.out ++ [.csrData h (bits (s.readObj (hartReq h) i sub d shadow).2 p.lo p.width)] ∧
      SameObjects s (s.readWord h shadow i sub p d) [] := by
  simp only [State.readWord, if_neg hn, if_pos hw]
  split <;> exact ⟨rfl, fun _ _ => rfl⟩

/-- CSR_ACCESS_FAULT in the window, by a running hart: the bus error of Table 2.10, or the access is served. -/
theorem execCsrAccessFault_inWindow {s : State} {t : Tick} {h : Fin 16} {addr width val : Nat} {write : Bool}
    (hr : (s.tickTo t).hartRuns h.val = true) (hlo : 0x400000000 ≤ addr) (hhi : addr < 0x500000000) :
    exec (.csrAccessFault t h addr width write val) s = .next (match (s.heard t (hartReq h.val)).csrFault h.val addr width write with
      | some a => (s.heard t (hartReq h.val)).refuseAt (hartReq h.val) (if write then 0x02 else 0x01) (csrPlace addr).1
          (csrPlace addr).2.1 addr a
      | none => (s.heard t (hartReq h.val)).csrServe h.val addr width val write) :=
  have hin : ¬ (addr < 0x400000000 ∨ 0x500000000 ≤ addr) := by omega
  congrArg Host.Outcome.next ((State.csrAccess_of_hartRuns s t h.val _ hr).trans (if_neg hin))

/-- A read of 8 to 32 bits of word 0 that Table 2.10 serves gives those bits of the object. -/
theorem State.csrServe_read_word0 {s : State} {h addr width val index sub : Nat} {d : ObjDesc}
    (hf : s.csrFault h addr width false = none) (hn : width ≤ 32) (hp : csrPlace addr = (index, sub, 0))
    (hd : findObj index sub = .ok d) (hl : d.long = false) (hk : recKey index sub ≠ O.SVC_CHALLENGE) :
    (s.csrServe h addr width val false).out =
        s.out ++ [.csrData h (bits (s.readObj (hartReq h) index sub d (decide (0x440000000 ≤ addr))).2 (8 * (addr % 4)) width)] ∧
      SameObjects s (s.csrServe h addr width val false) [] := by
  have hserve : s.csrServe h addr width val false = s.readWord h (decide (0x440000000 ≤ addr)) index sub
      { word := 0, lo := 8 * (addr % 4), width := width } d := by
    simp only [State.csrServe, hp]
    exact State.csrRead_of_readCheck hd hl (State.readCheck_of_csrFault hf hp hd hl) hk
  rw [hserve]
  exact s.readWord_word0 h _ index sub d (show width ≠ 64 by omega) rfl

/-! ## Accesses elsewhere -/

/-- CORE_ACCESS_FAULT by a running hart: the bus error of R37, a fetch, or the access is served. -/
theorem execCoreAccessFault_of_hartRuns {s : State} {t : Tick} {h : Fin 16} {addr width val : Nat} {write fetch : Bool}
    (hr : (s.tickTo t).hartRuns h.val = true) :
    exec (.coreAccessFault t h addr width write fetch val) s = .next (match (s.tickTo t).coreRefusal addr width write with
      | some a => (s.tickTo t).coreError a h.val addr (if fetch then 4 else if write then 1 else 0)
      | none => if fetch then s.tickTo t else (s.tickTo t).coreServe h.val addr width val write) :=
  congrArg Host.Outcome.next (if_neg (by simp [hr]))

/-- TIME of the timer block stands at 0x0200F000 (R383). -/
theorem State.coreServe_readTime (s : State) (h val : Nat) :
    s.coreServe h 0x0200F000 64 val false = s.emit (.csrData h (bits s.timeNow 0 64)) := rfl

/-- CMP of hart `k` stands at 0x02000000 + 256 k (R383). -/
theorem State.coreServe_writeCmp (s : State) (h width val : Nat) {k : Nat} (hk : k < 16) :
    s.coreServe h (0x02000000 + 256 * k) width val true = s.setCmp k (val % 2 ^ 64) := by
  have hoff : 0x02000000 + 256 * k - 0x02000000 = 256 * k := by omega
  unfold State.coreServe State.timerWrite
  rw [if_pos (by omega), if_pos rfl, hoff, if_neg (by omega), if_pos (by omega), Nat.mul_div_cancel_left k (by decide)]

@[simp] theorem State.hart_setCmp_cmp (s : State) (k v : Nat) : ((s.setCmp k v).hart k).cmp = v := by
  simp [State.setCmp, State.hart, State.onHart]

theorem State.setCmp_frame (s : State) (k v : Nat) : s.setCmp k v = { s with cores := (s.setCmp k v).cores } := rfl

/-- An access that lies neither in the timer block nor in the interrupt controller nor at the task port has no effect. -/
theorem State.coreServe_elsewhere (s : State) (h width val : Nat) (write : Bool) {addr : Nat}
    (ha : addr < 0x02000000 ∨ (0x02010000 ≤ addr ∧ addr < 0x0C000000) ∨ (0x10000000 ≤ addr ∧ addr < 0x30000000) ∨
      0x31000000 ≤ addr) : s.coreServe h addr width val write = s := by
  unfold State.coreServe
  rw [if_neg (by omega), if_neg (by omega), if_neg (by omega)]

/-! ## The statement -/

/-- Settles O22: the branch that the guards of each of the two commands select refuses the access with a logged bus error or serves it. -/
theorem accessFaultsAreLogged : Obligations.AccessFaultsAreLogged := by
  refine ⟨?window, ?other⟩
  case window =>
    intro s t h addr width val write hr hlo hhi
    refine ⟨_, execCsrAccessFault_inWindow hr hlo hhi, fun a hf => ?_, fun index sub d hf hread hn hp hd hl hk => ?_⟩
    · simp only [hf]
      exact State.refuseAt_hartReq ..
    · subst hread
      simp only [hf]
      exact State.csrServe_read_word0 hf hn hp hd hl hk
  case other =>
    intro s t h addr width val write fetch hr
    refine ⟨_, execCoreAccessFault_of_hartRuns hr, fun a hf => ?_, fun hf => ?_⟩
    · simp only [hf]
      simpa using (s.tickTo t).coreError_refused a h.val addr _
    · simp only [hf]
      refine ⟨?fetched, ?time, ?cmp, ?elsewhere⟩
      case fetched => rintro rfl; rfl
      case time => rintro rfl rfl rfl rfl; exact State.coreServe_readTime _ _ val
      case cmp =>
        rintro k hk rfl rfl rfl rfl
        rw [if_neg Bool.false_ne_true, State.coreServe_writeCmp _ _ _ _ hk]
        exact ⟨State.hart_setCmp_cmp .., State.setCmp_frame ..⟩
      case elsewhere =>
        intro ha
        rw [State.coreServe_elsewhere _ _ _ _ _ ha, ite_self]

end Sys2Proof.Machine
end
